-- ==== Sys2Proof/Word.lean ====
section
/-! DEFINITION. The words of the model: bytes and sparse maps. -/

namespace Sys2Proof

/-- One byte. -/
abbrev Byte := BitVec 8

/-- A sparse map from a number to a value, as plain data: pairs in strictly rising order of the key, none holding the
value that an unlisted key reads as. -/
abbrev SMap (α : Type) := List (Nat × α)

end Sys2Proof
end

