-- ==== Sys2Proof/Syntax.lean ====
section
/-! DEFINITION. The commands of the IXF2508 as syntax: one constructor of Instr for each row of the table of
operations and events, with what the row's occasion carries. Values that the surroundings supply (converter codes,
sensor readings, outcomes of checks made outside the device) are operands. -/

namespace Sys2Proof

/-- Where a dictionary access comes from (12 R436): the host link, with the transaction's tag, or the field port, with
the requesting node, its transaction identifier and the service code of the answer (12 Dictionary table 13; for a SEG_ACK
the segment's number stands above bit 8). -/
inductive Port where
  | host (tag : Nat)
  | field (node tid service : Nat)
deriving DecidableEq, Repr

/-- A converter code read for a physical column of a tile (02 R57): 13 bits. -/
structure Reading where
  tile : Fin 25088
  col : Fin 33
  code : Fin 8192
deriving DecidableEq, Repr

/-- What symbol ECC finds in a granule (06 R238). -/
inductive EccOutcome where
  | clean | corrected | uncorrectable
deriving DecidableEq, Repr

/-- Where memory meets an uncorrectable error (06 R241, R255): in the oldest request of a stream's context, or in a granule of
the 192 MiB of staging SRAM that offsets reach. -/
inductive ErrAt where
  | stream (c : Fin 64)
  | staging (granule : Fin 3145728)
deriving DecidableEq, Repr

/-- A monitor conversion of a tile in a loop update (08 Converters table 3): entry 0 is the temperature, 1 to 33 the
pilots, 34 and 35 the two heater senses, and 36, of the last tile of a converter, its bank reference; 12 raw bits. -/
structure MonReading where
  entry : Fin 37
  code : Fin 4096
deriving DecidableEq, Repr

/-- What a calibration of a column has fitted (08 R326, R328): the trim word, the two level tables, the 64 ring offsets, the lock
temperature in 1/256 °C, and the static error and the noise of each of the 16 verification settings, in 1/1,000 code. -/
structure CalFit where
  trim : BitVec 32
  levelHi : List (Fin 4096)
  levelLo : List (Fin 4096)
  offsets : List Int
  tLock : Int
  errors : List (Int × Nat)
deriving DecidableEq, Repr

/-- What one attempt of baseline calibration finds of a column (08 R305, R334): besides the fit, k_c with 14 fraction bits, the pilot
level, the column heater's gain in 1/256 °C at full power, and the codes of the 8 check slots. -/
structure BaseFit where
  fit : CalFit
  kc : BitVec 16
  pilot : BitVec 16
  gain : BitVec 16
  codes : List (Fin 8192)
deriving DecidableEq, Repr

/-- The stimulus slots that a loop update has brought a tile under calibration (08 R327): none, pass slots of an op that lights the
tier, or pattern slots of the Carousel. -/
inductive Stimulus where
  | none | lit | pattern
deriving DecidableEq, Repr

/-- What a loop update finds at a tile: its monitor conversions and its stimulus slots (08 R307, R327). -/
structure Conversions where
  readings : List MonReading
  stim : Stimulus
deriving DecidableEq, Repr

/-- A refresh of a region, with the granules whose reads met a correctable error (04 R132, R157). -/
structure Refreshed where
  region : Fin 256
  corrected : List Nat
deriving DecidableEq, Repr

/-- A completion of a stream context's request to local memory, with the granules that met a correctable error (06 R238). -/
structure Completed where
  ctx : Fin 64
  corrected : List Nat
deriving DecidableEq, Repr

/-- A packet as it arrives on a lane (09 R343, R360): the lane, the 32-byte header, the payload and its CRC. -/
structure FabricPacket where
  lane : Fin 2304
  header : BitVec 256
  data : List Byte
  crc : BitVec 32
deriving DecidableEq, Repr

/-- How a field-port transmission ends (12 R454, R455): sent, arbitration lost, or an error. -/
inductive TxOutcome where
  | sent | lost | error
deriving DecidableEq, Repr

/-- What a bring-up step finds (14 Reset table 9, R504, R507 to R511): at step 1 whether the crystal is there, at step 2 the
straps and whether a copy of the NV option record is readable, at step 3 the images, by processor and bank, that do not
verify, at step 5 the stacks that fail training, at step 6 whether the combs start, at step 7 the columns that do not
lock, at step 8 what baseline calibration finds (08 Converters table 10): the bank references, by cluster and converter, off_ch and g_ch
of the monitor channels, the tile heater gains in 1/256 °C at full power, the attempts at each column in order, and the parking codes. -/
structure StepOutcome where
  crystal : Bool
  straps : BitVec 4
  optionsReadable : Bool
  badImages : List (Fin 102 × Fin 2)
  failedStacks : List (Fin 2)
  computeStarts : Bool
  linkStarts : Bool
  unlocked : List (Fin 25088 × Fin 33)
  refs : List (Fin 98 × Fin 16 × Fin 4096)
  channels : List (Fin 98 × Fin 17408 × BitVec 16 × BitVec 16)
  tileGains : List (Fin 25088 × BitVec 16)
  fits : List (Fin 25088 × Fin 33 × BaseFit)
  parking : List (Fin 25088 × Fin 34 × Fin 16384)
deriving DecidableEq, Repr

/-- A regulator's valid answer to a poll (15 R533): READ_VIN, READ_IOUT and READ_TEMPERATURE_1 in LINEAR11, READ_VOUT with
the exponent of VOUT_MODE, and STATUS_WORD. -/
structure VrAnswer where
  vin : BitVec 16
  vout : BitVec 16
  mode : BitVec 8
  iout : BitVec 16
  temp : BitVec 16
  status : BitVec 16
deriving DecidableEq, Repr


/-- The commands of the block: one constructor for every row of the table of operations and events. -/
inductive Instr where
  /-- REGION_DEFINE: a write of region r's descriptor with valid = 1 (01 R36). -/
  | regionDefine (p : Port) (r : Fin 256) (desc : BitVec 256)
  /-- REGION_DELETE: a write of region r's descriptor with valid = 0 (01 R36). -/
  | regionDelete (p : Port) (r : Fin 256) (desc : BitVec 256)
  /-- QUEUE_DB: a DBL to QUEUE_DB[q] (05 R166, R167; 11 Host link table 6). -/
  | queueDb (tag : BitVec 12) (q : Fin 4) (value : BitVec 64)
  /-- QUEUE_ABORT: a write of 1 to 181q:05 (05 R211). -/
  | queueAbort (p : Port) (q : Fin 4)
  /-- MVM: the Ringmaster reads queue q's next descriptor, an MVM (05 R168, R171). -/
  | mvm (q : Fin 4)
  /-- MVG: the Ringmaster reads queue q's next descriptor, an MVG (05 R168, R171). -/
  | mvg (q : Fin 4)
  /-- LDW_COPY: queue q's next descriptor is read, an LDW of copy mode (05 R168, 04 R135). -/
  | ldwCopy (q : Fin 4)
  /-- LDW_ADOPT: queue q's next descriptor is read, an LDW of adopt mode (05 R168, 04 R135). -/
  | ldwAdopt (q : Fin 4)
  /-- KAP: queue q's next descriptor is read, a KAP (05 R168, 04 R151). -/
  | kap (q : Fin 4)
  /-- NRM: queue q's next descriptor is read, an NRM (05 R168, 03 R117). -/
  | nrm (q : Fin 4)
  /-- SMX: queue q's next descriptor is read, an SMX (05 R168, 03 R120). -/
  | smx (q : Fin 4)
  /-- ACT_READ: queue q's next descriptor is read, an ACT of function READ (05 R168, 03 R99). -/
  | actRead (q : Fin 4)
  /-- ACT_WRITE: queue q's next descriptor is read, an ACT of function WRITE (05 R168, 03 R99). -/
  | actWrite (q : Fin 4)
  /-- ACT_ADD: queue q's next descriptor is read, an ACT of function ADD (05 R168, 03 R99). -/
  | actAdd (q : Fin 4)
  /-- ACT_SAVE: queue q's next descriptor is read, an ACT of function SAVE (05 R168, 03 R99). -/
  | actSave (q : Fin 4)
  /-- ACT_RESTORE: queue q's next descriptor is read, an ACT of function RESTORE (05 R168, 03 R99). -/
  | actRestore (q : Fin 4)
  /-- ACT_RELEASE: queue q's next descriptor is read, an ACT of function RELEASE (05 R168, 03 R99). -/
  | actRelease (q : Fin 4)
  /-- XFR: queue q's next descriptor is read, an XFR (05 R168, 09 R374). -/
  | xfr (q : Fin 4)
  /-- WTK: queue q's next descriptor is read, a WTK (05 R168, R173). -/
  | wtk (q : Fin 4)
  /-- SPB: queue q's next descriptor is read, an SPB (05 R168, R194). -/
  | spb (q : Fin 4)
  /-- SPC: queue q's next descriptor is read, an SPC (05 R168, R205). -/
  | spc (q : Fin 4)
  /-- SPQ: queue q's next descriptor is read, an SPQ (05 R168, R207). -/
  | spq (q : Fin 4)
  /-- FNC: queue q's next descriptor is read, an FNC (05 R168, R173). -/
  | fnc (q : Fin 4)
  /-- OP_DEPS_COMPLETE: the Ringmaster considers the admitted op of a slot: its deps have all completed (05 R177, R178). -/
  | opDepsComplete (q : Fin 4) (slot : Fin 1024)
  /-- STREAM_ARM: the contexts of the first op in the order of R181 that waits to arm, the op of this slot, are armed (06 R228). -/
  | streamArm (q : Fin 4) (slot : Fin 1024)
  /-- OP_START: the MVM or MVG of a slot reaches op start (01 R32, 05 R173). -/
  | opStart (q : Fin 4) (slot : Fin 1024)
  /-- PASS: the running op's next pass; readings are the converter codes that differ from the nominal ones (01 R19, 02 R57). -/
  | pass (readings : List Reading)
  /-- AMBIGUOUS_INTEGER: the conversion of an ambiguous integer of the tile completes (02 R62, R63). -/
  | ambiguousInteger (tile : Fin 25088)
  /-- COLUMN_MAP_CHANGE: the first pass boundary after the copy for the tile's pending column map change (01 R13). -/
  | columnMapChange (tile : Fin 25088)
  /-- PASS_REPEAT: the lowest pass that awaits its repeat is repeated (02 R64). -/
  | passRepeat (readings : List Reading)
  /-- OP_CONTRIBUTION: the running op's last pass has been taken (03 R87). -/
  | opContribution
  /-- DRAIN_START: the fused output stage is free and begins the next Draining set (03 R97). -/
  | drainStart
  /-- DRAIN_COMPLETE: the last element of the drain being read has been written (03 R96, R116, R119). -/
  | drainComplete
  /-- PREEMPT: a pass boundary at which R182 holds (05 R182). -/
  | preempt
  /-- STALL_PREEMPT: a pass boundary at which R183 holds (05 R183). -/
  | stallPreempt
  /-- SUSPEND: the preempted op's issued passes have reached the pass registers (05 R184, R185). -/
  | suspend
  /-- PREEMPTED_RESUME: a pass boundary at which R186 holds (05 R186). -/
  | preemptedResume
  /-- THERMAL_PAUSE: the Basin pauses at a pass boundary at which R298 holds (07 R298). -/
  | thermalPause
  /-- THERMAL_PAUSE_END: the Basin resumes after a loop update in which every column of R298 is clean (07 R299). -/
  | thermalPauseEnd
  /-- PAUSE_ALARM: a pause has lasted more than loop.pause_alarm loop updates (07 R299). -/
  | pauseAlarm
  /-- OP_RETIRE: queue q's oldest op has completed (05 R169). -/
  | opRetire (q : Fin 4)
  /-- EPOCH_RETIRE: a Committing epoch meets R205 (05 R205). -/
  | epochRetire (e : Fin 8)
  /-- PEER_EPOCH_TIMEOUT: provisional peer data without its commit or squash message (05 R204). -/
  | peerEpochTimeout (source : BitVec 17) (stamp : BitVec 16)
  /-- LDW_START: ordering allows the LDW of a slot (04 R136, R138). -/
  | ldwStart (q : Fin 4) (slot : Fin 1024)
  /-- LDW_COMPLETE: every ring of the LDW's region holds its new digit (04 R140). -/
  | ldwComplete (q : Fin 4) (slot : Fin 1024)
  /-- KAP_START: the KAP of a slot may start (04 R154). -/
  | kapStart (q : Fin 4) (slot : Fin 1024)
  /-- KAP_COMPLETE: the KAP's ring writes finish (04 R152). -/
  | kapComplete (q : Fin 4) (slot : Fin 1024)
  /-- REFRESH: one refresh of a region's rings from its active mirror, whose reads met correctable errors in the granules listed (04
  R132, R157). -/
  | refresh (r : Refreshed)
  /-- MIRROR_UNCORRECTABLE: a mirror read meets an uncorrectable error in the granule at a physical address (04 R157). -/
  | mirrorUncorrectable (r : Fin 256) (granule : Nat)
  /-- GRACE_END: region r's grace runs out (04 R159). -/
  | graceEnd (r : Fin 256)
  /-- DIGEST_COMPLETE: the digest engine finishes its oldest computation (04 R144). -/
  | digestComplete
  /-- CLUSTER_RING_REWRITE: the cluster's loops are locked after a block reset or a wake (04 R162, R164). -/
  | clusterRingRewrite (c : Fin 98)
  /-- STACK_RESET_OVERRUN: a stack's block reset has lasted 2 refresh periods (04 R163). -/
  | stackResetOverrun (k : Fin 2)
  /-- STREAM_DESC_WRITE: a write of context c's descriptor (06 R216). -/
  | streamDescWrite (p : Port) (c : Fin 64) (desc : BitVec 512)
  /-- STAGING_START: a write of 1 to 21ss:06 (06 R217). -/
  | stagingStart (p : Port) (c : Fin 64)
  /-- MEMORY_COMPLETION: the oldest request of a context to local memory completes, having met correctable errors in the granules
  listed (06 R219, R238). -/
  | memoryCompletion (c : Completed)
  /-- MEMORY_ERROR: the oldest request of a context completes with an error, or a granule of staging SRAM is uncorrectable (06 R241, R255). -/
  | memoryError (w : ErrAt)
  /-- STREAM_HALT: context c stands at a position whose translation faults (06 R248 to R250). -/
  | streamHalt (c : Fin 64)
  /-- RESUME_DB: a DBL to RESUME_DB[c] (06 R252). -/
  | resumeDb (tag : BitVec 12) (c : Fin 64) (value : BitVec 64)
  /-- STANDSTILL: 2,048 engine cycles without pool progress (06 R235). -/
  | standstill
  /-- XLAT_INVALIDATE: a write to 2400:03 (06 R246). -/
  | xlatInvalidate (p : Port) (value : BitVec 64)
  /-- PATROL_SCRUB: scrub reads one granule, with the ECC outcome found (06 R239). -/
  | patrolScrub (granule : Nat) (outcome : EccOutcome)
  /-- STACK_FAIL: a stack is declared failed (17 R564). -/
  | stackFail (k : Fin 2)
  /-- LOOP_UPDATE: the loop update of a tile, with the monitor conversions that arrive, the stimulus slots for its calibration and, at
  step 9, what this has fitted (07 R272, 08 R307, R326, R327). -/
  | loopUpdate (tile : Fin 25088) (rs : Conversions) (fit : Option CalFit)
  /-- OUTER_UPDATE: the outer update of a tile (07 R275, R286, R301). -/
  | outerUpdate (tile : Fin 25088)
  /-- LOOP_LOCK: a column's loop has made 16 clean updates (07 R270). -/
  | loopLock (tile : Fin 25088) (p : Fin 33)
  /-- PILOT_DEADLINE_LOSS: 16 missed deadlines in a row (07 R282). -/
  | pilotDeadlineLoss (tile : Fin 25088) (p : Fin 33)
  /-- PLAUSIBILITY_FAIL: columns of a tile fail their plausibility check (07 R286, R287). -/
  | plausibilityFail (tile : Fin 25088)
  /-- PILOT_COMPARATOR_FLAG: a pilot window comparator flags, in a lit pass slot or outside (07 R289, R290). -/
  | pilotComparatorFlag (tile : Fin 25088) (p : Fin 33) (lit : Bool)
  /-- SWEEP_END: a recovery sweep has taken its last step (07 R292). -/
  | sweepEnd (tile : Fin 25088) (p : Fin 33)
  /-- LINE_IDENTITY_CHECK: a column's check slots have given their codes (07 R293). -/
  | lineIdentityCheck (tile : Fin 25088) (p : Fin 33) (codes : List (Fin 8192))
  /-- CHECK_FORCE_INSERT: a check has waited 250 µs (07 R294). -/
  | checkForceInsert (tile : Fin 25088) (p : Fin 33)
  /-- CLUSTER_LOOPS_STOP: a write of 0 to 41cc:02 (07 R284). -/
  | clusterLoopsStop (p : Port) (c : Fin 98)
  /-- CLUSTER_LOOPS_RESTART: a write of 1 to 41cc:02 (07 R284, R285, 12 R440). -/
  | clusterLoopsRestart (p : Port) (c : Fin 98)
  /-- LOW_RATE_ENTRY: a cluster has been idle for loop.low_rate_after loop updates (08 R318). -/
  | lowRateEntry (c : Fin 98)
  /-- LOW_RATE_EXIT: an announcement names a tile of a cluster in low-rate mode (07 R277). -/
  | lowRateExit (c : Fin 98)
  /-- PUMP_FAIL: the pump in service of a comb fails (07 R261). -/
  | pumpFail (link : Bool)
  /-- COMB_RETURN: a lost comb is back on its lines (07 R261). -/
  | combReturn (link : Bool)
  /-- COMB_RETURN_TIMEOUT: a lost comb has not returned within 250 ms (07 R261). -/
  | combReturnTimeout (link : Bool)
  /-- HEATER_SHORT: a heater's SHORT comparator latches (08 R321). -/
  | heaterShort (tile : Fin 25088) (h : Fin 34)
  /-- HEATER_OPEN: a heater's sense shows no current (08 R321). -/
  | heaterOpen (tile : Fin 25088) (h : Fin 34)
  /-- TEMP_ALARM: a tile's temperature alarm triggers (08 R311). -/
  | tempAlarm (tile : Fin 25088)
  /-- INJECT_REQUEST: firmware asks for an injected sequence (08 R311, R312). -/
  | injectRequest (c : Fin 98) (conv : Fin 16) (chans : List (Fin 17424))
  /-- INJECTED_SEQUENCE_START: the oldest trigger of a converter runs its injected sequence, of one conversion or more, with the code
  converted first and those after it (08 R311, R312). -/
  | injectedSequenceStart (c : Fin 98) (conv : Fin 16) (first : Fin 4096) (later : List (Fin 4096))
  /-- MONITOR_FAIL: a monitor converter fails its check (08 R316, 17 R562, R563). -/
  | monitorFail (c : Fin 98) (conv : Fin 16)
  /-- MON_CAPTURE: a write of 4800:07 (08 R317). -/
  | monCapture (p : Port) (value : BitVec 128)
  /-- CAPTURE_START: no running op lights a tile of the requested capture's pair (08 R317). -/
  | captureStart (c : Fin 98)
  /-- CAROUSEL_WINDOW: the window of every 50th loop update opens in a tile (08 R324 to R326). -/
  | carouselWindow (tile : Fin 25088)
  /-- CALIBRATION_ABANDON: a calibration has run for 250 loop updates (08 R330). -/
  | calibrationAbandon (tile : Fin 25088)
  /-- MARGIN_TEST_ROUND: the next 2 ms round of the margin test begins (09 R345). -/
  | marginTestRound
  /-- LANE_PASS: a visit to an inbound lane ends, with the error-free bits it counted and whether every eye was open enough (09 R346). -/
  | lanePass (lane : Fin 2304) (bits : Nat) (eyes : Bool)
  /-- LANE_FRAME: a frame word arrives on a lane (09 R344). -/
  | laneFrame (lane : Fin 2304) (word : BitVec 64)
  /-- MARGIN_WAIT_EXPIRE: fab.margin_wait has elapsed (09 R348). -/
  | marginWaitExpire
  /-- SLOT_SCHEDULE: a transmit slot ends a packet or is idle (09 R350). -/
  | slotSchedule (fiber : Fin 18) (slot : Fin 24)
  /-- LANE_KEEPALIVE: an InService lane has carried no frame for 4 µs, and a slot is free (09 R351). -/
  | laneKeepalive (lane : Fin 2304) (slot : Fin 24)
  /-- WR: a WR arrives (09 R375, R377, R379, 10 R391). -/
  | wr (w : FabricPacket)
  /-- RDQ: an RDQ arrives (09 R377). -/
  | rdq (w : FabricPacket)
  /-- RDR: an RDR arrives (09 R376). -/
  | rdr (w : FabricPacket)
  /-- ACK: an ACK arrives (09 R374 to R376). -/
  | ack (w : FabricPacket)
  /-- NAK: a NAK arrives (09 R375, R376). -/
  | nak (w : FabricPacket)
  /-- DBL: a DBL packet arrives (09 R378). -/
  | dbl (w : FabricPacket)
  /-- EPC: an EPC arrives (09 R380). -/
  | epc (w : FabricPacket)
  /-- EPQ: an EPQ arrives (09 R380). -/
  | epq (w : FabricPacket)
  /-- EPA: an EPA arrives (09 R380). -/
  | epa (w : FabricPacket)
  /-- LCTL: an LCTL packet arrives (09 R364, R365, R367). -/
  | lctl (w : FabricPacket)
  /-- FORWARD: a packet for another device arrives; cut: its head had gone onward before its payload CRC was checked (09 R354 to R358). -/
  | forward (w : FabricPacket) (cut : Bool)
  /-- REPLAY_TIMEOUT: a lane's replay falls due (09 R365). -/
  | replayTimeout (lane : Fin 2304)
  /-- LANE_SILENCE_TIMEOUT: no frame has arrived on a lane for 8 µs (09 R366). -/
  | laneSilenceTimeout (lane : Fin 2304)
  /-- LANE_RETIRE: a lane's errors or replays call for its retirement (09 R366, R367). -/
  | laneRetire (lane : Fin 2304) (inbound : Bool)
  /-- PACKET_AGED: packets have reached 15.5 µs of residence (09 R368). -/
  | packetAged
  /-- XFR_TIMEOUT: a tag's use has waited fab.xfr_timeout (09 R373). -/
  | xfrTimeout (tag : BitVec 16)
  /-- DOORBELL_SEND: a write of 3000:10 (09 R378). -/
  | doorbellSend (p : Port) (value : BitVec 64)
  /-- FABRIC_STOP: a write of 0 to 3000:02 (09 R385). -/
  | fabricStop (p : Port)
  /-- FABRIC_RESTART: a write of 1 to 3000:02 (09 R385, 12 R440). -/
  | fabricRestart (p : Port)
  /-- CASCADE_STOP: a write of 0 to 3400:02 (10 R390). -/
  | cascadeStop (p : Port)
  /-- CASCADE_RESTART: a write of 1 to 3400:02 (10 R389, 12 R440). -/
  | cascadeRestart (p : Port)
  /-- PROBE_SEND: a probe period has passed (10 R391). -/
  | probeSend
  /-- MEMBER_LOSS_TIMEOUT: 200 µs without an accepted word from a member (10 R393). -/
  | memberLossTimeout (m : Fin 4096)
  /-- LINK_FRAME: a host link frame arrives: whether its codewords decode and every tcrc holds, its frame control, and the flits of each class it carries (11 R405, R406, R409, R413). -/
  | linkFrame (decoded : Bool) (ctl : BitVec 64) (req rsp : Fin 11)
  /-- LINK_REPLAY_TIMEOUT: 4 µs with uncovered frames and no advance of aseq (11 R406). -/
  | linkReplayTimeout
  /-- LANE_LOCK_LOSS: a host link lane has lost codeword lock for 1 µs (11 R407). -/
  | laneLockLoss (lane : Fin 4)
  /-- LINK_UP: all lanes are locked and aligned and each end has accepted a frame (11 R407). -/
  | linkUp
  /-- PRD: a PRD's header arrives (11 R412, R418). -/
  | prd (h : BitVec 256)
  /-- PWR: a PWR arrives (11 R412, R418). -/
  | pwr (h : BitVec 256) (data : List Byte)
  /-- MRD: an MRD's header arrives (11 R412, R416). -/
  | mrd (h : BitVec 256)
  /-- MWR: an MWR arrives (11 R412, R416). -/
  | mwr (h : BitVec 256) (data : List Byte)
  /-- CPL: a CPL arrives (11 R414, R415, R419). -/
  | cpl (h : BitVec 256) (data : List Byte)
  /-- CPL_TIMEOUT: a device request has no CPL within hl.cpl_timeout (11 R414). -/
  | cplTimeout (tag : BitVec 12)
  /-- EVT: the next event record can be delivered (11 R420 to R422). -/
  | evt
  /-- EVT_HEAD: an MWR of the register EVT_HEAD (11 R422). -/
  | evtHead (tag : BitVec 12) (value : BitVec 64)
  /-- HOST_LEVEL: a write of 0400:04 (11 R425, R426). -/
  | hostLevel (p : Port) (level : BitVec 16)
  /-- SESSION_CLOSE: an MWR of the register SESSION_CLOSE (11 R424, R425). -/
  | sessionClose (tag : BitVec 12) (value : BitVec 64)
  /-- DEVICE_RESET_MESSAGE: eight accepted frames have carried rkind 1 (11 R429). -/
  | deviceResetMessage
  /-- PROCESSOR_RESET_MESSAGE: eight accepted frames have carried rkind 2 and one rproc (11 R429). -/
  | processorResetMessage
  /-- OBJECT_WRITE: a write of a whole value to a dictionary object (12 R432, R433). -/
  | objectWrite (p : Port) (index : BitVec 16) (sub : BitVec 8) (data : List Byte)
  /-- NV_COMMIT: a written NV object reaches the NV store (12 R435). -/
  | nvCommit (index : BitVec 16) (sub : BitVec 8)
  /-- DIR_ENTRY: a read of 0000:03 (12 R438). -/
  | dirEntry (p : Port)
  /-- LOG_ENTRY: a read of 7800:03 (12 R448). -/
  | logEntry (p : Port)
  /-- COUNTER_CLEAR: a write of 0 to a counter (12 R445). -/
  | counterClear (p : Port) (n : Fin 55)
  /-- CLEAR_ALL: a write of 1 to 7000:03 (12 R445). -/
  | clearAll (p : Port)
  /-- BASIN_STOP: a write of 0 to 1000:0B (12 R439). -/
  | basinStop (p : Port)
  /-- BASIN_RESTART: a write of 1 to 1000:0B (12 R440). -/
  | basinRestart (p : Port)
  /-- FP_ENABLE: a write of 1 to 0500:02 (12 R452). -/
  | fpEnable (p : Port)
  /-- FP_DISABLE: a write of 0 to 0500:02 (12 R450). -/
  | fpDisable (p : Port)
  /-- FB_SILENT_ASSERT: FB_SILENT reads 1 through its filter (12 R451). -/
  | fbSilentAssert
  /-- FB_SILENT_RELEASE: FB_SILENT reads 0 through its filter (12 R451). -/
  | fbSilentRelease
  /-- READ: a field-port READ frame arrives (12 R460). -/
  | read (id : BitVec 29) (payload : List Byte)
  /-- WRITE: a field-port WRITE frame arrives (12 R460). -/
  | write (id : BitVec 29) (payload : List Byte)
  /-- SEG_INIT: a SEG_INIT frame arrives (12 R461). -/
  | segInit (id : BitVec 29) (payload : List Byte)
  /-- SEGMENT: a SEGMENT frame arrives (12 R461). -/
  | segment (id : BitVec 29) (payload : List Byte)
  /-- SEG_ACK: a SEG_ACK frame arrives (12 R461). -/
  | segAck (id : BitVec 29) (payload : List Byte)
  /-- ABORT: an ABORT frame arrives (12 R461). -/
  | abort (id : BitVec 29) (payload : List Byte)
  /-- SEG_TIMEOUT: the open segmented transfer has been idle for 1 s (12 R461). -/
  | segTimeout
  /-- RESET: a field-port RESET frame arrives (12 R462). -/
  | reset (id : BitVec 29) (payload : List Byte)
  /-- FP_RESET_EXECUTE: an accepted field-port reset falls due (12 R462). -/
  | fpResetExecute
  /-- FRAME_TRANSMIT: the next queued field-port frame starts on the bus (12 R454). -/
  | frameTransmit (outcome : TxOutcome)
  /-- TOKEN_REFILL: the token bucket's timer expires (12 R454). -/
  | tokenRefill
  /-- BUS_OFF: the transmit error count is above 255 (12 R452). -/
  | busOff
  /-- FLAG_LIMIT: active error flags sent on received frames have brought the count of the last second above the limit (12 R455). -/
  | flagLimit (flags : Fin 256)
  /-- WATCHDOG_EXPIRE: a processor's watchdog expires, at a program counter (13 R467). -/
  | watchdogExpire (p : Fin 102) (pc : BitVec 32)
  /-- PROCESSOR_EXCEPTION: a processor meets an exception it cannot continue from (13 R467). -/
  | processorException (p : Fin 102) (pc : BitVec 32)
  /-- FW_RESTART_REQUEST: a write of 6000:0A (13 R468). -/
  | fwRestartRequest (port : Port) (p : BitVec 8)
  /-- PROCESSOR_RETURN: a restarted processor runs again; for the Ringmaster, whether a copy of its warm image is valid (13 R473 to R477). -/
  | processorReturn (p : Fin 102) (warm : Bool)
  /-- DICT_WAIT_TIMEOUT: a dictionary access has waited 35 µs for a stopped processor (13 R465). -/
  | dictWaitTimeout
  /-- FW_COMMIT: a write of 6000:03 (13 R480, R481). -/
  | fwCommit (p : Port) (value : BitVec 128)
  /-- COMMIT_VERIFIED: the security core has verified the staged bundle (13 R480, 16 R539). -/
  | commitVerified
  /-- COMMIT_WRITTEN: the bundle is in the target bank (13 R480). -/
  | commitWritten
  /-- FW_ACTIVATE: a write of 6000:06 (13 R482, R483). -/
  | fwActivate (p : Port) (value : BitVec 32)
  /-- ACTIVATION_SWITCH: the next processor's image is loaded: whether its digest holds, and, where dict_level changes, the NV objects by sub and index whose copies it cannot read (13 R482, R486, R488). -/
  | activationSwitch (good : Bool) (unreadable : List (BitVec 24))
  /-- SUPPLY_MONITOR: a rail falls below its monitor threshold or rises above it (14 R492). -/
  | supplyMonitor (rail : Fin 8) (below : Bool)
  /-- PWR_GOOD_LOW: PWR_GOOD goes low or returns high (14 R492, 18 R578). -/
  | pwrGoodLow (low : Bool)
  /-- RST_N_PULSE: a low pulse on RST_N of a length in always-on cycles has ended; for 40 to 79 cycles, whether it was honoured (14 R493). -/
  | rstNPulse (cycles : Nat) (honoured : Bool)
  /-- RESET_RELEASE: the conditions that hold a reset have ended (14 R492, R498). -/
  | resetRelease
  /-- BRINGUP_STEP: the bring-up step in progress ends, with what it found (14 R509 to R511). -/
  | bringupStep (o : StepOutcome)
  /-- BOOT_LOAD: a write of 5800:0A (14 R506). -/
  | bootLoad (p : Port) (value : BitVec 128)
  /-- WARM_RESET_REQUEST: a write of 1 to 5800:01 (14 R496). -/
  | warmResetRequest (p : Port)
  /-- BLOCK_RESET_REQUEST: a write of 2 to 5800:01 (14 R496). -/
  | blockResetRequest (p : Port)
  /-- BLOCK_RESET_ASSERT: a block reset is asserted: the one requested, or one that firmware requests under the fault rules (14 R499). -/
  | blockResetAssert (kind num : BitVec 8)
  /-- BLOCK_RESET_RELEASE: a block has been in reset for 10 µs (14 R499). -/
  | blockResetRelease (kind num : BitVec 8)
  /-- SECURITY_VIOLATION: a security violation occurs (16 R548). -/
  | securityViolation
  /-- DEEP_STANDBY_REQUEST: a write of 1 to 5000:02 (15 R518, R519). -/
  | deepStandbyRequest (p : Port)
  /-- STANDBY_REQUEST: a write of 2 to 5000:02 (15 R518, R521). -/
  | standbyRequest (p : Port)
  /-- WAKE: the device is woken: by light on host link lane 0, or by a field-port frame (15 R520). -/
  | wake (frame : Bool)
  /-- CLUSTER_SLEEP: the power core looks at a cluster that may sleep (15 R522). -/
  | clusterSleep (c : Fin 98)
  /-- CLUSTER_WAKE: an asleep cluster is wanted (15 R524). -/
  | clusterWake (c : Fin 98)
  /-- CLUSTER_AWAKE: a waking cluster's loops are locked, and its rings are rewritten (15 R524). -/
  | clusterAwake (c : Fin 98)
  /-- WAKE_LOCK_TIMEOUT: a column has not locked within 250 loop updates of a wake (15 R525). -/
  | wakeLockTimeout (tile : Fin 25088) (p : Fin 33)
  /-- POWER_ESTIMATE: the power estimate of a microsecond, as FP32 (15 R526). -/
  | powerEstimate (watts : BitVec 32)
  /-- LADDER_RISE: a die sensor's reading in °C, as FP32, or an estimate before it, may raise the ladder (15 R528). -/
  | ladderRise (dram : Bool) (reading : BitVec 32)
  /-- LADDER_FALL: a hold below a ladder threshold may have run its time (15 R528). -/
  | ladderFall
  /-- VR_ALERT: VR_ALERT_N reads low through its filter (15 R530). -/
  | vrAlert
  /-- EMERGENCY_NORMAL: no emergency condition has held for 10 ms (15 R531). -/
  | emergencyNormal
  /-- THERMAL_TRIP: a trip comparator has stood at its limit for 1 µs (15 R532). -/
  | thermalTrip
  /-- THERMAL_TRIP_RELEASE: every comparator reads 10 °C below its limit (15 R532). -/
  | thermalTripRelease
  /-- PMBUS_POLL: the power core polls a regulator (15 R533, R535). -/
  | pmbusPoll (rail : Fin 8) (answer : Option VrAnswer)
  /-- VR_FAULT_CLEAR: a write of 1 to 5000:0F, with the valid answers of the polls that follow (15 R535). -/
  | vrFaultClear (p : Port) (answers : List (Fin 8 × VrAnswer))
  /-- FLOOR_RAISE: a write of 6800:06 (16 R542). -/
  | floorRaise (p : Port) (value : BitVec 32)
  /-- REVOKE_SLOT: an option command of kind 1 is written to 6800:08 (16 R544, R545). -/
  | revokeSlot (p : Port) (cmd : BitVec 1280)
  /-- RAISE_OTP_FLOOR: an option command of kind 2 is written to 6800:08 (16 R544, R545). -/
  | raiseOtpFloor (p : Port) (cmd : BitVec 1280)
  /-- RAISE_DEBUG_LOCK: an option command of kind 3 is written to 6800:08 (16 R544, R545). -/
  | raiseDebugLock (p : Port) (cmd : BitVec 1280)
  /-- DEBUG_UNLOCK: an option command of kind 4 is written to 6800:08 (16 R544, R547). -/
  | debugUnlock (p : Port) (cmd : BitVec 1280)
  /-- ATTEST_REQUEST: a write of 6800:10 (16 R549, R550). -/
  | attestRequest (p : Port) (nonce : BitVec 256)
  /-- ATTEST_READY: the report that was requested is complete (16 R549, R551). -/
  | attestReady
  /-- SMX_COMPLETE: the softmax helper has written its last byte (03 R122). -/
  | smxComplete
  /-- CAPTURE_COMPLETE: a capture has taken its sample pairs (08 R317). -/
  | captureComplete (c : Fin 98) (codes : List (Fin 4096))
  /-- CODEWORD_LOCK: a host link receive lane has found its codewords (11 R402, R407). -/
  | codewordLock (lane : Fin 4)
  /-- REFERENCE_CLOCK_LOSS: the selected reference leaves its range for 1 µs (18 R582). -/
  | referenceClockLoss
  /-- REFERENCE_CLOCK_RETURN: the selected reference has been back in range for 1 ms (18 R582). -/
  | referenceClockReturn
  /-- VR_ALERT_RELEASE: VR_ALERT_N returns high (15 R530). -/
  | vrAlertRelease
  /-- EPOCH_MESSAGE_TIMEOUT: no EPA has arrived within ops.peer_epoch_timeout (09 R380). -/
  | epochMessageTimeout (e : Fin 8)
  /-- BUS_OFF_RECOVERY: the bus-off recovery sequence is complete (12 R452). -/
  | busOffRecovery
  /-- BUS_IDLE_DETECT: 11 recessive bits have been seen (12 R451). -/
  | busIdleDetect
  /-- DEBUG_RELEASE: the debugger releases the halted processors (13 R470). -/
  | debugRelease
  /-- COMB_OVERTEMPERATURE: a comb module reaches 80 °C (15 Power table 7, 07 R261). -/
  | combOvertemperature (link : Bool)
deriving DecidableEq, Repr

end Sys2Proof
end

