-- ==== Sys2Proof/Decode.lean ====
section
/-! DEFINITION. Words of the table: the hardware is a block, and no row of its table of operations and events gives bits, so no
word spells a command. -/

namespace Sys2Proof

/-- The command that a word spells by the table's bits: none, since the table gives no row any bits. -/
def decodeTableWord (_nbits _w : Nat) : Option Instr := none

end Sys2Proof
end

