-- ==== Sys2Proof/Config.lean ====
section
/-! DEFINITION. What one device holds fixed, and the values that the spec leaves open. None of these has a body: a claim
about one of them holds whatever it is. -/

namespace Sys2Proof

/-- The unit's serial number (16 R536): fixed for a unit, not stated by the spec (log 4). -/
opaque Config.serial : Nat

/-- The ROM words of the built-in activation tables (03 R112): for table n and segment i, base in bits [31:0] and slope in
bits [63:32], where 03 R592 does not state them (log 5). -/
opaque Config.builtinSegment : Nat → Nat → BitVec 64

/-- The temperature, in 1/256 °C, that a corrected value of a tile sensor's channel stands for (07 R274, 08 R313; the spec
gives no scale; log 8). -/
opaque Config.sensorTemp : Int → Int

/-- The current, in nA, that a corrected value of a heater sense's channel stands for (08 R321; the spec gives no scale; log 8). -/
opaque Config.senseCurrent : Int → Int

/-- The digit codes, by ring row, that step 6 of a calibration writes (08 Converters table 9: mixed digits, which the spec does not name;
log 102). -/
opaque Config.mixedDigit : Nat → BitVec 4

/-- A free value: what the hardware supplies where the spec states none, by the index of the drawing (log 4). -/
opaque Config.free : Nat → BitVec 256

/-- The unit's identity key is made inside it (16 R536): the secret that its private key comes from (log 4). -/
opaque Config.identitySecret : Nat

/-- The device certificate in DER (16 R537), and that of the device CA: fixed for a unit, not stated by the spec (log 4). -/
opaque Config.deviceCert : List Byte

/-- The device CA's certificate in DER (16 R537; log 4). -/
opaque Config.caCert : List Byte

/-- The factory's own level table entries of a physical column (04 R125, 08 R305), which the spec does not state: by 33·tile +
column, and by 16 for the high kind plus the digit code (log 4). -/
opaque Config.factoryLevel : Nat → Nat → BitVec 12

end Sys2Proof
end

