-- ==== Sys2Proof/Machine/Bits.lean ====
section
/-! DEFINITION. Bit fields, byte order, sparse maps and exact numbers: what every other part of the machine reads and
writes words with. -/

namespace Sys2Proof.Machine

/-! ### Fields and byte order (00 R5) -/

/-- Bits lo and up, w of them, of a number. -/
def bits (n lo w : Nat) : Nat := (n >>> lo) % 2 ^ w

/-- One bit of a number. -/
def bit (n i : Nat) : Bool := n.testBit i

/-- The number with bits lo and up, w of them, replaced. -/
def setBits (n lo w v : Nat) : Nat :=
  n - (bits n lo w) * 2 ^ lo + (v % 2 ^ w) * 2 ^ lo

/-- A field value placed at bit lo (00 R5). -/
def field (lo w v : Nat) : Nat := (v % 2 ^ w) * 2 ^ lo

/-- A Bool as a bit. -/
def b2n (b : Bool) : Nat := if b then 1 else 0

/-- The w-bit two's complement value of a number. -/
def sint (w n : Nat) : Int := if n % 2 ^ w < 2 ^ (w - 1) then ((n % 2 ^ w : Nat) : Int) else ((n % 2 ^ w : Nat) : Int) - (2 ^ w : Nat)

/-- The w-bit two's complement code of an integer. -/
def toU (w : Nat) (i : Int) : Nat := (i % ((2 ^ w : Nat) : Int)).toNat

/-- Bytes of a number, least significant first (00 R5). -/
def leBytes : Nat → Nat → List Byte
  | 0, _ => []
  | k + 1, n => BitVec.ofNat 8 n :: leBytes k (n / 256)

/-- The number that bytes spell, least significant first (00 R5). -/
def leNat : List Byte → Nat
  | [] => 0
  | b :: bs => b.toNat + 256 * leNat bs

/-- The number at byte offset o of a byte list, k bytes. -/
def leAt (bs : List Byte) (o k : Nat) : Nat := leNat ((bs.drop o).take k)

/-- Ceiling of a quotient. -/
def cdiv (a b : Nat) : Nat := (a + b - 1) / b

/-- A saturating sum in w bits (12 R437). -/
def satAdd (w a b : Nat) : Nat := min (a + b) (2 ^ w - 1)

/-- Whether a number of bytes is printable ASCII, then zeros (12 R433). -/
def strOk (bs : List Byte) : Bool :=
  let body := bs.takeWhile (fun b => decide (b ≠ 0))
  let tail := bs.dropWhile (fun b => decide (b ≠ 0))
  body.all (fun b => decide (0x20 ≤ b.toNat) && decide (b.toNat ≤ 0x7E)) && tail.all (fun b => decide (b = 0))

/-- The bytes of a string, zero filled to a length (12 Dictionary table 1). -/
def strNat (s : String) : Nat := leNat (s.toList.map (fun c => BitVec.ofNat 8 c.toNat))

/-- The indices of the bits set in the low w bits. -/
def bitList (w n : Nat) : List Nat := (List.range w).filter (fun i => n.testBit i)

/-- The number whose set bits are the listed ones. -/
def bitSet (l : List Nat) : Nat := l.foldl (fun acc i => acc ||| 2 ^ i) 0

/-! ### Sparse maps -/

/-- What a sparse map holds under a key; d where it lists none. -/
def mget {α : Type} (d : α) : SMap α → Nat → α
  | [], _ => d
  | (k, v) :: m, a => if a = k then v else mget d m a

/-- The map with the entry of a key removed. -/
def mdel {α : Type} : SMap α → Nat → SMap α
  | [], _ => []
  | (k, v) :: m, a => if a = k then m else if a < k then (k, v) :: m else (k, v) :: mdel m a

/-- The map with an entry placed under a key, whatever it held. -/
def mput {α : Type} : SMap α → Nat → α → SMap α
  | [], a, x => [(a, x)]
  | (k, v) :: m, a, x =>
    if a = k then (a, x) :: m else if a < k then (a, x) :: (k, v) :: m else (k, v) :: mput m a x

/-- The map with key a holding x; d is what an unlisted key reads as, and is never listed. -/
def mset {α : Type} [DecidableEq α] (d : α) (m : SMap α) (a : Nat) (x : α) : SMap α :=
  if x = d then mdel m a else mput m a x

/-- Canonical form: keys strictly rising, and no entry equal to d. -/
def mwf {α : Type} [DecidableEq α] (d : α) : SMap α → Bool
  | [] => true
  | [(_, v)] => decide (v ≠ d)
  | (k, v) :: (k', v') :: m => decide (k < k') && decide (v ≠ d) && mwf d ((k', v') :: m)

/-- Update of what a key holds. -/
def mmod {α : Type} [DecidableEq α] (d : α) (m : SMap α) (a : Nat) (f : α → α) : SMap α :=
  mset d m a (f (mget d m a))

/-- Every entry of a map changed by its key and value; entries that become d are dropped. -/
def mmap {α : Type} [DecidableEq α] (d : α) (m : SMap α) (f : Nat → α → α) : SMap α :=
  (m.map (fun e => (e.1, f e.1 e.2))).filter (fun e => decide (e.2 ≠ d))

/-! ### Exact numbers and rounding (03 R101, R107) -/

/-- Two to an integer power, exactly. -/
def pow2 (e : Int) : Rat := if 0 ≤ e then ((2 ^ e.toNat : Nat) : Rat) else 1 / ((2 ^ (-e).toNat : Nat) : Rat)

/-- The nearest integer, and of two equally near ones the even one (03 R107). -/
def rneInt (v : Rat) : Int :=
  let f := v.floor
  let r := v - f
  if r < 1 / 2 then f else if 1 / 2 < r then f + 1 else if f % 2 = 0 then f else f + 1

/-- An integer clamped to a range. -/
def clampI (lo hi x : Int) : Int := if x < lo then lo else if hi < x then hi else x

/-- The exponent e with 2^e ≤ v < 2^(e+1), for a positive v. -/
def ilog2 (v : Rat) : Int :=
  let g : Int := (Nat.log2 v.num.natAbs : Int) - (Nat.log2 v.den : Int)
  if pow2 g ≤ v then (if pow2 (g + 1) ≤ v then g + 1 else g) else g - 1

/-- Whether an FP32 code is a NaN or an infinity. -/
def f32Bad (n : Nat) : Bool := bits n 23 8 == 255

/-- The exact value of a finite FP32 code. -/
def f32Val (n : Nat) : Rat :=
  let m := bits n 0 23
  let e := bits n 23 8
  let mag : Rat := if e = 0 then (m : Rat) * pow2 (-149) else ((2 ^ 23 + m : Nat) : Rat) * pow2 ((e : Int) - 150)
  if bit n 31 then -mag else mag

/-- roundTiesToEven to a format of 8 exponent bits and p fraction bits, as a code, with the overflow to infinity
(03 R107, R108). -/
def floatCode (p : Nat) (y : Rat) : Nat :=
  if y = 0 then 0
  else
    let sgn : Nat := if y < 0 then 2 ^ (p + 8) else 0
    let a : Rat := if y < 0 then -y else y
    let e : Int := max (ilog2 a) (-126)
    let q : Nat := (rneInt (a * pow2 ((p : Int) - e))).toNat
    -- q counts units of 2^(e-p); a carry into the next binade, or from subnormal to normal, is in the sum
    let code : Nat := ((e + 126).toNat) * 2 ^ p + q
    sgn + min code (255 * 2 ^ p)

/-- FP32 by roundTiesToEven (03 Weir table 6). -/
def f32Code (y : Rat) : Nat := floatCode 23 y

/-- BF16 by roundTiesToEven (03 Weir table 6). -/
def bf16Code (y : Rat) : Nat := floatCode 7 y

/-- FP32 by roundTiesToEven, saturating at the largest finite value (03 R114): the code, and whether it saturated. -/
def f32Sat (y : Rat) : Nat × Bool :=
  let c := f32Code y
  if f32Bad c then (c - 1, true) else (c, false)

/-- The integer square root, bit by bit. -/
def isqrt (n : Nat) : Nat :=
  ((List.range (Nat.log2 n / 2 + 1)).reverse).foldl (fun r i => if (r + 2 ^ i) * (r + 2 ^ i) ≤ n then r + 2 ^ i else r) 0

/-- FP32 of the square root of a positive exact value, correctly rounded and saturating (03 R114). -/
def f32Sqrt (x : Rat) : Nat × Bool :=
  -- scaled so that the integer root has more than 26 bits; half a unit stands for an inexact remainder
  let s : Int := max 0 (30 - ilog2 x / 2)
  let n := (x * pow2 (2 * s)).floor.toNat
  let t := isqrt n
  let exact : Bool := decide (((t * t : Nat) : Rat) = x * pow2 (2 * s))
  f32Sat (((t : Rat) + (if exact then 0 else 1 / 2)) * pow2 (-s))

end Sys2Proof.Machine
end

