-- ==== Sys2Proof/Machine/Objects.lean ====
section
/-! DEFINITION. The object dictionary's tables: every object that the spec's chapters list, with its type, size, access
class, retention, default, owning function and range (12 R430 to R434). -/

namespace Sys2Proof.Machine

/-- One line of an object table. The object exists at index base + i for i below count. -/
structure ObjRow where
  base : Nat
  count : Nat := 1
  sub : Nat
  /-- Dictionary table 1 code. -/
  ty : Nat
  size : Nat
  /-- 0 RO, 1 RW, 2 WO, 3 RWS (Dictionary table 2). -/
  acc : Nat := 0
  /-- 0 volatile, 1 NV, 2 retained, 3 constant (Dictionary table 2). -/
  kept : Nat := 0
  dflt : Nat := 0
  /-- owning function (Dictionary table 3), 0 for none. -/
  owner : Nat := 0
  /-- stated range, where the object states one as bounds. -/
  range : Option (Nat × Nat) := none
deriving DecidableEq, Repr

/-- Objects at 0x0000, part 0. -/
def objRows0_0 : List ObjRow := [
  { base := 0x0000, sub := 0x01, ty := 3, size := 4, kept := 3 },
  { base := 0x0000, sub := 0x02, ty := 3, size := 4, acc := 1 },
  { base := 0x0000, sub := 0x03, ty := 9, size := 16 },
  { base := 0x0100, sub := 0x01, ty := 8, size := 16, kept := 3, dflt := 336338637641 },
  { base := 0x0100, sub := 0x02, ty := 8, size := 16, kept := 3, dflt := 15815603730667593 },
  { base := 0x0100, sub := 0x03, ty := 1, size := 1, kept := 3, dflt := 176 },
  { base := 0x0100, sub := 0x04, ty := 4, size := 8, kept := 3 },
  { base := 0x0100, sub := 0x05, ty := 2, size := 2, kept := 3, dflt := 3 },
  { base := 0x0200, sub := 0x01, ty := 1, size := 1, dflt := 1 },
  { base := 0x0200, sub := 0x02, ty := 3, size := 4, dflt := 1 },
  { base := 0x0200, sub := 0x03, ty := 1, size := 1 },
  { base := 0x0200, sub := 0x04, ty := 9, size := 64 },
  { base := 0x0200, sub := 0x05, ty := 4, size := 8 },
  { base := 0x0400, sub := 0x01, ty := 1, size := 1 },
  { base := 0x0400, sub := 0x02, ty := 2, size := 2, kept := 3, dflt := 5 },
  { base := 0x0400, sub := 0x03, ty := 2, size := 2, kept := 3, dflt := 7 },
  { base := 0x0400, sub := 0x04, ty := 2, size := 2, acc := 1 },
  { base := 0x0400, sub := 0x05, ty := 0, size := 1 },
  { base := 0x0400, sub := 0x06, ty := 1, size := 1 },
  { base := 0x0400, sub := 0x07, ty := 2, size := 2 },
  { base := 0x0400, sub := 0x08, ty := 4, size := 8, acc := 1 },
  { base := 0x0400, sub := 0x09, ty := 3, size := 4, acc := 1 },
  { base := 0x0400, sub := 0x0A, ty := 3, size := 4 },
  { base := 0x0400, sub := 0x0B, ty := 3, size := 4, acc := 1, kept := 1, dflt := 60000, range := some (12000, 1200000) }]

/-- Objects at 0x0000, part 1. -/
def objRows0_1 : List ObjRow := [
  { base := 0x0400, sub := 0x0C, ty := 2, size := 2 },
  { base := 0x0500, sub := 0x01, ty := 1, size := 1 },
  { base := 0x0500, sub := 0x02, ty := 0, size := 1, acc := 1 },
  { base := 0x0500, sub := 0x03, ty := 0, size := 1, acc := 3, kept := 1, owner := 4 },
  { base := 0x0500, sub := 0x04, ty := 1, size := 1, acc := 3, kept := 1, dflt := 127, owner := 4, range := some (1, 254) },
  { base := 0x0500, sub := 0x05, ty := 3, size := 4, acc := 3, kept := 1, dflt := 500000, owner := 4 },
  { base := 0x0500, sub := 0x06, ty := 3, size := 4, acc := 3, kept := 1, dflt := 2000000, owner := 4 },
  { base := 0x0500, sub := 0x07, ty := 1, size := 1, acc := 3, kept := 1, dflt := 24, owner := 4, range := some (0, 31) },
  { base := 0x0500, sub := 0x08, ty := 2, size := 2, acc := 3, kept := 1, dflt := 200, owner := 4, range := some (1, 2000) },
  { base := 0x0500, sub := 0x09, ty := 1, size := 1, acc := 3, kept := 1, dflt := 8, owner := 4, range := some (1, 16) },
  { base := 0x0500, sub := 0x0A, ty := 1, size := 1, acc := 3, kept := 1, dflt := 2, owner := 4, range := some (0, 3) },
  { base := 0x0500, sub := 0x0B, ty := 1, size := 1, acc := 3, kept := 1, dflt := 16, owner := 4, range := some (1, 64) },
  { base := 0x0500, sub := 0x0C, ty := 3, size := 4, acc := 3, kept := 1, dflt := 84816, owner := 4 },
  { base := 0x0500, sub := 0x0D, ty := 1, size := 1 },
  { base := 0x0500, sub := 0x0E, ty := 2, size := 2 },
  { base := 0x0500, sub := 0x0F, ty := 1, size := 1 },
  { base := 0x0500, sub := 0x10, ty := 1, size := 1, acc := 3, kept := 1, dflt := 1, owner := 4, range := some (1, 254) }]

/-- Objects at 0x1000, part 0. -/
def objRows1_0 : List ObjRow := [
  { base := 0x1000, sub := 0x01, ty := 1, size := 1 },
  { base := 0x1000, sub := 0x02, ty := 3, size := 4, acc := 3, kept := 1, dflt := 250000000, owner := 1, range := some (50000000, 250000000) },
  { base := 0x1000, sub := 0x03, ty := 3, size := 4 },
  { base := 0x1000, sub := 0x04, ty := 2, size := 2, dflt := 15052 },
  { base := 0x1000, sub := 0x05, ty := 2, size := 2 },
  { base := 0x1000, sub := 0x06, ty := 2, size := 2 },
  { base := 0x1000, sub := 0x07, ty := 3, size := 4 },
  { base := 0x1000, sub := 0x08, ty := 2, size := 2 },
  { base := 0x1000, sub := 0x09, ty := 3, size := 4 },
  { base := 0x1000, sub := 0x0A, ty := 2, size := 2 },
  { base := 0x1000, sub := 0x0B, ty := 0, size := 1, acc := 1, dflt := 1 },
  { base := 0x1100, sub := 0x01, ty := 9, size := 32, count := 256, acc := 1 },
  { base := 0x1100, sub := 0x02, ty := 1, size := 1, count := 256 },
  { base := 0x1100, sub := 0x03, ty := 9, size := 48, count := 256 },
  { base := 0x1100, sub := 0x04, ty := 1, size := 1, count := 256 },
  { base := 0x1100, sub := 0x05, ty := 4, size := 8, count := 256 },
  { base := 0x1100, sub := 0x06, ty := 3, size := 4, count := 256 },
  { base := 0x1100, sub := 0x07, ty := 1, size := 1, count := 256 },
  { base := 0x1400, sub := 0x01, ty := 1, size := 1 },
  { base := 0x1400, sub := 0x02, ty := 1, size := 1 },
  { base := 0x1400, sub := 0x03, ty := 1, size := 1 },
  { base := 0x1400, sub := 0x04, ty := 0, size := 1 },
  { base := 0x1400, sub := 0x05, ty := 3, size := 4 },
  { base := 0x1410, sub := 0x01, ty := 9, size := 8256, kept := 3 }]

/-- Objects at 0x1000, part 1. -/
def objRows1_1 : List ObjRow := [
  { base := 0x1410, sub := 0x02, ty := 9, size := 8256, kept := 3 },
  { base := 0x1410, sub := 0x03, ty := 9, size := 8256, kept := 3 },
  { base := 0x1410, sub := 0x04, ty := 9, size := 8256, kept := 3 },
  { base := 0x1410, sub := 0x05, ty := 9, size := 8256, kept := 3 },
  { base := 0x1800, sub := 0x01, ty := 1, size := 1, acc := 3, kept := 1, dflt := 2, owner := 1, range := some (0, 16) },
  { base := 0x1800, sub := 0x02, ty := 3, size := 4, acc := 3, kept := 1, dflt := 1200, owner := 1, range := some (120, 1200000) },
  { base := 0x1800, sub := 0x03, ty := 2, size := 2, acc := 3, kept := 1, dflt := 4096, owner := 1, range := some (256, 8192) },
  { base := 0x1800, sub := 0x04, ty := 1, size := 1 },
  { base := 0x1800, sub := 0x05, ty := 2, size := 2 },
  { base := 0x1800, sub := 0x06, ty := 2, size := 2, dflt := 65535 },
  { base := 0x1800, sub := 0x07, ty := 3, size := 4, acc := 3, kept := 1, dflt := 240000, owner := 1, range := some (153600, 120000000) },
  { base := 0x1800, sub := 0x08, ty := 1, size := 1 },
  { base := 0x1810, sub := 0x01, ty := 3, size := 4, count := 4, acc := 3, dflt := 4294967295, owner := 1 },
  { base := 0x1810, sub := 0x02, ty := 3, size := 4, count := 4, acc := 3, dflt := 4294967295, owner := 1 },
  { base := 0x1810, sub := 0x03, ty := 2, size := 2, count := 4 },
  { base := 0x1810, sub := 0x04, ty := 2, size := 2, count := 4 },
  { base := 0x1810, sub := 0x05, ty := 0, size := 1, count := 4, acc := 2 },
  { base := 0x1A00, sub := 0x01, ty := 3, size := 4, count := 256, acc := 1 }]

/-- Objects at 0x2000, part 0. -/
def objRows2_0 : List ObjRow := [
  { base := 0x2000, sub := 0x01, ty := 2, size := 2, dflt := 16256 },
  { base := 0x2000, sub := 0x02, ty := 4, size := 8 },
  { base := 0x2000, sub := 0x03, ty := 4, size := 8 },
  { base := 0x2000, sub := 0x04, ty := 2, size := 2 },
  { base := 0x2100, sub := 0x01, ty := 9, size := 64, count := 64, acc := 1 },
  { base := 0x2100, sub := 0x02, ty := 1, size := 1, count := 64 },
  { base := 0x2100, sub := 0x03, ty := 3, size := 4, count := 64 },
  { base := 0x2100, sub := 0x04, ty := 9, size := 32, count := 64 },
  { base := 0x2100, sub := 0x05, ty := 2, size := 2, count := 64 },
  { base := 0x2100, sub := 0x06, ty := 0, size := 1, count := 64, acc := 2 },
  { base := 0x2100, sub := 0x07, ty := 2, size := 2, count := 64 },
  { base := 0x2400, sub := 0x01, ty := 4, size := 8, acc := 3, owner := 1 },
  { base := 0x2400, sub := 0x02, ty := 2, size := 2, dflt := 4096 },
  { base := 0x2400, sub := 0x03, ty := 4, size := 8, acc := 2 },
  { base := 0x2410, sub := 0x01, ty := 2, size := 2, acc := 3, kept := 1, dflt := 24, owner := 1, range := some (1, 168) },
  { base := 0x2410, sub := 0x02, ty := 1, size := 1 },
  { base := 0x2410, sub := 0x03, ty := 3, size := 4 }]

/-- Objects at 0x3000, part 0. -/
def objRows3_0 : List ObjRow := [
  { base := 0x3000, sub := 0x01, ty := 1, size := 1 },
  { base := 0x3000, sub := 0x02, ty := 0, size := 1, acc := 1, dflt := 1 },
  { base := 0x3000, sub := 0x03, ty := 3, size := 4, acc := 3, kept := 1, dflt := 4294967295, owner := 2 },
  { base := 0x3000, sub := 0x04, ty := 3, size := 4, acc := 3, kept := 1, dflt := 4210720, owner := 2 },
  { base := 0x3000, sub := 0x05, ty := 1, size := 1, kept := 3, dflt := 2 },
  { base := 0x3000, sub := 0x06, ty := 1, size := 1, acc := 3, kept := 1, dflt := 2, owner := 2 },
  { base := 0x3000, sub := 0x07, ty := 1, size := 1, acc := 3, kept := 1, dflt := 7, owner := 2, range := some (0, 7) },
  { base := 0x3000, sub := 0x08, ty := 3, size := 4, acc := 3, kept := 1, dflt := 153600, owner := 2, range := some (153600, 120000000) },
  { base := 0x3000, sub := 0x09, ty := 3, size := 4, acc := 3, kept := 1, dflt := 2400, owner := 2, range := some (120, 18000) },
  { base := 0x3000, sub := 0x0A, ty := 3, size := 4, acc := 3, kept := 1, dflt := 2000000, owner := 2, range := some (400000, 80000000) },
  { base := 0x3000, sub := 0x0B, ty := 2, size := 2 },
  { base := 0x3000, sub := 0x0C, ty := 9, size := 4608 },
  { base := 0x3000, sub := 0x0D, ty := 1, size := 1 },
  { base := 0x3000, sub := 0x0E, ty := 3, size := 4 },
  { base := 0x3000, sub := 0x0F, ty := 1, size := 1, dflt := 24 },
  { base := 0x3000, sub := 0x10, ty := 9, size := 8, acc := 2 },
  { base := 0x3000, sub := 0x11, ty := 2, size := 2 },
  { base := 0x3400, sub := 0x01, ty := 1, size := 1 },
  { base := 0x3400, sub := 0x02, ty := 0, size := 1, acc := 1 },
  { base := 0x3400, sub := 0x03, ty := 2, size := 2, acc := 3, owner := 5 },
  { base := 0x3400, sub := 0x04, ty := 2, size := 2, acc := 3, owner := 5 },
  { base := 0x3400, sub := 0x05, ty := 2, size := 2, acc := 3, owner := 5 },
  { base := 0x3400, sub := 0x06, ty := 2, size := 2, acc := 3, owner := 5 },
  { base := 0x3400, sub := 0x07, ty := 4, size := 8, acc := 3, owner := 5 }]

/-- Objects at 0x3000, part 1. -/
def objRows3_1 : List ObjRow := [
  { base := 0x3400, sub := 0x08, ty := 3, size := 4, acc := 3, dflt := 48000, owner := 5, range := some (12000, 96000) },
  { base := 0x3400, sub := 0x09, ty := 9, size := 16384, acc := 3, owner := 5 },
  { base := 0x3400, sub := 0x0A, ty := 2, size := 2, dflt := 65535 },
  { base := 0x3400, sub := 0x0B, ty := 9, size := 512 }]

/-- Objects at 0x4000, part 0. -/
def objRows4_0 : List ObjRow := [
  { base := 0x4000, sub := 0x01, ty := 1, size := 1 },
  { base := 0x4000, sub := 0x02, ty := 1, size := 1 },
  { base := 0x4000, sub := 0x03, ty := 1, size := 1, kept := 1 },
  { base := 0x4000, sub := 0x04, ty := 1, size := 1, kept := 1 },
  { base := 0x4000, sub := 0x05, ty := 7, size := 4, acc := 3, kept := 1, dflt := 1077936128, owner := 3 },
  { base := 0x4000, sub := 0x06, ty := 7, size := 4 },
  { base := 0x4000, sub := 0x07, ty := 7, size := 4 },
  { base := 0x4000, sub := 0x08, ty := 3, size := 4, acc := 1, kept := 1, dflt := 2500 },
  { base := 0x4000, sub := 0x09, ty := 0, size := 1 },
  { base := 0x4000, sub := 0x0A, ty := 3, size := 4 },
  { base := 0x4000, sub := 0x0B, ty := 1, size := 1, acc := 3, kept := 1, dflt := 3, owner := 3, range := some (1, 7) },
  { base := 0x4000, sub := 0x0C, ty := 2, size := 2, acc := 3, kept := 1, dflt := 48, owner := 3, range := some (16, 128) },
  { base := 0x4010, sub := 0x01, ty := 9, size := 64, acc := 3, kept := 1, dflt := 4697228509757995209058016118248161347904992598478870471701447673968292190086849948665643017959016474857177216, owner := 3 },
  { base := 0x4010, sub := 0x02, ty := 9, size := 64, acc := 3, kept := 1, dflt := 4697228509689643623908546995611520653307566930811583926986034785329986858636538917440662520358281688074944624, owner := 3 },
  { base := 0x4010, sub := 0x03, ty := 9, size := 64, acc := 3, kept := 1, dflt := 4697228509792171001632750679566481695203705432312513744059154118287444855812005464278133267047614175679873120, owner := 3 },
  { base := 0x4100, sub := 0x01, ty := 1, size := 1, count := 98 },
  { base := 0x4100, sub := 0x02, ty := 0, size := 1, count := 98, acc := 1, dflt := 1 },
  { base := 0x4100, sub := 0x03, ty := 0, size := 1, count := 98, acc := 1 },
  { base := 0x4100, sub := 0x04, ty := 2, size := 2, count := 98 },
  { base := 0x4100, sub := 0x05, ty := 2, size := 2, count := 98 },
  { base := 0x4800, sub := 0x01, ty := 2, size := 2, acc := 3, kept := 1, dflt := 250, owner := 3, range := some (25, 65535) },
  { base := 0x4800, sub := 0x02, ty := 7, size := 4, acc := 3, kept := 1, dflt := 1120403456, owner := 3 },
  { base := 0x4800, sub := 0x03, ty := 1, size := 1, acc := 1, kept := 1, dflt := 14, range := some (0, 15) },
  { base := 0x4800, sub := 0x04, ty := 2, size := 2, acc := 3, kept := 1, dflt := 256, owner := 3, range := some (1, 256) }]

/-- Objects at 0x4000, part 1. -/
def objRows4_1 : List ObjRow := [
  { base := 0x4800, sub := 0x05, ty := 3, size := 4, acc := 1 },
  { base := 0x4800, sub := 0x06, ty := 9, size := 64, acc := 1 },
  { base := 0x4800, sub := 0x07, ty := 9, size := 16, acc := 2 },
  { base := 0x4800, sub := 0x08, ty := 9, size := 16384 },
  { base := 0x4900, sub := 0x01, ty := 2, size := 2, count := 98 },
  { base := 0x4900, sub := 0x02, ty := 9, size := 32, count := 98 },
  { base := 0x4900, sub := 0x03, ty := 9, size := 32, count := 98 },
  { base := 0x4C00, sub := 0x01, ty := 0, size := 1, acc := 3, kept := 1, dflt := 1, owner := 3 },
  { base := 0x4C00, sub := 0x02, ty := 2, size := 2 },
  { base := 0x4C00, sub := 0x03, ty := 2, size := 2 },
  { base := 0x4C00, sub := 0x04, ty := 3, size := 4 },
  { base := 0x4C00, sub := 0x05, ty := 2, size := 2, acc := 1 },
  { base := 0x4C00, sub := 0x06, ty := 3, size := 4 },
  { base := 0x4C00, sub := 0x07, ty := 1, size := 1 },
  { base := 0x4C00, sub := 0x08, ty := 3, size := 4 },
  { base := 0x4C00, sub := 0x09, ty := 9, size := 3136 },
  { base := 0x4C00, sub := 0x0A, ty := 2, size := 2 }]

/-- Objects at 0x5000, part 0. -/
def objRows5_0 : List ObjRow := [
  { base := 0x5000, sub := 0x01, ty := 1, size := 1, dflt := 3 },
  { base := 0x5000, sub := 0x02, ty := 1, size := 1, acc := 1, dflt := 3 },
  { base := 0x5000, sub := 0x03, ty := 7, size := 4, acc := 1, kept := 1, dflt := 1146388480 },
  { base := 0x5000, sub := 0x04, ty := 1, size := 1 },
  { base := 0x5000, sub := 0x05, ty := 1, size := 1 },
  { base := 0x5000, sub := 0x06, ty := 1, size := 1 },
  { base := 0x5000, sub := 0x07, ty := 1, size := 1, acc := 1, kept := 1, range := some (0, 5) },
  { base := 0x5000, sub := 0x08, ty := 7, size := 4 },
  { base := 0x5000, sub := 0x09, ty := 0, size := 1 },
  { base := 0x5000, sub := 0x0A, ty := 0, size := 1, acc := 1, kept := 1, dflt := 1 },
  { base := 0x5000, sub := 0x0B, ty := 3, size := 4, acc := 1, kept := 1, dflt := 25000, range := some (250, 250000000) },
  { base := 0x5000, sub := 0x0C, ty := 9, size := 13, acc := 1 },
  { base := 0x5000, sub := 0x0D, ty := 9, size := 13 },
  { base := 0x5000, sub := 0x0E, ty := 1, size := 1 },
  { base := 0x5000, sub := 0x0F, ty := 0, size := 1, acc := 2 },
  { base := 0x5000, sub := 0x10, ty := 1, size := 1, kept := 2 },
  { base := 0x5010, sub := 0x01, ty := 7, size := 4, acc := 1, kept := 1, dflt := 1119092736 },
  { base := 0x5010, sub := 0x02, ty := 7, size := 4 },
  { base := 0x5010, sub := 0x03, ty := 7, size := 4 },
  { base := 0x5010, sub := 0x04, ty := 0, size := 1, acc := 1, kept := 1, dflt := 1 },
  { base := 0x5101, sub := 0x01, ty := 1, size := 1, count := 8, acc := 1, kept := 1, dflt := 64, range := some (8, 119) },
  { base := 0x5101, sub := 0x02, ty := 7, size := 4, count := 8 },
  { base := 0x5101, sub := 0x03, ty := 7, size := 4, count := 8 },
  { base := 0x5101, sub := 0x04, ty := 7, size := 4, count := 8 }]

/-- Objects at 0x5000, part 1. -/
def objRows5_1 : List ObjRow := [
  { base := 0x5101, sub := 0x05, ty := 7, size := 4, count := 8 },
  { base := 0x5101, sub := 0x06, ty := 2, size := 2, count := 8 },
  { base := 0x5800, sub := 0x01, ty := 1, size := 1, acc := 2 },
  { base := 0x5800, sub := 0x02, ty := 2, size := 2, acc := 1 },
  { base := 0x5800, sub := 0x03, ty := 1, size := 1, kept := 2 },
  { base := 0x5800, sub := 0x04, ty := 1, size := 1, kept := 2 },
  { base := 0x5800, sub := 0x05, ty := 1, size := 1 },
  { base := 0x5800, sub := 0x06, ty := 1, size := 1, dflt := 1 },
  { base := 0x5800, sub := 0x07, ty := 3, size := 4 },
  { base := 0x5800, sub := 0x08, ty := 2, size := 2, kept := 2 },
  { base := 0x5800, sub := 0x09, ty := 9, size := 16 },
  { base := 0x5800, sub := 0x0A, ty := 9, size := 16, acc := 2 },
  { base := 0x5800, sub := 0x10, ty := 4, size := 8, kept := 2 },
  { base := 0x5800, sub := 0x11, ty := 4, size := 8, kept := 2 },
  { base := 0x5800, sub := 0x12, ty := 4, size := 8, kept := 2 },
  { base := 0x5800, sub := 0x13, ty := 4, size := 8, kept := 2 },
  { base := 0x5800, sub := 0x14, ty := 4, size := 8, kept := 2 },
  { base := 0x5800, sub := 0x15, ty := 4, size := 8, kept := 2 },
  { base := 0x5800, sub := 0x16, ty := 4, size := 8, acc := 1, kept := 2 },
  { base := 0x5800, sub := 0x17, ty := 4, size := 8, acc := 1, kept := 2 }]

/-- Objects at 0x6000, part 0. -/
def objRows6_0 : List ObjRow := [
  { base := 0x6000, sub := 0x01, ty := 4, size := 8 },
  { base := 0x6000, sub := 0x02, ty := 9, size := 64, kept := 1 },
  { base := 0x6000, sub := 0x03, ty := 9, size := 16, acc := 2 },
  { base := 0x6000, sub := 0x04, ty := 1, size := 1 },
  { base := 0x6000, sub := 0x05, ty := 1, size := 1 },
  { base := 0x6000, sub := 0x06, ty := 3, size := 4, acc := 2 },
  { base := 0x6000, sub := 0x07, ty := 1, size := 1 },
  { base := 0x6000, sub := 0x08, ty := 1, size := 1 },
  { base := 0x6000, sub := 0x09, ty := 1, size := 1, dflt := 127 },
  { base := 0x6000, sub := 0x0A, ty := 1, size := 1, acc := 2 },
  { base := 0x6100, sub := 0x01, ty := 1, size := 1, count := 102 },
  { base := 0x6100, sub := 0x02, ty := 1, size := 1, count := 102, kept := 1 },
  { base := 0x6100, sub := 0x03, ty := 4, size := 8, count := 102 },
  { base := 0x6100, sub := 0x04, ty := 2, size := 2, count := 102, kept := 2 },
  { base := 0x6100, sub := 0x05, ty := 9, size := 32, count := 102, kept := 2 },
  { base := 0x6800, sub := 0x01, ty := 9, size := 97, kept := 3 },
  { base := 0x6800, sub := 0x02, ty := 9, size := 2048, kept := 3 },
  { base := 0x6800, sub := 0x03, ty := 9, size := 2048, kept := 3 },
  { base := 0x6800, sub := 0x04, ty := 9, size := 776, kept := 3 },
  { base := 0x6800, sub := 0x05, ty := 3, size := 4, kept := 1 },
  { base := 0x6800, sub := 0x06, ty := 3, size := 4, acc := 2 },
  { base := 0x6800, sub := 0x07, ty := 1, size := 1, acc := 1, kept := 1 },
  { base := 0x6800, sub := 0x08, ty := 9, size := 160, acc := 2 },
  { base := 0x6800, sub := 0x09, ty := 1, size := 1 }]

/-- Objects at 0x6000, part 1. -/
def objRows6_1 : List ObjRow := [
  { base := 0x6800, sub := 0x0A, ty := 9, size := 32 },
  { base := 0x6800, sub := 0x0B, ty := 1, size := 1, kept := 3 },
  { base := 0x6800, sub := 0x0C, ty := 0, size := 1 },
  { base := 0x6800, sub := 0x10, ty := 9, size := 32, acc := 2 },
  { base := 0x6800, sub := 0x11, ty := 1, size := 1 },
  { base := 0x6800, sub := 0x12, ty := 9, size := 16736 }]

/-- Objects at 0x7000, part 0. -/
def objRows7_0 : List ObjRow := [
  { base := 0x7000, sub := 0x01, ty := 0, size := 1 },
  { base := 0x7000, sub := 0x02, ty := 2, size := 2, kept := 3, dflt := 55 },
  { base := 0x7000, sub := 0x03, ty := 0, size := 1, acc := 2 },
  { base := 0x7000, sub := 0x04, ty := 2, size := 2 },
  { base := 0x7000, sub := 0x05, ty := 3, size := 4 },
  { base := 0x7000, sub := 0x06, ty := 3, size := 4, acc := 1, range := some (0, 0) },
  { base := 0x7100, sub := 0x01, ty := 3, size := 4, count := 55, acc := 1, range := some (0, 0) },
  { base := 0x7100, sub := 0x02, ty := 0, size := 1, count := 55 },
  { base := 0x7800, sub := 0x01, ty := 3, size := 4 },
  { base := 0x7800, sub := 0x02, ty := 3, size := 4, acc := 1 },
  { base := 0x7800, sub := 0x03, ty := 9, size := 32 },
  { base := 0x7800, sub := 0x04, ty := 2, size := 2, kept := 3, dflt := 4096 }]

/-- Every object of the dictionary but the subindexes 00 (12 R430), in ascending order of base index and subindex. -/
def objTable : List ObjRow :=
  objRows0_0 ++ objRows0_1 ++ objRows1_0 ++ objRows1_1 ++ objRows2_0 ++ objRows3_0 ++ objRows3_1 ++ objRows4_0 ++ objRows4_1 ++ objRows5_0 ++ objRows5_1 ++ objRows6_0 ++ objRows6_1 ++ objRows7_0

end Sys2Proof.Machine
end

