-- ==== Sys2Proof/Machine/State.lean ====
section
/-! DEFINITION. The state of the IXF2508: every piece of state that the spec names, as plain data, with the machine's
faults, refusals and the state after reset. The default value of a field is its value at reset. -/

namespace Sys2Proof.Machine

/-- Region states (01 Basin table 3, 04 Residency table 3). -/
inductive RegionSt where
  | empty | loading | resident | mirrorDamaged | failed
deriving DecidableEq, Repr

/-- One completed append (04 R150): the queue and submission number of the KAP and, while its epoch is open, the
epoch's serial. -/
structure KapDone where
  queue : Nat := 0
  seq : Nat := 0
  epoch : Option Nat := none
deriving DecidableEq, Repr

/-- Why a tile's spare serves, or is to serve, a logical column (02 Arithmetic table 7, 07 R290, 08 R325, R329). -/
inductive SpareUse where
  | idle | carousel | relieved | recovery | retired
deriving DecidableEq, Repr

/-- A column map change that waits for a pass boundary (01 R13): the logical column the spare is to serve (none: the
identity map) and why. -/
structure MapChange where
  col : Option Nat := none
  why : SpareUse := .idle
deriving DecidableEq, Repr

/-- Weir set states (03 Weir table 3). -/
inductive SetState where
  | free | filling | held | draining
deriving DecidableEq, Repr

/-- The ops of 05 Ops table 2; bad is an op that ended at admission with an unlisted opcode or an unread descriptor. -/
inductive OpKind where
  | bad | mvm | mvg | ldw | kap | nrm | smx | act | xfr | wtk | spb | spc | spq | fnc
deriving DecidableEq, Repr

/-- The life of an admitted op (05, after R167). draining: an MVM, MVG or NRM whose set waits for, or is read by, the
fused output stage; for an op whose output runs through a stream, the bytes are handed over. -/
inductive Stage where
  | admitted | started | draining | completed
deriving DecidableEq, Repr

/-- A pass that awaits its repeat and its digit columns, each with the tier of its first ambiguous integer (02 R64, R68). -/
structure RepeatCol where
  pass : Nat := 0
  cols : List Nat := []
deriving DecidableEq, Repr

/-- An ambiguous integer of the op (02 R66, R67): pass, digit column, and the tier, group and logical column. -/
structure Ambig where
  pass : Nat := 0
  d : Nat := 0
  tier : Nat := 0
  group : Nat := 0
  col : Nat := 0
deriving DecidableEq, Repr

/-- Epoch identifier states (05 R193). -/
inductive EpochSt where
  | closed | opened | committing | squashed
deriving DecidableEq, Repr

/-- Whose provisional data (05 R199, R203, R595): a write held in this device's speculative lines for the epoch of a
serial; an XFR to the device itself, by epoch serial; or an epoch of a peer, by source and stamp. landed: a line of a retired epoch,
visible to every reader of the device, that host or peer memory has not yet taken (Ops table 11, R205). -/
inductive SpecKey where
  | local_ (serial : Nat)
  | self (serial : Nat)
  | peer (source stamp : Nat)
  | landed (serial : Nat)
deriving DecidableEq, Repr

/-- One event record (12 Dictionary table 6). -/
structure EventRec where
  kind : Nat := 0
  severity : Nat := 0
  code : Nat := 0
  seq : Nat := 0
  time : Nat := 0
  payload : Nat := 0
deriving DecidableEq, Repr

/-- A part of a token count that a WTK took (05 R595): the counter, the amount, and the key and number of the provisional increment it
came from (none: the committed count). -/
structure Taken where
  token : Nat := 0
  amount : Nat := 0
  src : Option (SpecKey × Nat) := none
deriving DecidableEq, Repr

/-- A stream-fault event that an epoch holds, and the op whose stream met it (05 R202, R209). -/
structure HeldFault where
  op : Option (Nat × Nat) := none
  record : EventRec := {}
deriving DecidableEq, Repr

/-- An epoch message that waits for a fabric tag (05 Ops table 11, 09 R371, R380): the epoch's stamp, whether it squashes, the peer,
and the identifier whose SPC or SPQ awaits the answer (8: none does). -/
structure EpochMsg where
  stamp : Nat := 0
  squash : Bool := false
  dev : Nat := 0
  for_ : Nat := 8
  /-- time; 09 R380: the first send. -/
  since : Nat := 0
deriving DecidableEq, Repr

/-- Context states (06 R216). -/
inductive CtxSt where
  | idle | armed | halted
deriving DecidableEq, Repr

/-- The pass sequencer's states (01 Basin table 5). -/
inductive BasinState where
  | stopped | running | paused | faulted
deriving DecidableEq, Repr

/-- One entry of the configuration failures (12 R442, Dictionary table 4). -/
structure Fail where
  index : Nat := 0
  sub : Nat := 0
  fn : Nat := 0
  cluster : Nat := 127
  reason : Nat := 0
deriving DecidableEq, Repr

/-- A dictionary access that waits for a stopped processor (13 R465, R477): who asked, the processor and the access. -/
structure Waiting where
  port : Port := .host 0
  proc : Nat := 0
  index : Nat := 0
  sub : Nat := 0
  since : Nat := 0
  /-- the bytes of a write; none: a read. -/
  data : Option (List Byte) := none
  offset : Nat := 0
  len : Nat := 0
deriving DecidableEq, Repr

/-- A calibration window in progress in a tile (08 R326, Converters table 9): the physical column, the logical column that
the spare covers for it (none: the spare, or a column calibrated in place), the loop update of its start, the step of table 9 that
runs, the loop updates that this step has made, and whether its values are committed or refused and the column waits to be mapped back. -/
structure Calib where
  p : Nat := 0
  k : Option Nat := none
  start : Nat := 0
  step : Nat := 3
  made : Nat := 0
  ended : Bool := false
deriving DecidableEq, Repr

/-- A column loop (07 R270, R280, R283, R284, R292): open and to acquire by a sweep; open and held since it was locked when its
cluster's loops stopped; closing at its next update, closed, locked, or in a sweep; base: as the rest of the cluster's columns. -/
inductive LoopSt where
  | base | opened | held | closing | closed | locked | sweeping
deriving DecidableEq, Repr

/-- The detuning bands of 07 R269. -/
inductive Band where
  | clean | hold | out
deriving DecidableEq, Repr

/-- A recovery sweep (07 R292, R295): the steps taken, the best step so far with its pilot level, and whether the pilot power of
some step lay within the comparator's window. -/
structure Sweep where
  step : Nat := 0
  best : Nat := 0
  level : Int := 0
  found : Bool := false
deriving DecidableEq, Repr

/-- A monitor buffer descriptor (08 Converters table 6). -/
structure MonBuf where
  base : Nat := 0
  size : Nat := 0
  mode : Nat := 0
  wrapped : Bool := false
  overrun : Bool := false
  wr : Nat := 0
  rd : Nat := 0
  dropped : Nat := 0
deriving DecidableEq, Repr

/-- The regular buffer's descriptor at reset (08 Converters table 6). -/
def MonBuf.regularReset : MonBuf := { size := 14, mode := 0 }

/-- The injected buffer's descriptor at reset (08 Converters table 6). -/
def MonBuf.injectedReset : MonBuf := { size := 12, mode := 1 }

/-- An injected trigger (08 R311, R312). -/
structure Trigger where
  conv : Nat := 0
  kind : Nat := 0
  chans : List Nat := []
  since : Nat := 0
deriving DecidableEq, Repr

/-- An interleaved capture (08 R317): the request, whether it has begun, and when. -/
structure Capture where
  req : Nat := 0
  started : Bool := false
  since : Nat := 0
deriving DecidableEq, Repr

/-- Lane states (09 Fabric table 2). -/
inductive LaneSt where
  | unused | testing | inService | excluded | retired | barred
deriving DecidableEq, Repr

/-- A fabric packet (09 Fabric table 5): its header fields and payload. reservedSet: a reserved field is not zero; stomped: its payload CRC is
the complement of the right one (09 R358). -/
structure Packet where
  ptype : Nat := 0
  vl : Nat := 0
  hops : Nat := 0
  dest : Nat := 0
  src : Nat := 0
  spec : Bool := false
  tokenEn : Bool := false
  tag : Nat := 0
  gen : Nat := 0
  level : Nat := 0
  token : Nat := 0
  stamp : Nat := 0
  addr : Nat := 0
  cause : Nat := 0
  subcode : Nat := 0
  count : Nat := 0
  data : List Byte := []
  reservedSet : Bool := false
  stomped : Bool := false
deriving DecidableEq, Repr

/-- Who uses a fabric tag (09 R371). -/
inductive UseKind where
  | none | xfr | stream | doorbell | epoch | probe
deriving DecidableEq, Repr

/-- Fabric states (09 Fabric table 9). -/
inductive FabSt where
  | stopped | testing | running | faulted
deriving DecidableEq, Repr

/-- Cascade states (10 Cascades table 2). -/
inductive CascSt where
  | stopped | forming | formed | broken
deriving DecidableEq, Repr

/-- Host link states (11 R407). -/
inductive LinkSt where
  | down | locking | up
deriving DecidableEq, Repr

/-- A transaction the device puts on the host link (11 R413 to R421). -/
inductive HostMsg where
  | cpl (tag status detail : Nat) (data : List Byte)
  | mrd (tag addr len : Nat)
  | mwr (tag addr : Nat) (data : List Byte)
  | evt (addr : Nat) (record : EventRec)
deriving DecidableEq, Repr

/-- Field port states (12 Dictionary table 10). -/
inductive FpSt where
  | silent | active | busOff | pinned | flagLimit
deriving DecidableEq, Repr

/-- A field port frame (12 R458, R459). -/
structure FpFrame where
  /-- identifier, once the frame is on the bus. -/
  id : Nat := 0
  service : Nat := 0
  node : Nat := 0
  bytes : List Byte := []
  /-- a held request that WINH refused when it arrived (12 R456). -/
  winh : Bool := false
deriving DecidableEq, Repr

/-- The open segmented transfer (12 R461). -/
structure Seg where
  node : Nat := 0
  tid : Nat := 0
  write : Bool := false
  index : Nat := 0
  sub : Nat := 0
  total : Nat := 0
  data : List Byte := []
  next : Nat := 0
  last : Nat := 0
  done : Bool := false
  /-- the status that the final SEG_ACK of a write carried. -/
  status : Nat := 0
deriving DecidableEq, Repr

/-- Processor states (13 Firmware table 9). -/
inductive ProcSt where
  | running | restarting | held | debugHalted
deriving DecidableEq, Repr

/-- The header fields of a stored bundle (13 R478, R479). -/
structure Bundle where
  keySlot : Nat := 0
  compat : Nat := 0
  version : Nat := 0
  secVersion : Nat := 0
  hostMin : Nat := 5
  hostMax : Nat := 7
  fabLevel : Nat := 2
  dictLevel : Nat := 3
deriving DecidableEq, Repr

/-- A block reset in progress (14 R499): kind, number and the moment it was asserted. -/
structure BlockReset where
  kind : Nat := 0
  num : Nat := 0
  since : Nat := 0
deriving DecidableEq, Repr

/-- Comb states (07 Loops table 5). -/
inductive CombSt where
  | dark | starting | locked | lost
deriving DecidableEq, Repr

/-- A line-identity check that waits for slots (07 R293, R294): of a recovered column, or of one under Carousel calibration (08
Converters table 9 step 8); forced: the Basin inserts them. -/
structure Check where
  tile : Nat := 0
  p : Nat := 0
  since : Nat := 0
  forced : Bool := false
  carousel : Bool := false
deriving DecidableEq, Repr

/-- A ring write that waits for its tile's writer (04 R123, R133): the ring, the digit and its kind, the request's place in
Residency table 1, and the KAP or LDW that asked for it. -/
structure RingWrite where
  tile : Nat := 0
  p : Nat := 0
  l : Nat := 0
  v : Nat := 0
  high : Bool := true
  order : Nat := 5
  op : Option (Nat × Nat) := none
deriving DecidableEq, Repr

/-- A mirror read that waits for its stack (04 R163): the granule's tile and first logical column; the copy of column k into physical
column p that it is for, if it is no refresh; and its request's place in Residency table 1. -/
structure MirrorRead where
  tile : Nat := 0
  k : Nat := 0
  p : Option Nat := none
  order : Nat := 5
deriving DecidableEq, Repr

/-- One region: descriptor of Basin table 3 and what 11rr:03 to 11rr:07 report (R26, R129, R143, R157). -/
structure Region where
  /-- 1 bit; 01 R26 Basin table 3. -/
  valid : Bool := false
  /-- 2 bits; 01 Basin table 3. -/
  kind : Nat := 0
  /-- 2 bits; 01 Basin table 3, 02 R46. -/
  format : Nat := 0
  /-- 8 bits; 01 Basin table 3, R27. -/
  tFirst : Nat := 0
  /-- 8 bits; 01 Basin table 3, R27. -/
  tLast : Nat := 0
  /-- 7 bits; 01 Basin table 3, R27. -/
  gFirst : Nat := 0
  /-- 7 bits; 01 Basin table 3, R27. -/
  gLast : Nat := 0
  /-- 49 bits; 01 Basin table 3. -/
  mirrorBase : Nat := 0
  /-- 3 bits; 01 Basin table 3, 04 Residency table 3. -/
  st : RegionSt := .empty
  /-- 16 bits; 04 R147 (hwm_committed). -/
  hwmC : Nat := 0
  /-- 16 bits; 04 R147 (hwm_provisional). -/
  hwmP : Nat := 0
  /-- list; 04 R155, R156: completed appends of open epochs, by epoch serial. -/
  provAppends : SMap Nat := []
  /-- list; 04 R150: completed KAPs with queue and submission number. -/
  kapLog : List KapDone := []
  /-- serials; 04 R154: live epochs of which a KAP on the region has started. -/
  kapBegan : List Nat := []
  /-- 16 bits; 01 Basin table 3, 08 R329. -/
  retiredColumns : Nat := 0
  /-- 64 bits; 04 R129 (11rr:05). -/
  activeMirror : Nat := 0
  /-- list of physical addresses; 04 R130: physical 64 KiB pages kept from the LDW. -/
  pages : List Nat := []
  /-- list; 04 R130: pages of the LDW in progress. -/
  pendingPages : List Nat := []
  /-- 48 bytes; 04 R143 (11rr:03). -/
  digest : List Byte := []
  /-- 8 bits; 04 Residency table 4. -/
  digestState : Nat := 0
  /-- 32 bits saturating; 04 Residency table 5. -/
  mirrorErrors : Nat := 0
  /-- 8 bits; 04 R159 (11rr:07). -/
  graceLeft : Nat := 0
  /-- time; 04 R159: moment of the first detection. -/
  graceStart : Nat := 0
  /-- list; 04 R158: granules of the mirror that are damaged. -/
  badGranules : List Nat := []
deriving DecidableEq, Repr

/-- One tile's column map, Carousel and fault state (R11, R13, R325, R558, R560). Key 128·t + g. -/
structure TileSt where
  /-- 6 bits; 01 R11: logical column the spare serves (4C00:06). -/
  serves : Option Nat := none
  /-- enum; 02 Arithmetic table 7, 08 R329, 07 R290: why the spare serves it. -/
  why : SpareUse := .idle
  /-- 6 bits; 04 R126: logical column being copied into the spare. -/
  loading : Option Nat := none
  /-- list; 01 R13: column map changes that wait for a pass boundary. -/
  pendingMap : List MapChange := []
  /-- 6 bits; 08 R329: retired physical column of the tile. -/
  retired : Option Nat := none
  /-- flag and column; 17 R558: the tile is suspended for this second column. -/
  suspended : Option Nat := none
  /-- 1 bit; 08 R335, 17 R560 (4C00:09). -/
  unusable : Bool := false
  /-- 33 bits; 02 R61: columns marked warned. -/
  warned : List Nat := []
  /-- 6 bits; 08 R325: rotation pointer. -/
  pointer : Nat := 0
  /-- 1 bit; 08 R325: the last window was a priority window. -/
  lastPriority : Bool := false
  /-- 33 bits; 08 R330, R331: columns that await a calibration. -/
  awaiting : List Nat := []
  /-- 6 bits; 08 R331: physical column relieved under R63. -/
  relieved : Option Nat := none
  /-- record; 08 R326: the window in progress. -/
  calib : Option Calib := none
  /-- 33 bits; 07 R290: physical columns in the recovery procedure. -/
  recovs : List Nat := []
  /-- 1 bit; 07 R287. -/
  modelSuspect : Bool := false
deriving DecidableEq, Repr

/-- One physical column: trims, levels, offsets, loop (R303, R125, R272). Key 33·tile + p. Signals and states of its loop are in units of 2^-47; powers in Q15. -/
structure ColSt where
  /-- 32 bits; 08 R303 Converters table 1. -/
  trim : BitVec 32 := 0
  /-- 16 x 12 bits; 04 R125, 08 R305 (calibration store; empty list: factory entry). -/
  levelHi : List Nat := []
  /-- 16 x 12 bits; 04 R125, 08 R305. -/
  levelLo : List Nat := []
  /-- 64 x 6 bits; 04 R125. -/
  offsets : List Int := []
  /-- 16 bits, 14 fraction bits; 07 R268, 08 R305. -/
  kc : Int := 0
  /-- Q15; 07 R272, 08 R305. -/
  oc : Int := 0
  /-- 1/256 C; 07 R265, 08 R305. -/
  tLock : Int := 0
  /-- corrected units; 07 R260, 08 R305. -/
  pilotLevel : Nat := 0
  /-- 1/256 C at full power; 07 R265, 08 R305 (column heater gain). -/
  gain : Int := 0
  /-- Q15; 07 R272 lock offset. -/
  rc : Int := 0
  /-- enum; 07 R270, R280, R283; base: as ClusterSt.base. -/
  loop : LoopSt := .base
  /-- 1 bit; 07 R280: block floating form. -/
  bfp : Bool := false
  /-- count; 07 R270: consecutive clean updates. -/
  clean : Nat := 0
  /-- count; 07 R282: consecutive missed deadlines. -/
  missedRun : Nat := 0
  /-- 4 x 32 bits; 07 R268 quadrant slots. -/
  slots : List Int := []
  /-- 16 bits and exponent; 07 R272. -/
  i : Int := 0
  /-- 16 bits and exponent; 07 R272. -/
  d : Int := 0
  /-- 16 bits and exponent; 07 R272. -/
  ePrev : Int := 0
  /-- 16 bits and exponent; 07 R272. -/
  e : Int := 0
  /-- 16 bits and exponent; 07 R272. -/
  v1 : Int := 0
  /-- 16 bits and exponent; 07 R272. -/
  v2 : Int := 0
  /-- 16 bits and exponent; 07 R272. -/
  y1 : Int := 0
  /-- 16 bits and exponent; 07 R272. -/
  y2 : Int := 0
  /-- Q15; 07 R272 P_c. -/
  pc : Int := 0
  /-- count; 07 R298: consecutive updates with P_c clamped. -/
  clampRun : Nat := 0
  /-- 1 bit; 07 R273: clamped at 0 in the previous update. -/
  clampLo : Bool := false
  /-- 1 bit; 07 R273: clamped at 1 in the previous update. -/
  clampHi : Bool := false
  /-- enum; 07 R269: band of the last detuning; none: out while the loop is open, clean once locked. -/
  det : Option Band := none
  /-- count; 07 R286: consecutive outer updates over the window. -/
  plaus : Nat := 0
  /-- record; 07 R292. -/
  sweep : Option Sweep := none
  /-- count; 07 R295: failed attempts in a row. -/
  failed : Nat := 0
  /-- count; 08 R329: failed calibrations in a row. -/
  calFails : Nat := 0
  /-- time; 08 R333. -/
  lastCal : Nat := 0
  /-- time; 08 R304, R327: the last change of the trim word. -/
  trimAt : Option Nat := none
  /-- 1 bit; 07 R295, 08 R329, R322. -/
  retired : Bool := false
deriving DecidableEq, Repr

/-- One heater DAC (R319). Key 34·tile + h. -/
structure HeaterSt where
  /-- 14 bits; 08 Converters table 8; none: its parking code. -/
  target : Option Nat := none
  /-- 1 bit; 08 Converters table 8. -/
  range2 : Bool := true
  /-- 14 bits; 08 Converters table 8; none: its parking code. -/
  applied : Option Nat := none
  /-- 1 bit sticky; 08 R321. -/
  short : Bool := false
  /-- 1 bit sticky; 08 R321. -/
  open_ : Bool := false
  /-- count; 08 R321: consecutive senses below half the current that applied implies. -/
  lowSenses : Nat := 0
deriving DecidableEq, Repr

/-- One tile's thermal model and outer loop (R274 to R276). Key 128·t + g. -/
structure TileLoop where
  /-- Q15; 07 R274. -/
  bt : Int := 0
  /-- Q15; 07 R274. -/
  qf : Int := 0
  /-- Q15; 07 R275. -/
  qt : Int := 0
  /-- Q15; 07 R276. -/
  qapp : Int := 0
  /-- Q15; 07 R276. -/
  ff : Int := 0
  /-- count; 07 R276: lit pass slots of this loop update. -/
  activity : Nat := 0
  /-- 1/256 C; 07 R274, 08 R305. -/
  tRef : Int := 0
  /-- 1/256 C; 07 R274, 08 R305. -/
  gTile : Int := 0
  /-- 1/256 C; 07 R274: the tile's calibrated column heater gain. -/
  gCol : Int := 0
  /-- 1/256 C; 07 R274, 08 R309: last tile temperature. -/
  tTile : Int := 0
  /-- up to 8 x Q15; 07 R275: mean P_c of the last inner updates, newest first. -/
  means : List Int := []
  /-- Q15; 07 R275 outer integrator. -/
  oi : Int := 0
  /-- Q15; 07 R275 outer derivative. -/
  od : Int := 0
  /-- Q15; 07 R275. -/
  oePrev : Int := 0
  /-- Q15; 07 R275. -/
  ov1 : Int := 0
  /-- Q15; 07 R275. -/
  ov2 : Int := 0
  /-- Q15; 07 R275. -/
  oy1 : Int := 0
  /-- Q15; 07 R275. -/
  oy2 : Int := 0
  /-- 1 bit; 07 R273 for the outer loop. -/
  oclampLo : Bool := false
  /-- 1 bit; 07 R273 for the outer loop. -/
  oclampHi : Bool := false
  /-- 5 x 6 bits; 07 R279 stage exponents of the tile's lane group. -/
  expo : List Nat := []
  /-- count; 07 R271, R308: loop updates of the cluster, up to the tile's last one. -/
  updated : Nat := 0
  /-- count; 07 R271: outer updates made. -/
  outer : Nat := 0
  /-- count; 07 R271, R277: inner updates made. -/
  inner : Nat := 0
  /-- time; 07 R299: the tile's last inner update. -/
  at_ : Option Nat := none
  /-- 1 bit; 07 R279: the outer loop is in block floating form. -/
  obfp : Bool := false
  /-- 5 x 6 bits; 07 R279: stage exponents of the outer loop's lane group. -/
  oexpo : List Nat := []
  /-- Q15; 07 R272, R275: the outer loop's error. -/
  oe : Int := 0
  /-- count; 08 R324: the last window that opened in the tile. -/
  lastWindow : Option Nat := none
deriving DecidableEq, Repr

/-- One cluster: loops, monitor bank, sleep, block reset (R271, R306, R522, R499). Key c. -/
structure ClusterSt where
  /-- enum; 07 R270: what a column's loop is that has not moved from the rest. -/
  base : LoopSt := .opened
  /-- 1 bit; 07 R284, Loops table 5: the cluster's loops run. -/
  loopsOn : Bool := false
  /-- time; 08 R307: when the cluster's loops last started. -/
  loopStart : Nat := 0
  /-- 1 bit (41cc:03); 07 R281. -/
  missed : Bool := false
  /-- count; 07 R277, 08 R318: the loop update at which low-rate mode began. -/
  lowFrom : Option Nat := none
  /-- count; 07 R277: the loop update at which the full rate returns. -/
  lowTo : Option Nat := none
  /-- bias codes; 07 R266: what the tiles' dither generators add to their pilot rings. -/
  dither : Int := 0
  /-- 32 bits; 07 R266 dither phase at loop update phaseAt. -/
  phase : Nat := 0
  /-- count; 07 R266. -/
  phaseAt : Nat := 0
  /-- time; 08 R318: last announcement, recovery or capture in the cluster. -/
  lastAct : Nat := 0
  /-- 1 bit; 07 R277: an announcement named a tile since low-rate mode began. -/
  announced : Bool := false
  /-- time; 07 R301: last HEADROOM_LOW of the cluster's engine. -/
  lastHeadroom : Option Nat := none
  /-- 16 bits (49cc:01); 08 R316. -/
  monFailed : List Nat := []
  /-- list; 08 R316: converters whose entries are not yet dealt, and the loop update of detection. -/
  failing : List (Nat × Nat) := []
  /-- 32 bytes (49cc:02); 08 R315 Converters table 6. -/
  regBuf : MonBuf := MonBuf.regularReset
  /-- 32 bytes (49cc:03); 08 R315 Converters table 6. -/
  injBuf : MonBuf := MonBuf.injectedReset
  /-- records; 08 R315 cluster SRAM records (key: record index; injected ones offset 2^16). -/
  sram : SMap (BitVec 64) := []
  /-- up to 4 a converter; 08 R312. -/
  queued : List Trigger := []
  /-- list; 08 R309, R312: converter, start and end of the injected sequences run, in half engine cycles since the loops started. -/
  injected : List (Nat × Nat × Nat) := []
  /-- 16 + 16 bits a channel; 08 R313: off_ch and g_ch. -/
  chanCal : SMap (Int × Nat) := []
  /-- 12-bit code plus one a converter; 08 R316: the calibrated value of its bank reference (0: none yet). -/
  refs : SMap Nat := []
  /-- record; 08 R317. -/
  capture : Option Capture := none
  /-- 1 bit (5000:0D); 15 R523. -/
  asleep : Bool := false
  /-- 1 bit; 15 R522. -/
  goingToSleep : Bool := false
  /-- time; 15 R524: start of the wake. -/
  waking : Option Nat := none
  /-- 1 bit; 04 R162, R164: rings wait for their rewrite. -/
  needRewrite : Bool := false
  /-- 1 bit; 04 R162, R164: that rewrite has been asked of the writers. -/
  rewriting : Bool := false
  /-- 1 bit; 14 R499. -/
  inReset : Bool := false
deriving DecidableEq, Repr

/-- One Weir accumulator (R89, R86). Key 4096·set + index. -/
structure Acc where
  /-- 128-bit two's complement; 02 R71, 03 R89. -/
  a : Int := 0
  /-- 8 bits; 03 Weir table 1 base_exp. -/
  exp : Int := 0
  /-- 31 bits; 03 Weir table 1. -/
  count : Nat := 0
  /-- 1 bit; 03 Weir table 1. -/
  inexact : Bool := false
  /-- 1 bit; 03 Weir table 1. -/
  overrange : Bool := false
  /-- 1 bit; 03 Weir table 1. -/
  poison : Bool := false
  /-- 64 bits; 03 R86, R98 pass register. -/
  pass : Int := 0
deriving DecidableEq, Repr

/-- One of the two Weir sets (R93). -/
structure SetSt where
  /-- 2 bits (1400:01, 1400:02); 03 R93, R98. -/
  st : SetState := .free
  /-- epoch serial; 05 R201: epoch that owns the set. -/
  owner : Option Nat := none
deriving DecidableEq, Repr

/-- What a started or preempted MVM or MVG carries (R16, R44, R68, R190). -/
structure MvmRun where
  /-- 1 bit; 03 R94. -/
  set : Nat := 0
  /-- elements; 02 R52: the input vector in the row modulator feed. -/
  inputs : List Int := []
  /-- 8 bits; 02 R52: its scale exponent. -/
  exp : Int := 0
  /-- 5 bits; 02 R50: passes b. -/
  bits : Nat := 8
  /-- 5 bits; 05 R184: next pass to issue. -/
  next : Nat := 0
  /-- list; 02 R68: passes awaiting a repeat and their digit columns. -/
  repeats : List RepeatCol := []
  /-- list; 01 R33: regions lit. -/
  regions : List Nat := []
  /-- list; 04 R150: the mark of each region, fixed at op start. -/
  marks : List Nat := []
  /-- Hz; 01 R23. -/
  rate : Nat := 0
  /-- 1 bit; 02 R62: an ambiguous integer holds further issue until its repeats. -/
  stopIssue : Bool := false
  /-- list; 02 R66: digit columns poisoned for this op. -/
  poisonCols : List Nat := []
  /-- list; 02 R67: ambiguous integers met, oldest first. -/
  firstAmb : List Ambig := []
  /-- 1 bit; 05 R184. -/
  suspended : Bool := false
  /-- 1 bit; 05 R185: the save area is written. -/
  saved : Bool := false
  /-- list; 02 R62: ambiguous integers whose tile actions (R63) are not yet taken. -/
  fresh : List Ambig := []
  /-- 1 bit; 05 R187: the input vector is still to be read again. -/
  reread : Bool := false
deriving DecidableEq, Repr

/-- What the fused output stage was given at validation (R104): the block, arrays and table read then. -/
structure OutPlan where
  /-- 512 bits; 03 Weir table 5. -/
  ocb : Nat := 0
  /-- FP32 each; 03 R103. -/
  scales : List Nat := []
  /-- FP32 each; 03 R103. -/
  biases : List Nat := []
  /-- 64-bit words; 03 Weir table 7: header word and 1,024 segments. -/
  table : List Nat := []
deriving DecidableEq, Repr

/-- One admitted op (or one cancelled before admission) not yet retired (R165 to R213). -/
structure Op where
  /-- 2 bits; 05 R165. -/
  queue : Nat := 0
  /-- count; 05 R166: submission number since the queue was configured; slot is seq mod 1,024. -/
  seq : Nat := 0
  /-- 512 bits; 05 R172. -/
  desc : Nat := 0
  /-- enum; 05 Ops table 2. -/
  kind : OpKind := .bad
  /-- enum; 05 life of an op. -/
  stage : Stage := .admitted
  /-- 8 bits; 05 Ops table 14. -/
  status : Nat := 0
  /-- 32 bits; 05 Ops table 13. -/
  detail : Nat := 0
  /-- 32 bits; 05 Ops table 13. -/
  tag : Nat := 0
  /-- 8 bits; 05 Ops table 13 bits [71:64]. -/
  flags : Nat := 0
  /-- 16 bits; 05 Ops table 13. -/
  poisoned : Nat := 0
  /-- 8+7+5 bits; 05 Ops table 13 p_tier, p_group, p_column. -/
  pLoc : Nat × Nat × Nat := (0, 0, 0)
  /-- 16 bits; 05 R194, Ops table 13. -/
  stamp : Nat := 0
  /-- serial; 05 R196: serial of the epoch joined. -/
  epoch : Option Nat := none
  /-- 64 bits; 05 Ops table 13. -/
  time : Nat := 0
  /-- 1 bit; 05 R177: deps complete and all OK. -/
  ready : Bool := false
  /-- contexts; 05 R178, 06 R221: contexts this op has armed. -/
  armed : List Nat := []
  /-- record; 05 R184. -/
  mvm : Option MvmRun := none
  /-- record; 03 R104. -/
  plan : Option OutPlan := none
  /-- 1 bit; 03 R117 set drained or used. -/
  set : Option Nat := none
  /-- 16 bits; 04 R152: position of a started KAP. -/
  pos : Nat := 0
  /-- bytes; 04 R151, 03 R92: append vector, tile image or output bytes held by the op. -/
  bytes : List Byte := []
  /-- 2 bits; 05 Ops table 12: 1 CANCELLED, 2 SQUASHED once a started SMX or ACT ends. -/
  cancel : Nat := 0
  /-- status, detail; 03 R104: what the validation of the output control block found. -/
  planErr : Option (Nat × Nat) := none
  /-- 2 bits; 05 Ops table 14 SQUASHED cause. -/
  cause : Nat := 0
  /-- tags; 09 R371: fabric tags of this XFR still expecting a response. -/
  uses : List Nat := []
  /-- offset, length; 09 R363, R374: the pieces of this XFR that have been formed into packets. -/
  pieces : List (Nat × Nat) := []
  /-- 16 bits; 09 R375: cause and subcode of a failed XFR. -/
  fabFail : Option Nat := none
  /-- count; 05 Ops table 8: admission order over all queues. -/
  ordered : Nat := 0
  /-- 1 bit; 03 R94: it has waited for a set (1400:05). -/
  waited : Bool := false
  /-- contexts; 06 R221: contexts this op has armed, whose run counters its completion advances. -/
  used : List Nat := []
  /-- time; 03 R122: the engine cycle by which a started SMX has written its last byte. -/
  due : Nat := 0
deriving DecidableEq, Repr

/-- One op queue (R165, R166). -/
structure QueueSt where
  /-- 16 bits (181q:03); 05 Ops table 15. -/
  tail : Nat := 0
  /-- 16 bits (181q:04); 05 Ops table 15. -/
  retired : Nat := 0
  /-- count; 05 R166: tail without its modulus. -/
  submitted : Nat := 0
  /-- count; 05 R168: ops admitted so far, without modulus. -/
  admitted : Nat := 0
  /-- count; 05 R169: ops retired so far, without modulus. -/
  done : Nat := 0
  /-- 8 bits a slot, plus one; 05 R177: status with which the op of a slot retired (plus one; 0: none yet). -/
  results : SMap Nat := []
  /-- 32 bits; 05 R214: ring_off the running queue uses. -/
  confRing : Nat := 4294967295
  /-- 32 bits; 05 R214: cpl_off the running queue uses. -/
  confCpl : Nat := 4294967295
deriving DecidableEq, Repr

/-- One epoch identifier (R193 to R208). Key 0 to 7. -/
structure Epoch where
  /-- 2 bits; 05 R193. -/
  st : EpochSt := .closed
  /-- 16 bits; 05 R194. -/
  stamp : Nat := 0
  /-- count; 05 R195: order of opening. -/
  serial : Nat := 0
  /-- 1 bit; 05 R208. -/
  doomed : Bool := false
  /-- 2 bits; 05 Ops table 14: cause of the squash. -/
  cause : Nat := 0
  /-- device numbers; 09 R380: devices that acknowledged a spec packet. -/
  peers : List Nat := []
  /-- tags; 09 R380: EPC or EPQ not yet answered by an EPA. -/
  awaiting : List Nat := []
  /-- time; 09 R380: first send of the epoch message. -/
  firstSent : Nat := 0
  /-- queue, seq; 05 R205: SPC that waits. -/
  spc : Option (Nat × Nat) := none
  /-- queue, seq; 05 R207, R208: SPQ that waits, or SPC that acts as one. -/
  spq : Option (Nat × Nat) := none
  /-- serial; 05 R207: the last epoch that the SPQ squashed. -/
  upTo : Nat := 0
  /-- 1 bit; 05 R205: the epoch has retired and its SPC still waits. -/
  retired : Bool := false
  /-- records; 05 R202: stream-fault events held. -/
  heldFaults : List HeldFault := []
  /-- list; 05 R595: token parts its WTKs took. -/
  taken : List Taken := []
  /-- source, stamp; 05 R203, R204: peers' provisional data it has read. -/
  readPeers : List (Nat × Nat) := []
deriving DecidableEq, Repr

/-- Bytes held provisionally in speculative lines (R199, R379, R595), in order of production. -/
structure SpecWrite where
  /-- tag; 05 R199: a local epoch's serial, or source and stamp of a peer. -/
  key : SpecKey := .local_ 0
  /-- 2 bits; 06 Streams table 7: 0 local physical, 1 host, 2 peer. -/
  space : Nat := 0
  /-- 64 bits; 05 R199. -/
  addr : Nat := 0
  /-- bytes; 05 R199. -/
  data : List Byte := []
  /-- time; 05 R204: arrival of the first provisional data. -/
  born : Nat := 0
  /-- block; 05 R199: the 4 KiB-aligned block of virtual addresses that the line was allocated for (none: not by a stream). -/
  block : Option Nat := none
  /-- queue, seq; 05 R209: the op that wrote it. -/
  op : Option (Nat × Nat) := none
  /-- path, tag; 05 R205: the host link (1) or fabric (0) write that carries it, once sent. -/
  sent : Option (Bool × Nat) := none
deriving DecidableEq, Repr

/-- A provisional token increment (R203, R595). -/
structure ProvToken where
  /-- count; 05 R595: its number, in order of arrival. -/
  id : Nat := 0
  /-- tag; 05 R595. -/
  key : SpecKey := .local_ 0
  /-- 8 bits; 05 Ops table 15. -/
  token : Nat := 0
  /-- count; 05 R595: not yet taken. -/
  left : Nat := 1
  /-- time; 05 R204. -/
  born : Nat := 0
deriving DecidableEq, Repr

/-- One run of a stream context (R218, R221). -/
structure Run where
  /-- exact; 06 R218 base_run. -/
  base : Int := 0
  /-- bytes; 06 R224: where the run ends. -/
  need : Nat := 0
  /-- bytes; 06 R219: positions delivered or written, in run order. -/
  done : Nat := 0
  /-- bytes; 06 R231: the first position not requested; requests for later ones stand in State.reqs. -/
  issued : Nat := 0
  /-- bytes; 06 R219: bytes delivered (read) or handed over (write). -/
  data : List Byte := []
  /-- bytes; 06 R230: what the target has still to hand over, for want of a line with room. -/
  source : List Byte := []
  /-- 1 bit; 06 Streams table 3 direction. -/
  write : Bool := false
  /-- queue, seq; 06: the op that armed it; none for target 5. -/
  op : Option (Nat × Nat) := none
  /-- serial; 05 R198: its op's epoch. -/
  epoch : Option Nat := none
  /-- 3 bits; 06 R232: queue, or 4 for target 5. -/
  prio : Nat := 4
  /-- bytes; 06 R250: position of the last halt. -/
  halted : Nat := 0
deriving DecidableEq, Repr

/-- One stream context (R215, R216). Key 0 to 63. -/
structure Ctx where
  /-- 512 bits (21ss:01); 06 Streams table 1. -/
  desc : Nat := 0
  /-- 2 bits (21ss:02); 06 R216. -/
  st : CtxSt := .idle
  /-- 32 bits (21ss:03); 06 R217, R221. -/
  runs : Nat := 0
  /-- 256 bits (21ss:04); 06 Streams table 9. -/
  position : Nat := 0
  /-- 16 bits (21ss:05); 06 R250. -/
  faultSeq : Nat := 0
  /-- 16 bits (21ss:07); 06 R227, R228: lines held, reserve included. -/
  lines : Nat := 2
  /-- 16 bits; 06 R229. -/
  borrowed : Nat := 0
  /-- 1 bit; 06 R236. -/
  yielded : Bool := false
  /-- record; 06 R218. -/
  run : Option Run := none
deriving DecidableEq, Repr

/-- One memory request the stream engine has issued (R231, R419, R376). -/
structure Req where
  /-- 6 bits; 06 R231. -/
  ctx : Nat := 0
  /-- 2 bits; 06 R231: 0, 1 DRAM stacks, 2 host link, 3 fabric. -/
  path : Nat := 0
  /-- 1 bit; 06 R231. -/
  write : Bool := false
  /-- bytes; 06 R233: first position. -/
  pos : Nat := 0
  /-- bytes; 06 R233. -/
  len : Nat := 0
  /-- 64 bits; 06 R233: physical, host or peer address of its first byte. -/
  addr : Nat := 0
  /-- 49 bits; 06 R246: virtual address of its first byte (none: no translation). -/
  va : Option Nat := none
  /-- count; 06 R246: order of issue. -/
  serial : Nat := 0
  /-- 16 bits; 11 R414, 09 R371. -/
  tag : Nat := 0
  /-- time; 11 R414. -/
  time : Nat := 0
  /-- 6 bits; 06 R256: the context that a dropped read (ctx 65) was issued for. -/
  was : Nat := 0
  /-- bytes; 06 R219: what memory has answered, delivered in run order. -/
  arrived : Option (List Byte) := none
  /-- 16 bits; 06 R255: it completed with an error after the bytes that arrived; a fabric cause and subcode. -/
  failed : Option Nat := none
deriving DecidableEq, Repr

/-- One cached leaf (R245). -/
structure XEntry where
  /-- 33 bits; 06 R245: va bits [48:16] of the page's start. -/
  page : Nat := 0
  /-- 2 bits; 06 Streams table 5. -/
  level : Nat := 3
  /-- 64 bits; 06 Streams table 7. -/
  leaf : Nat := 0
deriving DecidableEq, Repr

/-- One digest computation (R144). -/
structure Digest where
  /-- 8 bits; 04 R144. -/
  region : Nat := 0
  /-- bytes; 04 R143. -/
  message : List Byte := []
deriving DecidableEq, Repr

/-- The pass sequencer (R19 to R25, R39). -/
structure BasinSt where
  /-- 8 bits (1000:01); 01 Basin table 5. -/
  state : BasinState := .stopped
  /-- 1 bit (1000:0B); 12 Dictionary table 5. -/
  run : Bool := true
  /-- requesters; 12 R440: restarts that wait for the stop. -/
  restartDue : List Port := []
  /-- 32 bits (1000:03); 01 Basin table 5. -/
  passRate : Nat := 0
  /-- Hz; 01 R25: rate of the op whose pass was issued last. -/
  lastRate : Nat := 0
  /-- queue, seq; 01 R25, 02 R64: op whose pass was issued last. -/
  lastOp : Option (Nat × Nat) := none
  /-- 32 bits (1000:09); 01 R36. -/
  refusal : Nat := 0
  /-- queue, seq; 01 R39: op whose passes run. -/
  running : Option (Nat × Nat) := none
  /-- queue, seq; 01 R39, R45, 02 R64: preceding op, whose last passes come first, that has not contributed. -/
  finishing : Option (Nat × Nat) := none
  /-- queue, seq (1800:06); 05 R188. -/
  preempted : Option (Nat × Nat) := none
  /-- count; 01 R25, 15 R529: idle pass slots owed. -/
  idleSlots : Nat := 0
  /-- count; 01 R20: pass boundaries passed. -/
  slot : Nat := 0
  /-- time; 05 R183: input of the running op has run dry since. -/
  stalledAt : Option Nat := none
  /-- tile, column; 07 R289: columns whose pilot comparators flag in this pass slot. -/
  flagged : List (Nat × Nat) := []
deriving DecidableEq, Repr

/-- One packet held in a peer queue or the forwarding buffer (R350, R357, R368). -/
structure Queued where
  /-- 32 bytes and payload; 09 R360. -/
  pkt : Packet := {}
  /-- 2 bits; 09 R350 dimension of the next hop. -/
  dim : Nat := 0
  /-- 17 bits; 09 R354 next-hop device. -/
  hop : Nat := 0
  /-- time; 09 R368: residence. -/
  born : Nat := 0
  /-- 1 bit; 09 R357: held in the forwarding buffer. -/
  fwd : Bool := false
  /-- lane; 09 R367: the retired lane it came back from. -/
  returned : Option Nat := none
deriving DecidableEq, Repr

/-- One fabric lane, seen from both ends (R342). Key 128·fiber + line. -/
structure Lane where
  /-- 3 bits (3000:0C); 09 Fabric table 2: outbound state where it differs from Fab.base. -/
  out : Option LaneSt := none
  /-- 3 bits (3000:0C); 09 Fabric table 2: inbound state where it differs from Fab.base. -/
  inn : Option LaneSt := none
  /-- 1 bit; 09 R346: this device has passed the inbound lane (good bit it sends). -/
  goodIn : Bool := false
  /-- 1 bit; 09 R347: good bit received for the outbound lane. -/
  goodOut : Bool := false
  /-- count; 09 R346: pattern bits counted without error. -/
  bits : Nat := 0
  /-- 1 bit; 09 R346: sender mismatch. -/
  wiring : Bool := false
  /-- count; 09 R348: retirements of the outbound lane since bring-up. -/
  retiresOut : Nat := 0
  /-- count; 09 R348: retirements of the inbound lane since bring-up. -/
  retiresIn : Nat := 0
  /-- 10 bits; 09 R364: next lane sequence number. -/
  lseqTx : Nat := 0
  /-- 10 bits; 09 R364: last lseq accepted in order. -/
  lseqRx : Nat := 1023
  /-- up to 512; 09 R365: uncovered packets with their lseq, oldest first. -/
  replay : List (Nat × Queued) := []
  /-- count; 09 R365: counted replays without progress. -/
  replays : Nat := 0
  /-- time; 09 R365: last new entry or send. -/
  lastEntry : Nat := 0
  /-- time; 09 R365: a busy entry waits 256 ns. -/
  busyAt : Option Nat := none
  /-- time; 09 R366: last frame received. -/
  lastFrame : Nat := 0
  /-- times; 09 R366: CRC and framing errors of the last 1 ms. -/
  errors : List Nat := []
  /-- time; 09 R351: last frame sent. -/
  lastSent : Nat := 0
  /-- 4 bits; 09 R347: level_use in the last frame of this lane. -/
  peerLevel : Nat := 0
deriving DecidableEq, Repr

/-- One Busy tag and the use that holds it (R371). -/
structure TagUse where
  /-- 4 bits; 09 R371. -/
  gen : Nat := 0
  /-- 1 bit; 09 R371. -/
  busy : Bool := false
  /-- count; 09 R371: order of becoming Free. -/
  freedAt : Nat := 0
  /-- enum; 09 R371: XFR, stream request, DBL, epoch message, probe. -/
  kind : UseKind := .none
  /-- 17 bits; 09 R371. -/
  dest : Nat := 0
  /-- 2 bits; 09 R371: op of an XFR. -/
  queue : Nat := 0
  /-- count; 09 R371. -/
  seq : Nat := 0
  /-- bytes; 09 R374: bytes not yet acknowledged. -/
  expect : Nat := 0
  /-- time; 09 R373. -/
  lastFormed : Nat := 0
  /-- 6 bits; 09 R376: stream context. -/
  ctx : Nat := 0
  /-- 4 bits; 09 R380: the identifier whose SPC or SPQ awaits an epoch message's answer (8: none). -/
  epoch : Nat := 0
  /-- time; 09 R380: the first send of an epoch message. -/
  since : Nat := 0
  /-- 1 bit; 09 R380: EPQ. -/
  squash : Bool := false
  /-- 1 bit; 09 R379. -/
  spec : Bool := false
deriving DecidableEq, Repr

/-- The fabric (R337 to R385). -/
structure Fab where
  /-- 8 bits (3000:01); 09 Fabric table 9. -/
  state : FabSt := .stopped
  /-- 3 bits; 09 Fabric table 2: state of each lane that is not listed and that reaches a device. -/
  base : LaneSt := .unused
  /-- 2,304 lanes; 09 R342. -/
  lanes : SMap Lane := []
  /-- 65,536 tags; 09 R371. -/
  tags : SMap TagUse := []
  /-- count; 09 R371: order counter of freed tags. -/
  freeOrder : Nat := 0
  /-- peer queues and buffers; 09 R350. -/
  queues : List Queued := []
  /-- 18 x 24 slots, line plus one; 09 R349: line a slot holds (key 24·fiber + slot). -/
  slots : SMap Nat := []
  /-- packets; 09 R350: packets that the slots have put on lanes, with the lane, oldest first. -/
  sent : List (Nat × Packet) := []
  /-- 64 bits each; 09 R344, R349, R351: frame words that the slots have sent, with the lane, oldest first; one stands for the frames of a
  visit or of a packet. -/
  frames : List (Nat × BitVec 64) := []
  /-- 64 bits; 09 R371: a doorbell send that waits for a Free tag. -/
  dbWait : Option Nat := none
  /-- LCTL entries; 09 R364: entries waiting to be sent, with the neighbour. -/
  entries : List (Nat × BitVec 32) := []
  /-- 3 bits (3000:0D); 09 R384. -/
  dimsLost : Nat := 0
  /-- 16 bits (3000:11); 09 R378. -/
  db : Nat := 0
  /-- device numbers; 09 R382: neighbours a LEVEL_MISMATCH was raised for. -/
  mismatched : List Nat := []
  /-- time; 09 R348: end of the margin test. -/
  testEnd : Option Nat := none
  /-- count; 09 R345: margin test round. -/
  round : Nat := 0
deriving DecidableEq, Repr

/-- The cascade (R386 to R399). -/
structure Casc where
  /-- 8 bits (3400:01); 10 Cascades table 2. -/
  state : CascSt := .stopped
  /-- 16 bits (3400:0A); 10 R394. -/
  lost : Nat := 65535
  /-- 4,096 bits (3400:0B); 10 R392. -/
  joined : List Nat := []
  /-- physical 64-byte words; 10 R389: physical addresses of the cascade area. -/
  area : List Nat := []
  /-- 16 bits; 10 R389: generation of the previous run since reset. -/
  prevGen : Option Nat := none
  /-- times plus one; 10 R393: last accepted word of each member. -/
  lastWord : SMap Nat := []
  /-- 32 bits; 10 Cascades table 3: probe count. -/
  seq : Nat := 0
  /-- time; 10 R391. -/
  lastProbe : Nat := 0
deriving DecidableEq, Repr

/-- The Advar host link (R400 to R429). -/
structure Hl where
  /-- 2 bits (0400:01); 11 R407. -/
  state : LinkSt := .down
  /-- 4 bits; 11 Host link table 7. -/
  lanes : BitVec 4 := 0
  /-- 16 bits saturating (0400:0C); 11 R407. -/
  ups : Nat := 0
  /-- 8 bits; 11 Host link table 7 ups. -/
  upsMod : Nat := 0
  /-- 1 bit; 11 R407: each end has accepted a frame. -/
  peerSeen : Bool := false
  /-- 1 bit (0400:05); 11 R425. -/
  session : Bool := false
  /-- 16 bits (0400:04); 11 R425. -/
  level : Nat := 0
  /-- 16 bits (0400:07); 11 R425. -/
  sessions : Nat := 0
  /-- 8 bits (0400:06); 11 R426. -/
  refusal : Nat := 0
  /-- 32 bits (EVT_HEAD); 11 R422. -/
  evtHead : Nat := 0
  /-- 32 bits (0400:0A); 11 R421. -/
  evtTail : Nat := 0
  /-- 256 records; 11 R423. -/
  evtQueue : List EventRec := []
  /-- 12 bits; 11 R405: fseq expected next. -/
  rxNext : Nat := 0
  /-- 1 bit; 11 R405: frames are discarded until the replay. -/
  gap : Bool := false
  /-- 1 bit; 11 R405: nak is sent in the next frame. -/
  nakDue : Bool := false
  /-- 12 bits; 11 R406: fseq of the next frame sent. -/
  txNext : Nat := 0
  /-- count to 128; 11 R406: frames in the replay buffer. -/
  uncovered : Nat := 0
  /-- time; 11 R406: last advance of aseq. -/
  lastCover : Nat := 0
  /-- count; 11 R406: replays without an advance. -/
  replays : Nat := 0
  /-- 12 bits; 11 R409 cq. -/
  reqGranted : Nat := 1024
  /-- 12 bits; 11 R409 cr. -/
  rspGranted : Nat := 512
  /-- 12 bits; 11 R409: cq received. -/
  peerReq : Nat := 0
  /-- 12 bits; 11 R409: cr received. -/
  peerRsp : Nat := 0
  /-- count; 11 R409: REQ flits sent since link up. -/
  sentReq : Nat := 0
  /-- count; 11 R409: RSP flits sent since link up. -/
  sentRsp : Nat := 0
  /-- 64 bits; 11 R404: the frame control of the frame sent last. -/
  lastCtl : BitVec 64 := 0
  /-- kind, processor, count; 11 R429. -/
  streak : Nat × Nat × Nat := (0, 0, 0)
  /-- 4,096 tags; 11 R414: timed-out tags not yet reusable. -/
  tags : List Nat := []
  /-- 12 bits; 11 R414. -/
  nextTag : Nat := 0
  /-- transactions; 11 R415: CPLs, MRDs, MWRs and EVTs the device has put on the link, oldest first. -/
  tx : List HostMsg := []
  /-- tags; 11 R420: device MWRs that have not ended. -/
  mwrOut : List Nat := []
  /-- transactions; 14 Reset table 4: host requests that wait at the wrapper of a DRAM stack in reset, and those that 11 R417 keeps behind them, oldest first. -/
  held : List (Nat × List Byte) := []
deriving DecidableEq, Repr

/-- The field port (R449 to R462). -/
structure Fp where
  /-- 8 bits (0500:01); 12 Dictionary table 10. -/
  state : FpSt := .silent
  /-- 1 bit (0500:0D); 12 R451, 14 Reset table 6. -/
  silentPin : Bool := true
  /-- 1 bit (0500:0D); 12 R456, 14 Reset table 6. -/
  winhPin : Bool := true
  /-- 16 bits (0500:0E); 12 Dictionary table 11. -/
  txErr : Nat := 0
  /-- 8 bits (0500:0F); 12 Dictionary table 11. -/
  rxErr : Nat := 0
  /-- 32 responses; 12 R457. -/
  rsp : List FpFrame := []
  /-- 64 events; 12 R457. -/
  evt : List EventRec := []
  /-- events; 13 R477: raised while the Barker is stopped. -/
  late : List EventRec := []
  /-- frames; 12 R454: frames started on the bus, oldest first. -/
  sent : List FpFrame := []
  /-- count; 12 R454. -/
  tokens : Nat := 8
  /-- time; 12 R454: refill timer. -/
  refillAt : Option Nat := none
  /-- times; 12 R455: active error flags of the last second. -/
  errFlags : List Nat := []
  /-- 16 frames; 12 R457: requests received while the Barker restarts. -/
  held : List FpFrame := []
  /-- record; 12 R461. -/
  seg : Option Seg := none
  /-- time; 12 R462: accepted RESET. -/
  resetAt : Option Nat := none
  /-- 1 bit; 12 R462: its RESET_RSP has been transmitted. -/
  resetSent : Bool := false
  /-- 1 bit; 12 R452: bus-off recovery runs. -/
  recovering : Bool := false
  /-- 1 bit; 12 R451: FB_SILENT returned to 0, 11 recessive bits awaited. -/
  pinnedWait : Bool := false
deriving DecidableEq, Repr

/-- One firmware processor (R463). Key 0 to 101. -/
structure Proc where
  /-- 8 bits (61pp:01); 13 Firmware table 9. -/
  state : ProcSt := .running
  /-- 64 bits (61pp:03); 13 Firmware table 9. -/
  version : Nat := 0
  /-- 16 bits (61pp:04); 13 Firmware table 9. -/
  restarts : Nat := 0
  /-- 256 bits (61pp:05); 13 Firmware table 3. -/
  crash : Nat := 0
  /-- times; 13 R472: restarts of causes 1 and 2 in the last second. -/
  recent : List Nat := []
  /-- time; 13 Firmware table 3. -/
  stopAt : Nat := 0
  /-- 4 bits; 13 Firmware table 3. -/
  cause : Nat := 0
  /-- 1 bit; 13 R472: image activated since the last cold reset. -/
  activated : Bool := false
  /-- bank; 13 R482: standby image loaded from this bank. -/
  pending : Option Nat := none
deriving DecidableEq, Repr

/-- Banks, commit and activation (R478 to R488). -/
structure Fw where
  /-- 2 bits; 13 Firmware table 8. -/
  bankState0 : Nat := 2
  /-- 2 bits; 13 Firmware table 8. -/
  bankState1 : Nat := 0
  /-- 16 bits; 13 Firmware table 8. -/
  recSeq : Nat := 0
  /-- 64 bits; 13 Firmware table 8. -/
  version0 : Nat := 0
  /-- 64 bits; 13 Firmware table 8. -/
  version1 : Nat := 0
  /-- 16 bits; 13 Firmware table 8. -/
  compat0 : Nat := 0
  /-- 16 bits; 13 Firmware table 8. -/
  compat1 : Nat := 0
  /-- 102 bits; 13 Firmware table 8 bank_map. -/
  map : SMap Nat := []
  /-- 2 bundles; 13 R478: parsed header fields of each bank. -/
  bundles : SMap Bundle := []
  /-- bytes; 13 R480: bundle bytes of bank 0. -/
  data0 : List Byte := []
  /-- bytes; 13 R480: bundle bytes of bank 1. -/
  data1 : List Byte := []
  /-- 8 bits (6000:04); 13 Firmware table 9. -/
  commitSt : Nat := 0
  /-- 8 bits (6000:05); 13 R481. -/
  commitReason : Nat := 0
  /-- offset, length; 13 R480. -/
  commitReq : Nat × Nat := (0, 0)
  /-- 8 bits (6000:07); 13 Firmware table 9. -/
  actSt : Nat := 0
  /-- 8 bits (6000:08); 13 R483. -/
  actReason : Nat := 0
  /-- 8 bits (6000:09); 13 Firmware table 9. -/
  actCurrent : Nat := 127
  /-- processors; 13 R482: processors still to switch, in order. -/
  actList : List Nat := []
  /-- 1 bit; 13 R482. -/
  actBank : Nat := 0
  /-- 16 records; 14 R501: retained crash records. -/
  crashLog : List Nat := []
  /-- objects; 13 R488: NV objects whose stored copy could not be read. -/
  unreadable : List Nat := []
  /-- 1 bit; 16 Security table 4 recovery. -/
  fromHost : Bool := false
deriving DecidableEq, Repr

/-- Reset, straps and bring-up (R490 to R514). -/
structure Rst where
  /-- level; 14 R491: a cold (1) or warm (2) reset is asserted. -/
  asserted : Option Nat := none
  /-- count to 8; 14 R498: release groups released so far. -/
  group : Nat := 1
  /-- 8 bits (5800:06); 14 R509. -/
  step : Nat := 1
  /-- 1 bit; 14 R494: Held reached since the last cold or warm reset. -/
  reachedHeld : Bool := false
  /-- 1 bit; 14 R510: bring-up stopped in Faulted. -/
  failed : Bool := false
  /-- 8 bits (5800:05); 14 R504. -/
  straps : Nat := 15
  /-- 128 bits (5800:09); 14 Reset table 8. -/
  options : Nat := 0
  /-- 8 x 64 bits (5800:10 to 17); 14 R500. -/
  backup : SMap Nat := []
  /-- 8 bits (5800:03); 14 R491. -/
  lastCause : Nat := 0
  /-- 8 bits (5800:04); 14 R491. -/
  lastLevel : Nat := 0
  /-- 16 bits (5800:08); 14 R493. -/
  rstnIgnored : Nat := 0
  /-- 32 bits (5800:07); 14 R509. -/
  bringupTime : Nat := 0
  /-- time; 14 R509. -/
  bringupStart : Nat := 0
  /-- list; 14 R499: block resets in progress. -/
  blocks : List BlockReset := []
  /-- time; 14 R496: warm reset that follows a completion. -/
  warmAt : Option Nat := none
  /-- 1 bit; 14 R506: field-port recovery. -/
  fpRecovery : Bool := false
  /-- 1 bit; 14 R506, 13 R470. -/
  haltDebug : Bool := false
  /-- 1 bit; 14 R508. -/
  optionFault : Bool := false
  /-- 1 bit; 14 R504. -/
  strapFault : Bool := false
  /-- processor, bank; 14 R510: fallbacks to raise at step 4. -/
  fellBack : List (Nat × Nat) := []
  /-- 8 bits; 14 Reset table 2, 18 R575: rails above their monitor thresholds. -/
  rails : BitVec 8 := 255
  /-- 1 bit; 14 Reset table 2, 18 R578. -/
  pwrGood : Bool := true
  /-- 1 bit; 18 R583. -/
  untrimmed : Bool := false
  /-- 1 bit; 18 R582: clocks run from the internal oscillator. -/
  refLost : Bool := false
  /-- level, cause; 14 R491: the reset that bring-up step 1 still records. -/
  record : Option (Nat × Nat) := some (1, 1)
  /-- 1 bit; 14 R506: bring-up has stopped after step 4 (field-port recovery). -/
  stopped : Bool := false
  /-- time; 14 R492, R493: the earliest moment of the release. -/
  clearAt : Nat := 0
  /-- kind, number; 14 R496: block resets requested and not yet asserted. -/
  requests : List (Nat × Nat) := []
  /-- columns by 33·tile + p; 14 R511: columns that did not lock in step 7. -/
  unlocked : List Nat := []
deriving DecidableEq, Repr

/-- Power states, ladder, sleep and thermal (R515 to R535). -/
structure Pwr where
  /-- 8 bits (5000:01); 15 Power table 2. -/
  state : Nat := 3
  /-- 8 bits (5000:02); 15 R518. -/
  request : Nat := 3
  /-- 8 bits (5000:05); 15 R528. -/
  levelPower : Nat := 0
  /-- 8 bits (5000:06); 15 R528. -/
  levelThermal : Nat := 0
  /-- FP32 (5000:08); 15 R526. -/
  estimate : Nat := 0
  /-- FP32; 15 R528: the estimate before. -/
  prevEstimate : Nat := 0
  /-- time; 15 R528: entry into the power level. -/
  powerEntered : Nat := 0
  /-- times plus one; 15 R528: per level, start of the unbroken run of estimates below its threshold. -/
  powerBelow : SMap Nat := []
  /-- time; 15 R528. -/
  thermalEntered : Nat := 0
  /-- times plus one; 15 R528: per level, start of the unbroken run of readings below its threshold. -/
  thermalBelow : SMap Nat := []
  /-- 1 bit; 15 R530: VR_ALERT_N reads low. -/
  vrAlert : Bool := false
  /-- time; 15 R530: L3 is held until. -/
  vrAlertHold : Option Nat := none
  /-- 1 bit (5000:09); 15 R531. -/
  emergency : Bool := false
  /-- time; 15 R531: no emergency condition since. -/
  quietSince : Option Nat := none
  /-- 1 bit; 15 R532: thermal trip asserted, THERM_TRIP_N low. -/
  trip : Bool := false
  /-- time; 15 R532. -/
  tripAt : Nat := 0
  /-- 8 bits (5000:0E); 15 R535. -/
  vrFault : BitVec 8 := 0
  /-- 8 bits; 15 R535: latched rails whose regulators were sent CLEAR_FAULTS and are polled again. -/
  clearing : BitVec 8 := 0
  /-- 8 bits (5000:10); 15 Power table 9. -/
  lastWake : Nat := 0
  /-- 51nn:02 to 06; 15 R533. -/
  telemetry : SMap (List Nat) := []
  /-- count; 15 R535: polls without a valid answer. -/
  misses : SMap Nat := []
  /-- FP32 (5010:02); 15 Power table 9. -/
  maxDie : Nat := 0
  /-- FP32 (5010:03); 15 Power table 9. -/
  maxDram : Nat := 0
  /-- address, command, data; 15 R519, R534: PMBus writes sent. -/
  pmbus : List (Nat × Nat × Nat) := []
  /-- 1 bit; 15 R520: the port was Active at entry to Standby. -/
  fpWasActive : Bool := false
  /-- 1 bit; 15 R519: the sequencer holds rails off. -/
  seqOff : Bool := false
deriving DecidableEq, Repr

/-- Identity, secure boot and attestation (R536 to R552). -/
structure Sec where
  /-- 8 x 97 bytes (6800:04); 16 R538 OTP. -/
  keys : SMap (List Byte) := []
  /-- 8 bits; 14 Reset table 8 OTP keys_revoked. -/
  revoked : Nat := 0
  /-- 2 bits; 14 Reset table 8 OTP debug_lock. -/
  debugLock : Nat := 0
  /-- 32 bits; 16 R541 OTP floor. -/
  floorOtp : Nat := 0
  /-- count; 16 R542: OTP steps left. -/
  floorSteps : Nat := 64
  /-- 32 bits (6800:05); 16 R541. -/
  floorNv : Nat := 0
  /-- 8 bits (6800:09); 16 R545. -/
  optionResult : Nat := 0
  /-- 32 bytes (6800:0A); 16 R543. -/
  challenge : List Byte := []
  /-- 8 bits (6800:0B); 16 R548 OTP. -/
  violations : Nat := 0
  /-- 1 bit (6800:0C); 16 R547. -/
  debugOpen : Bool := false
  /-- 8 bits (6800:11); 16 Security table 6. -/
  attest : Nat := 0
  /-- bytes; 16 R549: the report being built. -/
  snapshot : List Byte := []
  /-- bytes (6800:12); 16 R550. -/
  report : List Byte := []
  /-- 8 bits; 14 R507: second OTP copy of keys_revoked. -/
  revoked2 : Nat := 0
  /-- 2 bits; 14 R507: second OTP copy of debug_lock. -/
  debugLock2 : Nat := 0
  /-- 32 bits; 14 R507: second OTP copy of the OTP floor. -/
  floorOtp2 : Nat := 0
deriving DecidableEq, Repr

/-- The two combs (R258 to R263). -/
structure Light where
  /-- 8 bits (4000:01); 07 Loops table 5. -/
  compute : CombSt := .dark
  /-- 8 bits (4000:02); 07 Loops table 5. -/
  link : CombSt := .dark
  /-- 8 bits (4000:03); 07 Loops table 5 (NV). -/
  computePumps : Nat := 0
  /-- 8 bits (4000:04); 07 Loops table 5 (NV). -/
  linkPumps : Nat := 0
  /-- time; 07 R261. -/
  computeLostAt : Option Nat := none
  /-- time; 07 R261. -/
  linkLostAt : Option Nat := none
  /-- 1 bit; 07 R261: lost until the next cold reset. -/
  computeDead : Bool := false
  /-- 1 bit; 07 R261. -/
  linkDead : Bool := false
  /-- FP32 (4000:06); 07 R301. -/
  liftMin : Nat := 0
  /-- FP32 (4000:07); 07 R301. -/
  liftMax : Nat := 0
  /-- 1 bit (4000:09); 07 R298. -/
  pausing : Bool := false
  /-- 32 bits (4000:0A); 07 R299. -/
  lastPause : Nat := 0
  /-- time; 07 R299. -/
  pauseStart : Nat := 0
  /-- 1 bit; 07 R299: the ALERT of this pause was raised. -/
  alerted : Bool := false
  /-- 1 bit; 07 R262: the comb has returned, and each column passes the line-identity check once locked. -/
  recheck : Bool := false
deriving DecidableEq, Repr

/-- Carousel and baseline calibration (R324 to R336). -/
structure Cal where
  /-- 16 bits (4C00:03); 08 R335. -/
  unusable : Nat := 0
  /-- time; 08 R333: end of the last baseline calibration. -/
  baselineAt : Nat := 0
  /-- 8 bits (4C00:07); 08 Converters table 12. -/
  baseline : Nat := 0
  /-- 32 bits (4C00:08); 08 Converters table 12. -/
  duration : Nat := 0
  /-- 16 bits (4C00:0A); 08 R329. -/
  sparesLost : Nat := 0
  /-- 32 bits (1000:07); 01 Basin table 5, 08 R329. -/
  columnsRetired : Nat := 0
  /-- 16 bits (1000:08); 01 Basin table 5, 08 R329. -/
  tilesReduced : Nat := 0
  /-- 16-bit codes (4800:08); 08 R317. -/
  captured : List Nat := []
  /-- 14 bits a heater; 08 R323 NV parking table. -/
  parking : SMap Nat := []
  /-- list; 07 R294: line-identity checks waiting for slots. -/
  checks : List Check := []
  /-- time a tier; 07 R294, 08 R327: the end of the check slots that drive its row modulators. -/
  driven : SMap Nat := []
deriving DecidableEq, Repr

/-- Faults and counters (R553 to R569). -/
structure Flt where
  /-- 55 x 32 bits; 17 Faults table 5, 12 R443. -/
  counters : SMap Nat := []
  /-- 55 bits; 12 R444. -/
  sats : List Nat := []
  /-- 16 bits (7000:04); 17 R555. -/
  lastCode : Nat := 0
  /-- 32 bits (7000:05); 17 R555. -/
  lastInt : Nat := 0
  /-- 32 bits (7000:06); 17 R555. -/
  maxInt : Nat := 0
  /-- code, unit, time; 17 R555: faults whose interval is being measured. -/
  starts : List (Nat × Nat × Nat) := []
deriving DecidableEq, Repr

/-- Dictionary storage, event log and directory (R430 to R448). -/
structure Dict where
  /-- values by index·256 + sub; 12 R431: written objects (default where none is stored). -/
  objs : SMap Nat := []
  /-- values by index·256 + sub; 12 R434 NV store. -/
  nv : SMap Nat := []
  /-- object, time; 12 R435: commits not yet made. -/
  nvDue : List (Nat × Nat) := []
  /-- list; 12 R442. -/
  fails : List Fail := []
  /-- 4,096 records; 12 R448. -/
  log : List EventRec := []
  /-- 32 bits (7800:01); 12 Dictionary table 6. -/
  seq : Nat := 0
  /-- 98 bits (41cc:02), stored as stopped; 07 Loops table 5: run object of each cluster. -/
  loops : SMap Bool := []
  /-- list; 13 R465: accesses that wait for a stopped processor. -/
  waiting : List Waiting := []
deriving DecidableEq, Repr

/-- Device memory (06 R237, R240): the bytes of local DRAM and staging SRAM by device physical address (an unlisted
byte reads 0), and the state of the granules and stacks. -/
structure Mem where
  /-- bytes by physical address; 06 R237 Streams table 4. -/
  bytes : SMap Byte := []
  /-- granules that are bad, as physical address divided by 64; 06 R240. -/
  bad : List Nat := []
  /-- saturating count of mem.bad_granules beyond the list is not needed: the list is complete; failed stacks; 17 R564. -/
  failed : List Nat := []
  /-- stack and moment of each granule that became bad; 17 R564. -/
  badTimes : List (Nat × Nat) := []
  /-- stacks whose controllers are in a block reset; 04 R163. -/
  inReset : List Nat := []
deriving DecidableEq, Repr

/-- The whole machine, with the queue of commands that wait. -/
structure State where
  /-- engine cycles since the last cold or warm reset (dev.time); 12 Dictionary table 5. -/
  time : Nat := 0
  /-- the MODEL's own: free values drawn so far. -/
  freeCtr : Nat := 0
  /-- local DRAM and staging SRAM; 06 R237. -/
  mem : Mem := {}
  /-- the pass sequencer; 01. -/
  basin : BasinSt := {}
  /-- 256 regions by number; 01 R26. -/
  regions : SMap Region := []
  /-- weight digits by (33·tile + physical column)·64 + ring row; 01 R15. -/
  rings : SMap Nat := []
  /-- 12-bit bias codes by ring, as rings; 04 R123, R125: what the writer applied last. -/
  codes : SMap Nat := []
  /-- times plus one by ring, as rings; 04 R132, R133: the ring's last write. -/
  ringAt : SMap Nat := []
  /-- ring writes asked of the writers and not yet made, in order of arrival; 04 R133. -/
  writes : List RingWrite := []
  /-- mirror reads that wait for a stack in block reset, in order of arrival; 04 R163. -/
  mirrorReads : List MirrorRead := []
  /-- 25,088 tiles by 128·t + g; 01 R10. -/
  tiles : SMap TileSt := []
  /-- 827,904 physical columns by 33·tile + p; 08 R303. -/
  cols : SMap ColSt := []
  /-- 852,992 heater DACs by 34·tile + h; 08 R319. -/
  heaters : SMap HeaterSt := []
  /-- outer loops by tile; 07 R274. -/
  tileLoops : SMap TileLoop := []
  /-- NV copy of the calibration store, columns by 33·tile + p; 08 R305. -/
  calNv : SMap ColSt := []
  /-- NV copy of the calibration store, tiles; 08 R305. -/
  tileNv : SMap TileLoop := []
  /-- 98 clusters; 01 Basin table 1. -/
  clusters : SMap ClusterSt := []
  /-- accumulators by 4096·set + index; 03 R89. -/
  accs : SMap Acc := []
  /-- Weir set 0; 03 R93. -/
  set0 : SetSt := {}
  /-- Weir set 1; 03 R93. -/
  set1 : SetSt := {}
  /-- the ops whose sets entered Draining, oldest first, as queue and submission number; 03 R97. -/
  drainOrder : List (Nat × Nat) := []
  /-- the fused output stage is reading the first of drainOrder; 03 R97. -/
  drainBusy : Bool := false
  /-- the SMX that holds the softmax helper; 03 R120. -/
  helper : Option (Nat × Nat) := none
  /-- 1400:05; 03 R94. -/
  drainWaits : Nat := 0
  /-- ops admitted and not retired; 05 R176. -/
  ops : List Op := []
  /-- admissions so far, over all queues; 05 R179. -/
  admissions : Nat := 0
  /-- four op queues; 05 R165. -/
  queues : SMap QueueSt := []
  /-- eight epoch identifiers; 05 R193. -/
  epochs : SMap Epoch := []
  /-- SPBs that opened an epoch since reset; 05 R194. -/
  epochSerial : Nat := 0
  /-- 1800:05; 05 R194. -/
  lastStamp : Nat := 0
  /-- 256 token counters; 05 Ops table 15. -/
  tokens : SMap Nat := []
  /-- speculative lines and peers' provisional writes, in order of production; 05 R199, R203. -/
  specWrites : List SpecWrite := []
  /-- provisional token increments, oldest first; 05 R203, R595. -/
  provTokens : List ProvToken := []
  /-- provisional increments so far; 05 R595. -/
  provIds : Nat := 0
  /-- epoch messages that wait for a fabric tag; 05 Ops table 11, 09 R371. -/
  epochMsgs : List EpochMsg := []
  /-- 64 stream contexts; 06 R215. -/
  ctxs : SMap Ctx := []
  /-- requests in flight, oldest first; 06 R231. -/
  reqs : List Req := []
  /-- requests issued so far; 06 R246. -/
  reqSerial : Nat := 0
  /-- translation cache; 06 R245. -/
  xcache : List XEntry := []
  /-- writes to 2400:03 not yet answered, each with the requests issued before it; 06 R246. -/
  invals : List (Port × Nat × Nat) := []
  /-- 2000:04; 06 R216. -/
  streamRefusal : Nat := 0
  /-- moment of the last pool progress; 06 R235. -/
  poolProgress : Nat := 0
  /-- the digest engine's computations, oldest first; 04 R144. -/
  digests : List Digest := []
  /-- the fabric; 09. -/
  fab : Fab := {}
  /-- the cascade; 10. -/
  casc : Casc := {}
  /-- the host link; 11. -/
  hl : Hl := {}
  /-- the field port; 12. -/
  fp : Fp := {}
  /-- 102 firmware processors; 13. -/
  procs : SMap Proc := []
  /-- firmware banks; 13. -/
  fw : Fw := {}
  /-- reset, straps and bring-up; 14. -/
  rst : Rst := {}
  /-- power and thermal; 15. -/
  pwr : Pwr := {}
  /-- security; 16. -/
  sec : Sec := {}
  /-- the combs and the thermal pause; 07. -/
  light : Light := {}
  /-- the Carousel and calibration; 08. -/
  cal : Cal := {}
  /-- counters and interruption records; 17. -/
  flt : Flt := {}
  /-- dictionary storage and the event log; 12. -/
  dict : Dict := {}
  /-- the commands that wait, first in, first out; the MODEL's own. -/
  pending : List Instr := []
deriving DecidableEq, Repr

/-- Why the block stops with a fault. The spec gives no command an effect that stops the block, so no meaning raises
one. -/
inductive Fault where
  /-- raised by nobody; safe. -/
  | none
deriving DecidableEq, Repr

/-- Why the block gives a command no meaning. -/
inductive Refusal where
  /-- raised by Dispatch alone, for a command that has no meaning yet; safe. -/
  | notModelled (mnemonic : String)
deriving DecidableEq, Repr

/-- The machine right after a cold reset is released: bring-up step 1 runs, the host link is Down, no session is open. -/
def State.reset : State := {}

end Sys2Proof.Machine
end

