-- ==== Sys2Proof/Machine/Ops.lean ====
section
/-! DEFINITION. The named operations over the state: reading and updating each kind of thing, counters, objects, events,
memory, and the answers that the device gives to its requesters. -/

namespace Sys2Proof.Machine

/-! ### Things by number -/

/-- Region r (01 R26). -/
def State.region (s : State) (r : Nat) : Region := mget {} s.regions r
/-- Update of region r. -/
def State.modRegion (s : State) (r : Nat) (f : Region → Region) : State := { s with regions := mmod {} s.regions r f }
/-- Tile 128·t + g (01 R10). -/
def State.tile (s : State) (t : Nat) : TileSt := mget {} s.tiles t
/-- Update of a tile. -/
def State.modTile (s : State) (t : Nat) (f : TileSt → TileSt) : State := { s with tiles := mmod {} s.tiles t f }
/-- Physical column p of a tile (08 R303). -/
def State.col (s : State) (t p : Nat) : ColSt := mget {} s.cols (33 * t + p)
/-- Update of a physical column. -/
def State.modCol (s : State) (t p : Nat) (f : ColSt → ColSt) : State := { s with cols := mmod {} s.cols (33 * t + p) f }
/-- Heater h of a tile: 0 to 32 its columns', 33 the tile's (08 R319). -/
def State.heater (s : State) (t h : Nat) : HeaterSt := mget {} s.heaters (34 * t + h)
/-- Update of a heater. -/
def State.modHeater (s : State) (t h : Nat) (f : HeaterSt → HeaterSt) : State := { s with heaters := mmod {} s.heaters (34 * t + h) f }
/-- The outer loop of a tile (07 R274). -/
def State.tileLoop (s : State) (t : Nat) : TileLoop := mget {} s.tileLoops t
/-- Update of an outer loop. -/
def State.modTileLoop (s : State) (t : Nat) (f : TileLoop → TileLoop) : State := { s with tileLoops := mmod {} s.tileLoops t f }
/-- Cluster c (01 Basin table 1). -/
def State.cluster (s : State) (c : Nat) : ClusterSt := mget {} s.clusters c
/-- Update of a cluster. -/
def State.modCluster (s : State) (c : Nat) (f : ClusterSt → ClusterSt) : State := { s with clusters := mmod {} s.clusters c f }
/-- What a column's loop is (07 R270, R280): its own state, or that of the cluster's rest. -/
def State.loopOf (s : State) (t p : Nat) : LoopSt :=
  if (s.col t p).loop = .base then (s.cluster (t / 256)).base else (s.col t p).loop
/-- The physical columns of a tile. -/
def columns : List Nat := List.range 33
/-- Loop updates of a cluster that have begun since its loops last started (08 R307); one lasts 4,800 engine cycles. -/
def State.updateNow (s : State) (c : Nat) : Nat := (s.time - (s.cluster c).loopStart) / 4800
/-- The monitor converter of a tile (08 R306). -/
def convOf (tile : Nat) : Nat := tile % 256 / 16
/-- A capture runs on the pair of a cluster's converter (08 R317). -/
def State.capturingPair (s : State) (c conv : Nat) : Bool :=
  match (s.cluster c).capture with
  | some q => q.started && decide (bits q.req 7 3 = conv / 2)
  | none => false
/-- Every column's loop of a cluster is locked, but those that are retired or in the recovery procedure (07 R270). -/
def State.loopsLocked (s : State) (c : Nat) : Bool :=
  let x := s.cluster c
  x.loopsOn && decide (x.base = .locked ∨ (s.cols.filter (fun e => decide (e.1 / 33 / 256 = c) && decide (e.2.loop ≠ .base))).length = 256 * 33)
    && s.cols.all (fun e => decide (e.1 / 33 / 256 ≠ c) || decide (e.2.loop = .base) || decide (e.2.loop = .locked) || e.2.retired
        || decide (e.1 % 33 ∈ (s.tile (e.1 / 33)).recovs))
/-- Accumulator i of a set (03 R89). -/
def State.acc (s : State) (set i : Nat) : Acc := mget {} s.accs (4096 * set + i)
/-- Update of an accumulator. -/
def State.modAcc (s : State) (set i : Nat) (f : Acc → Acc) : State := { s with accs := mmod {} s.accs (4096 * set + i) f }
/-- A Weir set (03 R93). -/
def State.set (s : State) (k : Nat) : SetSt := if k = 0 then s.set0 else s.set1
/-- Update of a Weir set. -/
def State.modSet (s : State) (k : Nat) (f : SetSt → SetSt) : State := if k = 0 then { s with set0 := f s.set0 } else { s with set1 := f s.set1 }
/-- Op queue q (05 R165). -/
def State.queue (s : State) (q : Nat) : QueueSt := mget {} s.queues q
/-- Update of an op queue. -/
def State.modQueue (s : State) (q : Nat) (f : QueueSt → QueueSt) : State := { s with queues := mmod {} s.queues q f }
/-- Epoch identifier e (05 R193). -/
def State.epoch (s : State) (e : Nat) : Epoch := mget {} s.epochs e
/-- Update of an epoch identifier. -/
def State.modEpoch (s : State) (e : Nat) (f : Epoch → Epoch) : State := { s with epochs := mmod {} s.epochs e f }
/-- Stream context c (06 R215). -/
def State.ctx (s : State) (c : Nat) : Ctx := mget {} s.ctxs c
/-- Update of a stream context. -/
def State.modCtx (s : State) (c : Nat) (f : Ctx → Ctx) : State := { s with ctxs := mmod {} s.ctxs c f }
/-- Processor p (13 R463). -/
def State.proc (s : State) (p : Nat) : Proc := mget {} s.procs p
/-- Update of a processor. -/
def State.modProc (s : State) (p : Nat) (f : Proc → Proc) : State := { s with procs := mmod {} s.procs p f }
/-- Lane 128·fiber + line (09 R342). -/
def State.lane (s : State) (l : Nat) : Lane := mget {} s.fab.lanes l
/-- Update of a lane. -/
def State.modLane (s : State) (l : Nat) (f : Lane → Lane) : State := { s with fab := { s.fab with lanes := mmod {} s.fab.lanes l f } }
/-- A fabric tag (09 R371). -/
def State.fabTag (s : State) (t : Nat) : TagUse := mget {} s.fab.tags t
/-- Update of a fabric tag. -/
def State.modTag (s : State) (t : Nat) (f : TagUse → TagUse) : State := { s with fab := { s.fab with tags := mmod {} s.fab.tags t f } }
/-- Token counter n (05 Ops table 15). -/
def State.token (s : State) (n : Nat) : Nat := mget 0 s.tokens n
/-- Token counter n set to a count of 32 bits. -/
def State.setToken (s : State) (n v : Nat) : State := { s with tokens := mset 0 s.tokens n (v % 2 ^ 32) }

/-- The next free value's index: the state draws one. -/
def State.draw (s : State) : Nat × State := (s.freeCtr, { s with freeCtr := s.freeCtr + 1 })

/-! ### Counters (12 R443 to R446) -/

/-- Counter n is raised by k, saturating, with its SAT flag (12 R444). -/
def State.count (s : State) (n : Nat) (k : Nat := 1) : State :=
  let v := satAdd 32 (mget 0 s.flt.counters n) k
  { s with flt := { s.flt with
      counters := mset 0 s.flt.counters n v
      sats := if v = 2 ^ 32 - 1 ∧ n ∉ s.flt.sats then s.flt.sats ++ [n] else s.flt.sats } }

/-- Counter n and its SAT flag are cleared (12 R445). -/
def State.clearCounter (s : State) (n : Nat) : State :=
  { s with flt := { s.flt with counters := mdel s.flt.counters n, sats := s.flt.sats.filter (· ≠ n) } }

/-! ### Objects: storage (12 R430 to R434) -/

/-- The line of the object tables for an index and subindex, with the member's number in its family. -/
def objRow (index sub : Nat) : Option (ObjRow × Nat) :=
  (objTable.find? (fun r => decide (r.sub = sub) && decide (r.base ≤ index) && decide (index < r.base + r.count))).map
    (fun r => (r, index - r.base))

/-- An object's default (12 R434); the address of regulator n is 0x40 + n (15 Power table 9), the coefficient blocks are
those of 07 Loops table 4. -/
def rowDefault (r : ObjRow) (i : Nat) : Nat :=
  if r.base = 0x5101 ∧ r.sub = 1 then 0x41 + i else r.dflt

/-- The stored value of an object, as a number, least significant byte first; its default where none is stored. -/
def State.obj (s : State) (index sub : Nat) : Nat :=
  match objRow index sub with
  | some (r, i) => mget (rowDefault r i) s.dict.objs (256 * index + sub)
  | none => 0

/-- A value stored in an object. -/
def State.setObj (s : State) (index sub v : Nat) : State :=
  match objRow index sub with
  | some (r, i) => { s with dict := { s.dict with objs := mset (rowDefault r i) s.dict.objs (256 * index + sub) v } }
  | none => s

/-! ### The answers -/

/-- Flits that a transaction of n data bytes takes (11 R411). -/
def flits (n : Nat) : Nat := 1 + cdiv (n - 224) 256

/-- A CPL is put on the host link (11 R409, R415). -/
def State.cpl (s : State) (tag status detail : Nat) (data : List Byte := []) : State :=
  { s with hl := { s.hl with tx := s.hl.tx ++ [.cpl tag status detail data], sentRsp := s.hl.sentRsp + flits data.length } }

/-- Completion statuses and error codes (11 Host link tables 4 and 5), as seen by either port. -/
inductive Ans where
  | ok (data : List Byte)
  | okIgnored
  | err (code sub : Nat)
  | retry
  | refused (reason : Nat)
  /-- a status of the field port alone (12 Dictionary table 14). -/
  | fp (status : Nat)
deriving DecidableEq, Repr

/-- ERROR codes (11 Host link table 5). -/
def errMalformed : Nat := 1
/-- No such object. -/
def errNoObject : Nat := 2
/-- The access class forbids the access. -/
def errAccess : Nat := 3
/-- The value breaks a rule. -/
def errValue : Nat := 4
/-- A device virtual address did not translate. -/
def errXlat : Nat := 5
/-- Uncorrectable error. -/
def errMemory : Nat := 6
/-- The leaf target is not local DRAM. -/
def errNotLocal : Nat := 7
/-- A physical address that holds nothing. -/
def errNoAddr : Nat := 8

/-! ### Processors (11 Host link table 9) -/

/-- Processor numbers (11 Host link table 9). -/
def procSecurity : Nat := 0
/-- The Ringmaster. -/
def procRingmaster : Nat := 1
/-- The Barker. -/
def procBarker : Nat := 2
/-- The power core. -/
def procPower : Nat := 3
/-- The cluster core of cluster c. -/
def procCluster (c : Nat) : Nat := 4 + c

/-! ### Events (12 R447, R448) -/

/-- Events the transmit queue of the field port holds (12 R457). -/
def fpEventDepth : Nat := 64

/-- An event joins the field port's transmit queue, or is dropped there and counted (12 R457). -/
def State.fpEvent (s : State) (e : EventRec) : State :=
  if s.fp.evt.length < fpEventDepth then { s with fp := { s.fp with evt := s.fp.evt ++ [e] } } else s.count 0x31

/-- One event record: it is numbered, stamped, logged, queued for the host's event ring (11 R423) and, while the field
port is enabled and the severity is high enough, for the field port (12 R447, R457), at the Barker's return where it is stopped
(13 R477). -/
def State.event (s : State) (kind severity code payload : Nat) : State :=
  let e : EventRec :=
    { kind := kind, severity := severity, code := code, seq := (s.dict.seq + 1) % 2 ^ 32, time := s.time, payload := payload }
  let s := { s with dict := { s.dict with seq := e.seq, log := (s.dict.log ++ [e]).drop (s.dict.log.length + 1 - 4096) } }
  let s := if s.hl.evtQueue.length < 256 then { s with hl := { s.hl with evtQueue := s.hl.evtQueue ++ [e] } }
           else s.count 0x2D
  if s.obj 0x0500 0x0A ≤ severity ∧ (s.fp.state = .active ∨ s.fp.state = .pinned) then
    if (s.proc procBarker).state = .running then s.fpEvent e else { s with fp := { s.fp with late := s.fp.late ++ [e] } }
  else s

/-- The 32 bytes of an event record (12 Dictionary table 6). -/
def EventRec.bytes (e : EventRec) : List Byte :=
  leBytes 32 (field 0 8 e.kind + field 8 2 e.severity + field 16 16 e.code + field 32 32 e.seq + field 64 64 e.time
    + field 128 128 e.payload)

/-- A CONDITION event (17 R568); payload bits count from bit 128 of the record. -/
def State.condition (s : State) (code severity payload : Nat) : State := s.event 3 severity code payload

/-- A fault of Faults table 1 is over: its code and interval are recorded (17 R555). -/
def State.interruption (s : State) (code interval : Nat) : State :=
  { s with flt := { s.flt with
      lastCode := code, lastInt := interval % 2 ^ 32, maxInt := max s.flt.maxInt (interval % 2 ^ 32) } }

/-- The interval of a fault begins (17 R555). -/
def State.startFault (s : State) (code unit : Nat) : State :=
  { s with flt := { s.flt with starts := s.flt.starts ++ [(code, unit, s.time)] } }

/-- The interval of a fault that began ends (17 R555). -/
def State.endFault (s : State) (code unit : Nat) : State :=
  match s.flt.starts.find? (fun f => decide (f.1 = code) && decide (f.2.1 = unit)) with
  | some f =>
    ({ s with flt := { s.flt with starts := s.flt.starts.filter (fun g => ¬ (g.1 = code ∧ g.2.1 = unit)) } }).interruption
      code (s.time - f.2.2)
  | none => s

/-! ### Memory (06 R237 to R241) -/

/-- First byte after local DRAM. -/
def dramEnd : Nat := 0x3000000000
/-- First byte of staging SRAM. -/
def stagingBase : Nat := 0x4000000000
/-- Bytes of staging SRAM that offsets reach (06 R225). -/
def stagingSize : Nat := 0x0C000000

/-- Whether a device physical address holds something (06 Streams table 4). -/
def physOk (a : Nat) : Bool := decide (a < dramEnd) || (decide (stagingBase ≤ a) && decide (a < stagingBase + stagingSize))

/-- The stack of a DRAM address: bit 12 selects it (06 Streams table 4). -/
def stackOf (a : Nat) : Nat := bits a 12 1

/-- The byte at a device physical address. What nothing has written reads 0: step 5 of bring-up clears DRAM; for staging
SRAM, whose content at reset the spec leaves open, DESIGN CHOICE (unsafe). -/
def Mem.read (m : Mem) (a : Nat) : Byte := mget 0 m.bytes a

/-- A byte written at a device physical address. -/
def Mem.write (m : Mem) (a : Nat) (b : Byte) : Mem := { m with bytes := mset 0 m.bytes a b }

/-- n bytes from an address on. -/
def Mem.readN (m : Mem) (a n : Nat) : List Byte := (List.range n).map (fun i => m.read (a + i))

/-- Bytes written from an address on. -/
def Mem.writeN (m : Mem) (a : Nat) : List Byte → Mem
  | [] => m
  | b :: bs => (m.write a b).writeN (a + 1) bs

/-- The granules, by physical address divided by 64, that n bytes from an address touch. -/
def granules (a n : Nat) : List Nat := if n = 0 then [] else (List.range ((a + n - 1) / 64 - a / 64 + 1)).map (· + a / 64)

/-- Whether a granule lies in a failed stack (17 R565). -/
def Mem.lost (m : Mem) (g : Nat) : Bool := decide (64 * g < dramEnd) && decide (stackOf (64 * g) ∈ m.failed)

/-- Whether a request to n bytes of DRAM or staging SRAM meets an uncorrectable error or a failed stack (06 R240, R241, 17
R565). -/
def Mem.errs (m : Mem) (a n : Nat) : Bool := (granules a n).any (fun g => decide (g ∈ m.bad) || m.lost g)

/-- A write to memory: granules written whole are good again, and a part of a bad granule leaves it bad (06 R240). -/
def Mem.store (m : Mem) (a : Nat) (bs : List Byte) : Mem :=
  let m' := m.writeN a bs
  { m' with bad := m'.bad.filter (fun g => ¬ (a ≤ 64 * g ∧ 64 * g + 64 ≤ a + bs.length)) }

/-- Whether a write to memory meets an uncorrectable error: a partial write of a bad granule, or a failed stack (06
R241, 17 R565). -/
def Mem.storeErrs (m : Mem) (a n : Nat) : Bool :=
  (granules a n).any (fun g => m.lost g || (decide (g ∈ m.bad) && !(decide (a ≤ 64 * g) && decide (64 * g + 64 ≤ a + n))))

/-- Whether n bytes at an offset of staging SRAM lie within the 192 MiB that offsets reach (06 R225). An op whose data do not ends with
ERR_MEMORY (DESIGN CHOICE, log 96). -/
def stagingOk (off n : Nat) : Bool := decide (off + n ≤ stagingSize)

/-- How many of n bytes from an address come before the first granule that fails. -/
def Mem.goodBytes (m : Mem) (a n : Nat) (bad : Nat → Bool) : Nat :=
  match (granules a n).find? (fun g => m.lost g || bad g) with
  | some g => 64 * g - a
  | none => n

/-- A write to device physical memory. -/
def State.store (s : State) (a : Nat) (bs : List Byte) : State := { s with mem := s.mem.store a bs }

/-- n bytes of staging SRAM at an offset, memory alone. -/
def State.staging (s : State) (off n : Nat) : List Byte := s.mem.readN (stagingBase + off) n

/-! ### Reads that see provisional data (05 R199, R203, R595) -/

/-- Whether a read for an op of an epoch (by serial; none: no epoch) sees a provisional write of a key: a local one of
the same or an earlier epoch, or any peer's; every view sees a retired epoch's. -/
def SpecKey.seenBy (k : SpecKey) (view : Option Nat) : Bool :=
  match view, k with
  | _, .landed _ => true
  | none, _ => false
  | some e, .local_ n => decide (n ≤ e)
  | some e, .self n => decide (n ≤ e)
  | some _, .peer _ _ => true

/-- The latest provisional byte that a view sees at an address of a space (0 local physical, 1 host, 2 peer). -/
def State.specByte (s : State) (view : Option Nat) (space a : Nat) : Option Byte :=
  match (s.specWrites.filter (fun w => w.key.seenBy view && decide (w.space = space) && decide (w.addr ≤ a)
      && decide (a < w.addr + w.data.length))).getLast? with
  | some w => w.data[a - w.addr]?
  | none => none

/-- Bytes of a space as a view sees them: those written provisionally in place of those that memory gave (05 R199). -/
def State.overlay (s : State) (view : Option Nat) (space a : Nat) (bs : List Byte) : List Byte :=
  bs.zipIdx.map (fun x => (s.specByte view space (a + x.2)).getD x.1)

/-- A byte of local physical memory as a view sees it. -/
def State.seeByte (s : State) (view : Option Nat) (a : Nat) : Byte :=
  match s.specByte view 0 a with
  | some b => b
  | none => s.mem.read a

/-- n bytes of local physical memory as a view sees them. -/
def State.see (s : State) (view : Option Nat) (a n : Nat) : List Byte := (List.range n).map (fun i => s.seeByte view (a + i))

/-- The peers whose provisional data a view reads in n bytes of local memory (05 R203). -/
def State.peersRead (s : State) (view : Option Nat) (a n : Nat) : List (Nat × Nat) :=
  (s.specWrites.filter (fun w => w.key.seenBy view && decide (w.space = 0) && decide (w.addr < a + n)
    && decide (a < w.addr + w.data.length))).filterMap (fun w =>
      match w.key with
      | .peer src st => some (src, st)
      | _ => none)

end Sys2Proof.Machine
end

