-- ==== Sys2Proof/Machine/Flags.lean ====
section
/-! DEFINITION. The flags: residual classes of a conversion, the accumulator's sticky flags and alignment window, and the
flags of a completion record (02 R57 to R59, R71 to R77, 05 Ops table 13). -/

namespace Sys2Proof.Machine

/-! ### Conversion (02 R55, R57 to R59) -/

/-- The range of a column sum: n_lo and n_hi (02 Arithmetic table 5). -/
def sumLo (high : Bool) : Int := if high then -512 else 0
/-- The upper end of the range. -/
def sumHi (high : Bool) : Int := if high then 448 else 960

/-- The nominal code of integer n (02 R57). -/
def nominal (high : Bool) (n : Int) : Int := 256 + 8 * (n - sumLo high)

/-- The classes of 02 Arithmetic table 6. -/
inductive Residual where
  | clean | warn | ambiguous
deriving DecidableEq, Repr

/-- A converted reading: the integer, clamped into range, and its class (02 R57 to R59). -/
def convert (high : Bool) (c : Int) : Int × Residual :=
  let n := (c - 256 + 3) / 8 + sumLo high
  let r := c - (256 + 8 * (n - sumLo high))
  if n < sumLo high then (sumLo high, .ambiguous)
  else if sumHi high < n then (sumHi high, .ambiguous)
  else if r = 4 then (n, .ambiguous)
  else if r = -3 ∨ r = 3 then (n, .warn)
  else (n, .clean)

/-! ### Accumulation (02 R71 to R77, 03 R88, R90) -/

/-- The limits of a 128-bit value. -/
def accMin : Int := -(2 ^ 127 : Nat)
/-- The upper limit. -/
def accMax : Int := (2 ^ 127 : Nat) - 1

/-- The largest contribution count (02 R74). -/
def countMax : Nat := 2 ^ 30

/-- A cleared accumulator (02 R71, 03 R88). -/
def Acc.cleared (e : Int) : Acc := { exp := e }

/-- A value added by Arithmetic table 8 at shift sh, with R73, R75 and R76. -/
def Acc.align (x : Acc) (r sh : Int) : Acc :=
  if r = 0 ∨ x.overrange then x
  else if 56 < sh then { x with a := if r < 0 then accMin else accMax, overrange := true }
  else
    let d := if 0 ≤ sh then r * (2 ^ sh.toNat : Nat) else r / ((2 ^ (-sh).toNat : Nat) : Int)
    let y := x.a + d
    let x := if sh < 0 then { x with inexact := true } else x
    if y < accMin then { x with a := accMin, overrange := true }
    else if accMax < y then { x with a := accMax, overrange := true }
    else { x with a := y }

/-- The count goes up by k and saturates with INEXACT (02 R74, R77). -/
def Acc.counted (x : Acc) (k : Nat) : Acc :=
  if countMax < x.count + k then { x with count := countMax, inexact := true } else { x with count := x.count + k }

/-- A contribution R with scale exponent e is added (02 R71 to R76). -/
def Acc.add (x : Acc) (r e : Int) : Acc := (x.align r (e - x.exp)).counted 1

/-- A source accumulator is added into this one (02 R77, 03 R90); the pass register is unchanged. -/
def Acc.addAcc (x y : Acc) : Acc :=
  let z := (x.align y.a (y.exp - x.exp)).counted y.count
  { z with inexact := z.inexact || y.inexact, overrange := z.overrange || y.overrange, poison := z.poison || y.poison }

/-- The state word (03 Weir table 1). -/
def Acc.word (x : Acc) : Nat :=
  field 0 8 (toU 8 x.exp) + field 8 31 x.count + field 39 1 (b2n x.inexact) + field 40 1 (b2n x.overrange) + field 41 1 (b2n x.poison)

/-! ### Flags of a completion record (05 Ops table 13 bits [71:64]) -/

/-- INEXACT. -/
def flagInexact : Nat := 1
/-- OVERRANGE. -/
def flagOverrange : Nat := 2
/-- OUTSAT. -/
def flagOutsat : Nat := 4
/-- SMXZERO. -/
def flagSmxZero : Nat := 8
/-- POISONED. -/
def flagPoisoned : Nat := 16
/-- REPEATED. -/
def flagRepeated : Nat := 32
/-- PREEMPTED. -/
def flagPreempted : Nat := 64
/-- SPECULATIVE. -/
def flagSpeculative : Nat := 128

/-- Flags added to an op's record. -/
def Op.flag (o : Op) (f : Nat) : Op := { o with flags := o.flags ||| f }

end Sys2Proof.Machine
end

