-- ==== Sys2Proof/Machine/Operands.lean ====
section
/-! DEFINITION. The operand forms: the fields of op descriptors, output control blocks, stream descriptors, vector
headers and region descriptors, with the checks that the spec makes on each. -/

namespace Sys2Proof.Machine

/-! ### Op descriptors (05 Ops tables 1 to 7) -/

/-- The value of an offset field that names nothing (05 R593). -/
def offNone : Nat := 0xFFFFFFFF

/-- Whether an offset field lies in range: a multiple of 64 within staging SRAM (05 R593). -/
def offOk (o : Nat) : Bool := decide (o % 64 = 0) && decide (o ≤ 0x0BFFFFFF)

/-- Opcode (05 Ops table 1). -/
def dOpcode (d : Nat) : Nat := bits d 0 8
/-- Notify. -/
def dNotify (d : Nat) : Bool := bit d 8
/-- In an epoch. -/
def dInEpoch (d : Nat) : Bool := bit d 9
/-- Epoch identifier. -/
def dEpoch (d : Nat) : Nat := bits d 10 3
/-- Dependency mask. -/
def dDeps (d : Nat) : Nat := bits d 16 16
/-- Tag. -/
def dTag (d : Nat) : Nat := bits d 32 32
/-- MVM, LDW and KAP: region number; MVG: number of regions. -/
def dRegion (d : Nat) : Nat := bits d 64 8
/-- MVM, MVG: set field. -/
def dSet (d : Nat) : Nat := bits d 72 2
/-- MVM, MVG: accumulate mode. -/
def dAccumulate (d : Nat) : Bool := bit d 74
/-- MVM, MVG: drain mode. -/
def dDrainMode (d : Nat) : Nat := bits d 75 2
/-- MVM, MVG: resume. -/
def dResume (d : Nat) : Bool := bit d 77
/-- MVM, MVG: declared base exponent. -/
def dBaseExp (d : Nat) : Int := sint 8 (bits d 80 8)
/-- MVM, MVG: input context. -/
def dInStream (d : Nat) : Nat := bits d 88 6
/-- MVM, MVG: drain context. -/
def dDrainStream (d : Nat) : Nat := bits d 96 6
/-- Output control block offset. -/
def dOcb (d : Nat) : Nat := bits d 128 32
/-- MVM, MVG: save area offset. -/
def dSave (d : Nat) : Nat := bits d 160 32
/-- MVG: region i. -/
def dMvgRegion (d i : Nat) : Nat := bits d (192 + 8 * i) 8
/-- LDW: adopt; KAP: from staging SRAM. -/
def dMode (d : Nat) : Bool := bit d 72
/-- LDW, KAP, ACT: stream context. -/
def dStream (d : Nat) : Nat := bits d 80 6
/-- LDW: initial marks. -/
def dMark (d : Nat) : Nat := bits d 96 16
/-- KAP: source offset; ACT: image offset; XFR: source offset. -/
def dOff (d : Nat) : Nat := bits d 128 32
/-- KAP: elements. -/
def dKapLen (d : Nat) : Nat := bits d 160 16
/-- NRM: set. -/
def dNrmSet (d : Nat) : Nat := bits d 64 1
/-- NRM: drain mode. -/
def dNrmDrain (d : Nat) : Nat := bits d 65 2
/-- NRM: first accumulator. -/
def dA0 (d : Nat) : Nat := bits d 72 12
/-- NRM: stride. -/
def dStride (d : Nat) : Nat := bits d 84 2
/-- NRM: elements. -/
def dN (d : Nat) : Nat := bits d 88 13
/-- NRM: output context. -/
def dNrmStream (d : Nat) : Nat := bits d 104 6
/-- SMX: input offset. -/
def dInOff (d : Nat) : Nat := bits d 160 32
/-- SMX: output offset. -/
def dOutOff (d : Nat) : Nat := bits d 192 32
/-- ACT: function. -/
def dFunc (d : Nat) : Nat := bits d 64 3
/-- ACT: by a stream. -/
def dVia (d : Nat) : Bool := bit d 67
/-- ACT: accumulator tile. -/
def dTile (d : Nat) : Nat := bits d 72 7
/-- XFR: destination device. -/
def dDest (d : Nat) : Nat := bits d 64 17
/-- XFR: by a stream. -/
def dXfrVia (d : Nat) : Bool := bit d 81
/-- XFR: source context. -/
def dXfrStream (d : Nat) : Nat := bits d 82 6
/-- XFR: token counter. -/
def dXfrToken (d : Nat) : Nat := bits d 88 8
/-- XFR: token increment wanted. -/
def dTokenEn (d : Nat) : Bool := bit d 96
/-- XFR: bytes. -/
def dXfrLen (d : Nat) : Nat := bits d 160 24
/-- XFR: destination address. -/
def dDestAddr (d : Nat) : Nat := bits d 192 49
/-- WTK: token counter. -/
def dToken (d : Nat) : Nat := bits d 64 8
/-- WTK: count. -/
def dCount (d : Nat) : Nat := bits d 80 16
/-- SPB, SPC, SPQ: epoch identifier named. -/
def dNamed (d : Nat) : Nat := bits d 64 3
/-- FNC: queue mask. -/
def dMask (d : Nat) : Nat := bits d 64 4

/-- The op that an opcode names (05 Ops table 2). -/
def opKind (opcode : Nat) : OpKind :=
  match opcode with
  | 1 => .mvm | 2 => .mvg | 3 => .ldw | 4 => .kap | 5 => .nrm | 6 => .smx | 7 => .act | 8 => .xfr | 9 => .wtk
  | 10 => .spb | 11 => .spc | 12 => .spq | 13 => .fnc | _ => .bad

/-- The ordering ops (05 R175). -/
def OpKind.ordering (k : OpKind) : Bool := k = .spb || k = .spc || k = .spq || k = .fnc

/-- MVM and MVG. -/
def OpKind.passes (k : OpKind) : Bool := k = .mvm || k = .mvg

/-- The offending bytes of a field: byte lo where bits [lo + w - 1:lo] break the condition. -/
def offend (cond : Bool) (byte : Nat) : List Nat := if cond then [byte] else []

/-- The lowest byte of a reserved field of bits that is not zero (05 R171). -/
def reservedBytes (d lo w : Nat) : List Nat := offend (decide (bits d lo w ≠ 0)) (lo / 8)

/-- Whether a used offset field breaks its range; none is in range where it has a meaning (05 R593). -/
def badOff (used noneOk : Bool) (o : Nat) : Bool := used && !(offOk o || (noneOk && decide (o = offNone)))

/-- The first bytes of the offending fields of a descriptor, in any order (05 R171, R593, Ops tables 1 to 7). -/
def descFaults (d : Nat) : List Nat :=
  let k := opKind (dOpcode d)
  offend (k = .bad) 0
  ++ offend (k.ordering && dInEpoch d) 1
  ++ offend (!dInEpoch d && decide (dEpoch d ≠ 0)) 1
  ++ reservedBytes d 13 3
  ++ offend (k.ordering && decide (dDeps d ≠ 0)) 2
  ++ match k with
    | .mvm | .mvg =>
      let n := if k = .mvg then dRegion d else 0
      offend (k = .mvg && (decide (n < 2) || decide (16 < n))) 8
      ++ offend (dSet d = 3) 9 ++ offend (dDrainMode d = 3) 9 ++ reservedBytes d 78 2
      ++ reservedBytes d 94 2 ++ reservedBytes d 102 26
      ++ offend (badOff (dDrainMode d < 2) false (dOcb d)) 16
      ++ offend (badOff true (!dResume d) (dSave d)) 20
      ++ offend (decide (bits d (192 + 8 * min n 16) (128 - 8 * min n 16) ≠ 0)) 24
      ++ reservedBytes d 320 192
    | .ldw =>
      reservedBytes d 73 7 ++ reservedBytes d 86 10 ++ reservedBytes d 112 16 ++ reservedBytes d 128 32
      ++ reservedBytes d 160 16 ++ reservedBytes d 176 336
    | .kap =>
      reservedBytes d 73 7 ++ reservedBytes d 86 10 ++ reservedBytes d 96 16 ++ reservedBytes d 112 16
      ++ (if dMode d then offend (badOff true false (dOff d)) 16 else reservedBytes d 128 32)
      ++ reservedBytes d 176 336
    | .nrm =>
      offend (decide (2 ≤ dNrmDrain d)) 8 ++ reservedBytes d 67 5 ++ offend (dStride d = 0) 10 ++ reservedBytes d 86 2
      ++ offend (decide (dN d = 0) || decide (4096 < dN d) || decide (4095 < dA0 d + dStride d * (dN d - 1))) 11
      ++ reservedBytes d 101 3 ++ reservedBytes d 110 18
      ++ offend (badOff true false (dOcb d)) 16 ++ reservedBytes d 160 32 ++ reservedBytes d 192 32 ++ reservedBytes d 224 288
    | .smx =>
      reservedBytes d 64 64 ++ offend (badOff true false (dOcb d)) 16 ++ offend (badOff true false (dInOff d)) 20
      ++ offend (badOff true false (dOutOff d)) 24 ++ reservedBytes d 224 288
    | .act =>
      offend (decide (6 ≤ dFunc d)) 8 ++ reservedBytes d 68 4 ++ reservedBytes d 79 1 ++ reservedBytes d 86 42
      ++ offend (badOff (decide (dFunc d ≠ 5) && !dVia d) false (dOff d)) 16 ++ reservedBytes d 160 352
    | .xfr =>
      reservedBytes d 97 31 ++ offend (badOff (!dXfrVia d) false (dOff d)) 16 ++ offend (dXfrLen d = 0) 20
      ++ reservedBytes d 184 8 ++ reservedBytes d 241 271
    | .wtk => reservedBytes d 72 8 ++ offend (dCount d = 0) 10 ++ reservedBytes d 96 416
    | .spb | .spc | .spq => reservedBytes d 67 1 ++ reservedBytes d 68 444
    | .fnc => reservedBytes d 68 444
    | .bad => []

/-- The least of a list of bytes. -/
def leastOf : List Nat → Option Nat
  | [] => none
  | x :: xs => some (xs.foldl min x)

/-- The first offending byte of a descriptor: the detail of ERR_DESC (05 R171). An unlisted opcode is byte 0. -/
def descFault (d : Nat) : Option Nat := leastOf (descFaults d)

/-- The regions an op names, in list order (05 Ops tables 3 and 4). -/
def dRegions (d : Nat) : List Nat :=
  match opKind (dOpcode d) with
  | .mvm | .ldw | .kap => [dRegion d]
  | .mvg => (List.range (min (dRegion d) 16)).map (dMvgRegion d)
  | _ => []

/-- The contexts an op names for its streams (05 Ops tables 3 to 6). -/
def dContexts (d : Nat) : List Nat :=
  match opKind (dOpcode d) with
  | .mvm | .mvg => if dDrainMode d = 2 then [dInStream d] else [dInStream d, dDrainStream d]
  | .ldw => [dStream d]
  | .kap => if dMode d then [] else [dStream d]
  | .nrm => [dNrmStream d]
  | .act => if dVia d ∧ dFunc d ≠ 5 then [dStream d] else []
  | .xfr => if dXfrVia d then [dXfrStream d] else []
  | _ => []

/-! ### Vector headers (02 Arithmetic table 4) -/

/-- Scale exponent. -/
def hExp (h : Nat) : Int := sint 8 (bits h 0 8)
/-- Format: 0 A4, 1 A8, 2 A12, 3 A16. -/
def hFormat (h : Nat) : Nat := bits h 8 3
/-- Element count. -/
def hCount (h : Nat) : Nat := bits h 32 32
/-- Reserved fields are zero. -/
def hClean (h : Nat) : Bool := decide (bits h 11 21 = 0) && decide (bits h 64 448 = 0)
/-- A vector header. -/
def headerOf (exp : Int) (format count : Nat) : Nat := toU 8 exp + field 8 3 format + field 32 32 count

/-- Activation bits of a format (02 Arithmetic table 3). -/
def aBits (f : Nat) : Nat := 4 * (f + 1)

/-- Bytes that n elements of a format take (02, after Arithmetic table 4). -/
def aBytes (f n : Nat) : Nat := if f = 0 then cdiv n 2 else if f = 1 then n else 2 * n

/-- Element i of the element bytes of a vector (02 R54 and the packing before it). -/
def aElem (f : Nat) (bs : List Byte) (i : Nat) : Int :=
  match f with
  | 0 => sint 4 (bits (leAt bs (i / 2) 1) (4 * (i % 2)) 4)
  | 1 => sint 8 (leAt bs i 1)
  | 2 => sint 12 (bits (leAt bs (2 * i) 2) 0 12)
  | _ => sint 16 (leAt bs (2 * i) 2)

/-! ### Output control blocks (03 Weir table 5) -/

/-- Output format. -/
def oFormat (o : Nat) : Nat := bits o 0 3
/-- Write a header. -/
def oHeader (o : Nat) : Bool := bit o 3
/-- Scale mode. -/
def oScaleMode (o : Nat) : Nat := bits o 4 2
/-- Bias mode. -/
def oBiasMode (o : Nat) : Nat := bits o 6 2
/-- Activation mode. -/
def oActMode (o : Nat) : Nat := bits o 8 2
/-- Built-in table. -/
def oBuiltin (o : Nat) : Nat := bits o 10 3
/-- Declared output exponent. -/
def oExp (o : Nat) : Int := sint 8 (bits o 16 8)
/-- Statistics wanted. -/
def oStats (o : Nat) : Bool := bit o 24
/-- Argmax wanted. -/
def oArgmax (o : Nat) : Bool := bit o 25
/-- Root-mean-square form. -/
def oRms (o : Nat) : Bool := bit o 26
/-- Scalar scale. -/
def oScale (o : Nat) : Nat := bits o 32 32
/-- Scalar bias. -/
def oBias (o : Nat) : Nat := bits o 64 32
/-- Fixed point of the statistics. -/
def oF (o : Nat) : Int := sint 8 (bits o 96 8)
/-- Elements written. -/
def oLen (o : Nat) : Nat := bits o 112 16
/-- ε of NRM. -/
def oEps (o : Nat) : Nat := bits o 128 32
/-- Scale array. -/
def oScaleOff (o : Nat) : Nat := bits o 160 32
/-- Bias array. -/
def oBiasOff (o : Nat) : Nat := bits o 192 32
/-- User table. -/
def oTableOff (o : Nat) : Nat := bits o 224 32
/-- Result record. -/
def oRecordOff (o : Nat) : Nat := bits o 256 32
/-- Poison mask. -/
def oMaskOff (o : Nat) : Nat := bits o 288 32

/-- Output element size in bytes (03 R105). -/
def outBytes (f : Nat) : Nat := if f = 0 ∨ f = 4 then 1 else if f = 3 then 4 else 2

/-- Whether a vector header is written (03 R106, Weir table 5). -/
def oWritesHeader (o : Nat) : Bool := decide (oFormat o = 4) || (decide (oFormat o < 2) && oHeader o)

/-! ### Stream descriptors (06 Streams table 1) -/

/-- Base address. -/
def sBase (d : Nat) : Nat := bits d 0 49
/-- Element bytes. -/
def sElem (d : Nat) : Nat := bits d 52 12
/-- Dimensions. -/
def sDims (d : Nat) : Nat := bits d 64 3
/-- Target. -/
def sTarget (d : Nat) : Nat := bits d 67 4
/-- Direction of target 5. -/
def sDir (d : Nat) : Bool := bit d 71
/-- Rate. -/
def sRate (d : Nat) : Nat := bits d 72 16
/-- Wrap. -/
def sWrap (d : Nat) : Nat := bits d 88 16
/-- Advance. -/
def sAdvance (d : Nat) : Int := sint 40 (bits d 104 40)
/-- Raw count of dimension i. -/
def sCountRaw (d i : Nat) : Nat := bits d (144 + 64 * i) 24
/-- Stride of dimension i. -/
def sStride (d i : Nat) : Int := sint 40 (bits d (168 + 64 * i) 40)
/-- Count of dimension i; 1 at or above ndims (06 R218). -/
def sCount (d i : Nat) : Nat := if i < sDims d then sCountRaw d i else 1
/-- Staging offset of target 5. -/
def sStaging (d : Nat) : Nat := bits d 464 32

/-- The run length: elem_bytes times the product of the counts (06 R218). -/
def sLength (d : Nat) : Nat := sElem d * sCount d 0 * sCount d 1 * sCount d 2 * sCount d 3 * sCount d 4

/-- The refusal reasons of a stream descriptor that depend on the value alone, in order (06 Streams table 2). -/
def streamFault (d : Nat) : Option Nat :=
  if bits d 49 3 ≠ 0 ∨ bits d 496 16 ≠ 0 ∨ 5 < sTarget d ∨ (sTarget d ≠ 5 ∧ (sDir d = true ∨ sStaging d ≠ 0)) then some 2
  else if sDims d = 0 ∨ 5 < sDims d ∨ ((List.range 5).any fun i =>
      (decide (i < sDims d) && decide (sCountRaw d i = 0))
      || (decide (sDims d ≤ i) && (decide (sCountRaw d i ≠ 0) || decide (bits d (168 + 64 * i) 40 ≠ 0)))) then some 3
  else if sElem d = 0 ∨ sRate d = 0 then some 4
  else if sTarget d = 5 ∧ (sStaging d % 64 ≠ 0 ∨ 0x0C000000 < sStaging d + sLength d) then some 5
  else if 2 ^ 40 ≤ sLength d then some 6
  else none

/-- The index in each dimension of the element that holds position n, and the byte within it (06 R218). -/
def sIndices (d n : Nat) : Nat × Nat × Nat × Nat × Nat × Nat :=
  let e := n / max 1 (sElem d)
  let q1 := e / max 1 (sCount d 0)
  let q2 := q1 / max 1 (sCount d 1)
  let q3 := q2 / max 1 (sCount d 2)
  let q4 := q3 / max 1 (sCount d 3)
  (e % max 1 (sCount d 0), q1 % max 1 (sCount d 1), q2 % max 1 (sCount d 2), q3 % max 1 (sCount d 3),
    q4 % max 1 (sCount d 4), n % max 1 (sElem d))

/-- The address that position n of a run names (06 R218). -/
def sAddr (d : Nat) (base : Int) (n : Nat) : Int :=
  let (i0, i1, i2, i3, i4, k) := sIndices d n
  base + i0 * sStride d 0 + i1 * sStride d 1 + i2 * sStride d 2 + i3 * sStride d 3 + i4 * sStride d 4 + k

/-- The base of a run with run counter r (06 R218). -/
def sRunBase (d r : Nat) : Int :=
  (sBase d : Int) + (if 0 < sWrap d then ((r % sWrap d : Nat) : Int) else (r : Int)) * sAdvance d

/-! ### Region descriptors (01 Basin table 3) -/

/-- Region kinds: 0 weights, 1 key cache, 2 value cache. -/
def rdKind (d : Nat) : Nat := bits d 2 2
/-- Weight format: 0 W4, 1 W8, 2 W12. -/
def rdFormat (d : Nat) : Nat := bits d 4 2
/-- First tier. -/
def rdTFirst (d : Nat) : Nat := bits d 8 8
/-- Last tier. -/
def rdTLast (d : Nat) : Nat := bits d 16 8
/-- First group. -/
def rdGFirst (d : Nat) : Nat := bits d 24 7
/-- Last group. -/
def rdGLast (d : Nat) : Nat := bits d 32 7
/-- Mirror base. -/
def rdMirror (d : Nat) : Nat := bits d 64 49

/-- Whether a reserved field of a region descriptor is not zero (01 Basin table 3). -/
def rdReserved (d : Nat) : Bool :=
  decide (bits d 1 1 ≠ 0) || decide (bits d 6 2 ≠ 0) || decide (bits d 31 1 ≠ 0) || decide (bits d 39 1 ≠ 0)
    || decide (bits d 43 5 ≠ 0) || decide (bits d 113 15 ≠ 0) || decide (bits d 176 80 ≠ 0)

end Sys2Proof.Machine
end

