-- ==== Sys2Proof/Machine/Output.lean ====
section
/-! DEFINITION. The fused output stage, the statistics unit and the softmax helper, as functions of accumulators and blocks
(03 R101 to R122, R592). -/

namespace Sys2Proof.Machine

/-! ### Activation tables (03 R111, R112, R592) -/

/-- A segment: base and slope as FP32 codes. -/
def segBase (seg : Nat) : Rat := f32Val (bits seg 0 32)
/-- The slope of a segment. -/
def segSlope (seg : Nat) : Rat := f32Val (bits seg 32 32)

/-- Segment i of built-in table n: segments 0 and 1,023 of tables 0 to 2 as 03 R592 states them, the others as the ROM
holds them. -/
def builtinSeg (n i : Nat) : Nat :=
  if n ≤ 2 ∧ i = 0 then 0
  else if n ≤ 2 ∧ i = 1023 then 0x40FF8000 + 0x3F800000 * 2 ^ 32
  else (Config.builtinSegment n i).toNat

/-- The origin L of built-in table n, in segments of width 2^-6 (03 Weir table 8). -/
def builtinL (n : Nat) : Int := if n ≤ 2 then -512 else -1024

/-- The header word of a table block: w and L (03 Weir table 7). -/
def tableHeader (w l : Int) : Nat := field 0 8 (toU 8 w) + field 8 32 (toU 32 l)

/-- The segment of a table that z falls in (03 R111). -/
def segIndex (w l : Int) (z : Rat) : Nat := (clampI 0 1023 ((z - l * pow2 w) / pow2 w).floor).toNat

/-- act(z) through a table of w, L and its segments (03 R111). -/
def tableEval (w l : Int) (seg : Nat → Nat) (z : Rat) : Rat :=
  let i := segIndex w l z
  let x : Rat := l * pow2 w + i * pow2 w
  segBase (seg i) + segSlope (seg i) * (z - x)

/-- act(z) by the activation mode of a plan (03 R111). -/
def OutPlan.act (p : OutPlan) (z : Rat) : Rat :=
  match oActMode p.ocb with
  | 0 => z
  | 1 => if 0 < z then z else 0
  | 2 => tableEval (-6) (builtinL (oBuiltin p.ocb)) (builtinSeg (oBuiltin p.ocb)) z
  | _ =>
    let h := p.table.headD 0
    tableEval (sint 8 (bits h 0 8)) (sint 32 (bits h 8 32)) (fun i => (p.table.drop 1).getD i 0) z

/-! ### Steps 1 to 4 (03 R101, R107 to R110) -/

/-- The scale of element n (03 R101, Weir table 5). -/
def OutPlan.sigma (p : OutPlan) (n : Nat) : Rat :=
  match oScaleMode p.ocb with
  | 0 => 1
  | 1 => f32Val (oScale p.ocb)
  | _ => f32Val (p.scales.getD n 0)

/-- The bias of element n (03 R101, Weir table 5). -/
def OutPlan.beta (p : OutPlan) (n : Nat) : Rat :=
  match oBiasMode p.ocb with
  | 0 => 0
  | 1 => f32Val (oBias p.ocb)
  | _ => f32Val (p.biases.getD n 0)

/-- The exact value of an accumulator: A · 2^E. -/
def Acc.value (x : Acc) : Rat := (x.a : Rat) * pow2 x.exp

/-- z_n of an MVM or MVG drain (03 R101). -/
def OutPlan.z (p : OutPlan) (n : Nat) (x : Acc) : Rat := x.value * p.sigma n + p.beta n

/-- e_out of a VSI8 drain for the largest |y|: the smallest exponent from −128 to 127 that fits 127 (03 R109). -/
def vsiExp (m : Rat) : Int :=
  if m = 0 then 0
  else
    let e := ilog2 m - 6
    let e := if rneInt (m * pow2 (-e)) ≤ 127 then e else e + 1
    clampI (-128) 127 e

/-- One element converted: its code and whether it was clamped or overflowed (03 R107 to R110). -/
def outCode (format : Nat) (e : Int) (y : Rat) : Nat × Bool :=
  match format with
  | 0 =>
    let v := rneInt (y * pow2 (-e))
    (toU 8 (clampI (-128) 127 v), decide (v < -128 ∨ 127 < v))
  | 1 =>
    let v := rneInt (y * pow2 (-e))
    (toU 16 (clampI (-32768) 32767 v), decide (v < -32768 ∨ 32767 < v))
  | 2 => (bf16Code y, decide (bits (bf16Code y) 7 8 = 255))
  | 3 => (f32Code y, f32Bad (f32Code y))
  | _ =>
    let v := rneInt (y * pow2 (-e))
    (toU 8 (clampI (-127) 127 v), decide (v < -127 ∨ 127 < v))

/-- The absolute value of a rational. -/
def absQ (v : Rat) : Rat := if v < 0 then -v else v

/-- The exponent that a plan's elements are written with (03 R106, R109). -/
def OutPlan.outExp (p : OutPlan) (ys : List Rat) : Int :=
  if oFormat p.ocb = 4 then vsiExp ((ys.map absQ).foldl max 0) else oExp p.ocb

/-- The elements' z and y. -/
def OutPlan.ys (p : OutPlan) (zs : List Rat) : List Rat := zs.map p.act

/-- Elements that a drain writes: out_len, or N (03 R106). -/
def OutPlan.len (p : OutPlan) (n : Nat) : Nat := if oLen p.ocb = 0 then n else oLen p.ocb

/-- The bytes of a drain, header, elements and padding, with how many elements were clamped or overflowed (03 R105 to
R110). -/
def OutPlan.bytes (p : OutPlan) (zs : List Rat) : List Byte × Nat :=
  let ys := p.ys zs
  let e := p.outExp ys
  let fmt := oFormat p.ocb
  let codes := ys.map (outCode fmt e)
  let k := outBytes fmt
  let hdr := if oWritesHeader p.ocb then leBytes 64 (headerOf e (if fmt = 1 then 3 else 1) (p.len ys.length)) else []
  (hdr ++ codes.flatMap (fun c => leBytes k c.1) ++ List.replicate (k * (p.len ys.length - ys.length)) 0,
    (codes.filter (fun c => c.2)).length)

/-- The bytes that a drain of N elements needs (06 Streams table 3). -/
def OutPlan.need (p : OutPlan) (n : Nat) : Nat := (if oWritesHeader p.ocb then 64 else 0) + p.len n * outBytes (oFormat p.ocb)

/-- The poison mask for N elements (03 R119). -/
def OutPlan.mask (p : OutPlan) (poison : List Bool) : List Byte :=
  let n := cdiv (cdiv (p.len poison.length) 8) 64 * 64
  (List.range n).map (fun k => BitVec.ofNat 8 (bitSet ((List.range 8).filter (fun b => (poison.getD (8 * k + b) false)))))

/-! ### Statistics (03 R113 to R117) -/

/-- q_n with whether bits were lost or it was clamped (03 R113). -/
def statQ (f : Int) (x : Acc) : Int × Bool :=
  let v := (x.a : Rat) * pow2 (x.exp + f)
  let q := v.floor
  let lim : Int := (2 ^ 57 : Nat)
  if lim ≤ q then (lim - 1, true) else if q ≤ -lim then (-(lim - 1), true) else (q, decide ((q : Rat) ≠ v))

/-- What the statistics unit forms (03 R113, R114). -/
structure Stats where
  qs : List Int := []
  s1 : Int := 0
  s2 : Nat := 0
  mean : Nat := 0
  var : Nat := 0
  invStd : Nat := 0
  inexact : Bool := false
deriving DecidableEq, Repr

/-- The statistics of a list of accumulators; inv_std only for an NRM (03 R113, R114). -/
def statsOf (f : Int) (rms nrm : Bool) (eps : Nat) (xs : List Acc) : Stats :=
  let qs : List (Int × Bool) := xs.map (statQ f)
  let s1 : Int := (qs.map (fun q : Int × Bool => q.1)).sum
  let s2 : Nat := ((qs.map (fun q : Int × Bool => q.1 * q.1)).sum).toNat
  let n : Rat := (xs.length : Rat)
  let meanX : Rat := (s1 : Rat) / (n * pow2 f)
  let sqX : Rat := (s2 : Rat) / (n * pow2 (2 * f))
  let (mean, m1) := if rms then (0, false) else f32Sat meanX
  let (var, m2) := f32Sat (if rms then sqX else sqX - meanX * meanX)
  let (inv, m3) := if nrm then f32Sqrt (1 / (f32Val var + f32Val eps)) else (0, false)
  { qs := qs.map (·.1), s1 := s1, s2 := s2, mean := mean, var := var, invStd := inv,
    inexact := qs.any (fun q => q.2) || m1 || m2 || m3 }

/-- z_n of an NRM's output sweep (03 R117). -/
def OutPlan.zNrm (p : OutPlan) (st : Stats) (n : Nat) (q : Int) : Rat :=
  ((q : Rat) * pow2 (-(oF p.ocb)) - f32Val st.mean) * f32Val st.invStd * p.sigma n + p.beta n

/-- The position of the largest of a list, the lowest such, and its value (03 R115). -/
def argmaxOf : List Rat → Nat × Rat
  | [] => (0, 0)
  | z :: zs =>
    let (_, i, m) := zs.foldl (fun (acc : Nat × Nat × Rat) y => if acc.2.2 < y then (acc.1 + 1, acc.1 + 1, y) else (acc.1 + 1, acc.2)) (0, 0, z)
    (i, m)

/-- The result record (03 R115, R116, Weir table 9). -/
def OutPlan.record (p : OutPlan) (st : Stats) (nrm : Bool) (zs : List Rat) (poison : List Bool) : List Byte :=
  let (am, zm) := argmaxOf zs
  let (mf, sat) := f32Sat zm
  let wantS := oStats p.ocb
  let wantM := oArgmax p.ocb
  leBytes 64
    ((if wantS then field 0 96 (toU 96 st.s1) + field 128 128 st.s2 + field 256 32 st.mean + field 288 32 st.var
        + (if nrm then field 320 32 st.invStd else 0) else 0)
      + field 96 16 zs.length + field 112 8 (toU 8 (oF p.ocb))
      + field 120 1 (b2n ((wantS && st.inexact) || (wantM && sat)))
      + (if wantM then field 121 1 (b2n (poison.getD am false)) + field 352 32 mf + field 384 16 am else 0))

/-! ### Softmax (03 R121) -/

/-- The k_i of a softmax (03 R121). -/
def OutPlan.smxK (p : OutPlan) (e : Int) (xs : List Int) : List Int :=
  let m := xs.foldl max (xs.headD 0)
  let c := f32Val (oScale p.ocb)
  xs.map (fun x => clampI 0 (2 ^ 25 - 1) (rneInt (p.act (((x - m : Int) : Rat) * pow2 e * c) * (2 ^ 24 : Nat))))

/-- The bytes that the softmax helper writes, and whether the sum was zero (03 R121). -/
def OutPlan.smxBytes (p : OutPlan) (e : Int) (xs : List Int) : List Byte × Bool :=
  let ks := p.smxK e xs
  let kk := ks.sum
  let ps := ks.map (fun k => if kk = 0 then 0 else min 127 (rneInt ((k * 128 : Int) / (kk : Rat))))
  let n := p.len xs.length
  (leBytes 64 (headerOf (-7) 1 n) ++ ps.map (fun v => BitVec.ofNat 8 v.toNat) ++ List.replicate (n - xs.length) 0, decide (kk = 0))

/-! ### Reading and checking an output control block (03 R102 to R104, R120) -/

/-- Which op uses the block. -/
inductive OcbUse where
  | pass | nrm | smx
deriving DecidableEq, Repr

/-- An offset in the block that is neither none nor a multiple of 64 (03 R103, R104), or from which the n bytes that the op uses run
past staging SRAM: for these the spec names no error, and the field is taken as the offending one (DESIGN CHOICE, log 100). -/
def badOcbOff (o n : Nat) : Bool := decide (o ≠ offNone) && (decide (o % 64 ≠ 0) || (decide (0 < n) && decide (stagingSize < o + n)))

/-- The FP32 codes at a staging offset. -/
def fpArray (bs : List Byte) (n : Nat) : List Nat := (List.range n).map (fun i => leAt bs (4 * i) 4)

/-- A plan as read from staging SRAM for n elements: the block, and each array and table it names and uses (03 R102,
R103, R111). -/
def State.readPlan (s : State) (view : Option Nat) (off n : Nat) : OutPlan :=
  let o := leNat (s.see view (stagingBase + off) 64)
  { ocb := o
    scales := if oScaleMode o = 2 ∧ offOk (oScaleOff o) then fpArray (s.see view (stagingBase + oScaleOff o) (4 * n)) n else []
    biases := if oBiasMode o = 2 ∧ offOk (oBiasOff o) then fpArray (s.see view (stagingBase + oBiasOff o) (4 * n)) n else []
    table := if oActMode o = 3 ∧ offOk (oTableOff o) then
        let bs := s.see view (stagingBase + oTableOff o) 8256
        leAt bs 0 64 :: (List.range 1024).map (fun i => leAt bs (64 + 8 * i) 8)
      else [] }

/-- An FP32 that must be positive and finite. -/
def fpPositive (c : Nat) : Bool := !f32Bad c && !bit c 31 && decide (c ≠ 0)

/-- The lowest bytes of the offending fields of a block (03 R104; for an SMX 03 R120). R104 names the detail of a NaN or an infinity
inside a user table, and none for a reserved field there: the same, 28 (DESIGN CHOICE, log 100). -/
def OutPlan.faults (p : OutPlan) (use : OcbUse) (n : Nat) : List Nat :=
  let o := p.ocb
  let wantRec := oStats o || oArgmax o
  let badTable := p.table.headD 0 / 2 ^ 40 ≠ 0 ∨ (p.table.drop 1).any (fun g => f32Bad (bits g 0 32) || f32Bad (bits g 32 32))
  let tableFault := offend (badOcbOff (oTableOff o) (if oActMode o = 3 then 8256 else 0) || (decide (oActMode o = 3) && (decide (oTableOff o = offNone) || decide badTable))) 28
  let lenFault := offend (decide (oLen o ≠ 0) && (decide (oLen o < n) || decide (12544 < oLen o))) 14
  match use with
  | .smx =>
    offend (decide (bits o 0 8 ≠ 0)) 0 ++ offend (decide (oActMode o < 2) || (decide (oActMode o = 2) && decide (5 ≤ oBuiltin o))
        || (decide (oActMode o = 3) && decide (oBuiltin o ≠ 0)) || decide (bits o 13 3 ≠ 0)) 1
    ++ offend (decide (bits o 16 8 ≠ 0)) 2 ++ offend (decide (bits o 24 8 ≠ 0)) 3
    ++ offend (!fpPositive (oScale o)) 4 ++ offend (decide (oBias o ≠ 0)) 8 ++ offend (decide (bits o 96 8 ≠ 0)) 12
    ++ offend (decide (bits o 104 8 ≠ 0)) 13 ++ lenFault ++ offend (decide (oEps o ≠ 0)) 16
    ++ offend (decide (oScaleOff o ≠ 0)) 20 ++ offend (decide (oBiasOff o ≠ 0)) 24
    ++ (if oActMode o = 3 then tableFault else offend (decide (oTableOff o ≠ 0)) 28)
    ++ offend (decide (oRecordOff o ≠ 0)) 32 ++ offend (decide (oMaskOff o ≠ offNone)) 36 ++ offend (decide (bits o 320 192 ≠ 0)) 40
  | _ =>
    offend (decide (5 ≤ oFormat o) || (oHeader o && (decide (oFormat o = 2) || decide (oFormat o = 3)))
        || decide (oScaleMode o = 3) || decide (oBiasMode o = 3)) 0
    ++ offend (decide (5 ≤ oBuiltin o) || decide (bits o 13 3 ≠ 0)) 1
    ++ offend (decide (bits o 27 5 ≠ 0)) 3
    ++ offend (decide (oScaleMode o = 1) && f32Bad (oScale o)) 4
    ++ offend (decide (oBiasMode o = 1) && f32Bad (oBias o)) 8
    ++ offend (decide (bits o 104 8 ≠ 0)) 13 ++ lenFault
    ++ offend (decide (use = .nrm) && !fpPositive (oEps o)) 16
    ++ offend (badOcbOff (oScaleOff o) (if oScaleMode o = 2 then 4 * n else 0)
        || (decide (oScaleMode o = 2) && (decide (oScaleOff o = offNone) || p.scales.any f32Bad))) 20
    ++ offend (badOcbOff (oBiasOff o) (if oBiasMode o = 2 then 4 * n else 0)
        || (decide (oBiasMode o = 2) && (decide (oBiasOff o = offNone) || p.biases.any f32Bad))) 24
    ++ tableFault
    ++ offend (badOcbOff (oRecordOff o) (if wantRec then 64 else 0) || (wantRec && decide (oRecordOff o = offNone))) 32
    ++ offend (badOcbOff (oMaskOff o) (p.mask (List.replicate n false)).length) 36 ++ offend (decide (bits o 320 192 ≠ 0)) 40

/-- The reading of a block, or of an array or table that it names and uses, meets an uncorrectable error (03 R104). -/
def State.planErrs (s : State) (off n : Nat) (o : Nat) : Bool :=
  s.mem.errs (stagingBase + off) 64
    || (decide (oScaleMode o = 2) && offOk (oScaleOff o) && s.mem.errs (stagingBase + oScaleOff o) (4 * n))
    || (decide (oBiasMode o = 2) && offOk (oBiasOff o) && s.mem.errs (stagingBase + oBiasOff o) (4 * n))
    || (decide (oActMode o = 3) && offOk (oTableOff o) && s.mem.errs (stagingBase + oTableOff o) 8256)

/-- The plan of an output-producing op, or the status and detail with which the op completes (03 R104). -/
def State.planFor (s : State) (view : Option Nat) (use : OcbUse) (off n : Nat) : Except (Nat × Nat) OutPlan :=
  let p := s.readPlan view off n
  if s.planErrs off n p.ocb then .error (0x10, 0xFF)
  else match leastOf (p.faults use n) with
  | some b => .error (0x03, b)
  | none => .ok p

end Sys2Proof.Machine
end

