-- ==== Sys2Proof/Machine/FabBase.lean ====
section
/-! DEFINITION. The fabric's routes, lanes, tags and packets as its users see them (09 R337 to R340, R354, R370 to R376). -/

namespace Sys2Proof.Machine

/-- Coordinate of a device number in a dimension: 0 U, 1 V, 2 W (09 R337). -/
def coord (dn d : Nat) : Nat := if d = 0 then bits dn 12 5 else if d = 1 then bits dn 6 6 else bits dn 0 6

/-- A device number with one coordinate replaced. -/
def withCoord (dn d c : Nat) : Nat := if d = 0 then setBits dn 12 5 c else if d = 1 then setBits dn 6 6 c else setBits dn 0 6 c

/-- The own device number, 3000:03. -/
def State.ownDev (s : State) : Nat := s.obj 0x3000 3

/-- The dimension sizes of 3000:04 (09 R338). -/
def State.dimSize (s : State) (d : Nat) : Nat :=
  let v := s.obj 0x3000 4
  if d = 0 then bits v 0 6 else if d = 1 then bits v 8 7 else bits v 16 7

/-- Ports of a cyclic router (09 R340). -/
def routerSize (d : Nat) : Nat := if d = 0 then 32 else 64

/-- The dimension of a fiber (09 R339). -/
def fiberDim (f : Nat) : Nat := f / 6

/-- The device that link line k sent on fiber f reaches; none for a loopback or unused line (09 R340). -/
def State.laneTo (s : State) (lane : Nat) : Option Nat :=
  let d := fiberDim (lane / 128)
  let k := lane % 128
  let n := routerSize d
  let c := (coord s.ownDev d + k) % n
  if k % n = 0 ∨ s.dimSize d ≤ c then none else some (withCoord s.ownDev d c)

/-- The device whose light arrives on line k of receive fiber f; none for a loopback or unused line (09 R340, R341). -/
def State.laneFrom (s : State) (lane : Nat) : Option Nat :=
  let d := fiberDim (lane / 128)
  let k := lane % 128
  let n := routerSize d
  let c := (coord s.ownDev d + n - k % n) % n
  if k % n = 0 ∨ s.dimSize d ≤ c then none else some (withCoord s.ownDev d c)

/-- The state of an outbound lane (09 Fabric table 2). -/
def State.outLane (s : State) (lane : Nat) : LaneSt :=
  if (s.laneTo lane).isNone then .unused else ((s.lane lane).out).getD s.fab.base

/-- The state of an inbound lane (09 Fabric table 2). -/
def State.inLane (s : State) (lane : Nat) : LaneSt :=
  if (s.laneFrom lane).isNone then .unused else ((s.lane lane).inn).getD s.fab.base

/-- Lane states as coded (09 Fabric table 2). -/
def LaneSt.code : LaneSt → Nat
  | .unused => 0 | .testing => 1 | .inService => 2 | .excluded => 3 | .retired => 4 | .barred => 5

/-- The lanes that are listed, and so may be InService. -/
def State.listedLanes (s : State) : List Nat := s.fab.lanes.map (·.1)

/-- The InService outbound lanes to a neighbour. -/
def State.lanesTo (s : State) (dev : Nat) : List Nat :=
  s.listedLanes.filter (fun l => decide (s.outLane l = .inService) && decide (s.laneTo l = some dev))

/-- The dimension that decides the next hop towards a device: none for the device itself (09 R354). -/
def State.routeDim (s : State) (dest : Nat) : Option Nat :=
  [0, 1, 2].find? (fun d => decide (coord s.ownDev d ≠ coord dest d))

/-- The next hop towards a device in a dimension (09 R354). -/
def State.nextHop (s : State) (dest d : Nat) : Nat := withCoord s.ownDev d (coord dest d)

/-- Packet types (09 Fabric table 6). -/
def ptWR : Nat := 1
/-- Read request. -/
def ptRDQ : Nat := 2
/-- Read response. -/
def ptRDR : Nat := 3
/-- Acknowledgement. -/
def ptACK : Nat := 4
/-- Refusal. -/
def ptNAK : Nat := 5
/-- Doorbell. -/
def ptDBL : Nat := 6
/-- Epoch commit. -/
def ptEPC : Nat := 7
/-- Epoch squash. -/
def ptEPQ : Nat := 8
/-- Epoch acknowledgement. -/
def ptEPA : Nat := 9
/-- Link control. -/
def ptLCTL : Nat := 15

/-- The virtual lane of a type (09 Fabric table 6); none for a reserved type. -/
def ptVL (t : Nat) : Option Nat :=
  if t = 1 ∨ t = 2 ∨ t = 6 ∨ t = 7 ∨ t = 8 then some 0
  else if t = 3 ∨ t = 4 ∨ t = 5 ∨ t = 9 ∨ t = 15 then some 1 else none

/-- Cause codes (09 Fabric table 7). -/
def causeUnreachable : Nat := 1
/-- The use timed out. -/
def causeTimeout : Nat := 2
/-- The destination's translation faulted. -/
def causeRemoteFault : Nat := 3
/-- fab.accept forbids the request. -/
def causeDenied : Nat := 4
/-- Uncorrectable error at the destination. -/
def causeRemoteMemory : Nat := 5
/-- The destination's leaf is not local DRAM. -/
def causeNotLocal : Nat := 6
/-- No speculative line at the destination. -/
def causeNoSpec : Nat := 7
/-- A coordinate at or above its dimension size. -/
def causeBadDest : Nat := 8
/-- The fabric is down. -/
def causeDown : Nat := 9

/-- A packet formed or passed on joins the peer queue of its next hop (09 R350, R354, R370): the state, or the cause
and subcode with which it cannot be sent. -/
def State.queuePacket (s : State) (p : Packet) (fwd : Bool) : Except (Nat × Nat) State :=
  if s.fab.state = .stopped ∨ s.fab.state = .faulted then .error (causeDown, 0)
  else if (List.range 3).any (fun d => decide (s.dimSize d ≤ coord p.dest d)) then .error (causeBadDest, 0)
  else match s.routeDim p.dest with
    -- a packet for the device itself is delivered there (09 R354); it takes no fiber
    | none => .ok { s with fab := { s.fab with queues := s.fab.queues ++ [{ pkt := p, dim := 3, hop := s.ownDev, born := s.time, fwd := fwd }] } }
    | some d =>
      let hop := s.nextHop p.dest d
      if (s.lanesTo hop).isEmpty then .error (causeUnreachable, d)
      else .ok { s with fab := { s.fab with queues := s.fab.queues ++ [{ pkt := p, dim := d, hop := hop, born := s.time, fwd := fwd }] } }

/-- The first number that a sparse map does not list, from n on. -/
def firstGap {α : Type} : SMap α → Nat → Nat
  | [], n => n
  | (k, _) :: m, n => if k = n then firstGap m (n + 1) else if k < n then firstGap m n else n

/-- The Free tag that has been Free longest (09 R371); the never-used ones in ascending order first (DESIGN CHOICE). -/
def State.freeTag? (s : State) : Option Nat :=
  let g := firstGap s.fab.tags 0
  if g < 65536 then some g
  else match s.fab.tags.filter (fun e => !e.2.busy) with
    | [] => none
    | e :: es => some ((es.foldl (fun b x => if x.2.freedAt < b.2.freedAt then x else b) e).1)

/-- A use takes a tag: its generation advances and it is Busy (09 R371). -/
def State.takeTag (s : State) (t : Nat) (u : TagUse) : State :=
  s.modTag t (fun o => { u with gen := (o.gen + 1) % 16, busy := true, freedAt := o.freedAt, lastFormed := s.time })

/-- A tag returns to Free (09 R371). -/
def State.releaseTag (s : State) (t : Nat) : State :=
  let n := s.fab.freeOrder + 1
  let s := { s with fab := { s.fab with freeOrder := n } }
  s.modTag t (fun o => { gen := o.gen, busy := false, freedAt := n })

/-- A packet's common fields (09 R360, R381). -/
def State.packet (s : State) (ptype dest tag : Nat) : Packet :=
  { ptype := ptype, vl := (ptVL ptype).getD 0, dest := dest, src := s.ownDev, tag := tag, gen := (s.fabTag tag).gen,
    level := s.obj 0x3000 6 }

end Sys2Proof.Machine
end

