-- ==== Sys2Proof/Machine/Regions.lean ====
section
/-! DEFINITION. Regions: their geometry, their descriptors, and the column maps of their tiles (01 R11 to R38, 02 R46 to
R49, 04 R128, R146). -/

namespace Sys2Proof.Machine

/-! ### Geometry -/

/-- Tiers of a region. -/
def Region.T (r : Region) : Nat := r.tLast + 1 - r.tFirst
/-- Column groups of a region. -/
def Region.G (r : Region) : Nat := r.gLast + 1 - r.gFirst
/-- Tiles of a region (01 Basin table 3). -/
def Region.tileCount (r : Region) : Nat := if r.valid then r.T * r.G else 0
/-- The region's tiles in mirror order (04 R128). -/
def Region.tileList (r : Region) : List Nat :=
  (List.range r.T).flatMap (fun a => (List.range r.G).map (fun b => 128 * (r.tFirst + a) + (r.gFirst + b)))
/-- Bytes of the mirror image (04 R128). -/
def Region.mirrorBytes (r : Region) : Nat := 1024 * r.T * r.G
/-- Weight digits per output (02 Arithmetic table 1). -/
def Region.digits (r : Region) : Nat := r.format + 1
/-- Outputs of the region (02 Arithmetic table 2). -/
def Region.outputs (r : Region) : Nat := 32 * r.G / r.digits
/-- Position capacity of a cache region (04 R146). -/
def Region.capacity (r : Region) : Nat := if r.kind = 1 then r.outputs else 64 * r.T
/-- Whether region digit column j is a high-digit column (04 R124). -/
def Region.high (r : Region) (j : Nat) : Bool := decide (j % r.digits = 0) && decide (j / r.digits < r.outputs)
/-- The output that region digit column j belongs to; none for the unused columns of a W12 region (02 R49). -/
def Region.outputOf (r : Region) (j : Nat) : Option Nat := if j / r.digits < r.outputs then some (j / r.digits) else none
/-- The accumulator of output o: the Basin digit column of its high digit (02 R48, 01 R30). -/
def Region.accOf (r : Region) (o : Nat) : Nat := 32 * r.gFirst + r.digits * o
/-- Whether a tile belongs to the region (01 R27). -/
def Region.has (r : Region) (tile : Nat) : Bool :=
  r.valid && decide (r.tFirst ≤ tile / 128) && decide (tile / 128 ≤ r.tLast) && decide (r.gFirst ≤ tile % 128) && decide (tile % 128 ≤ r.gLast)
/-- Region digit column of logical column k of a tile in group g (01 R29). -/
def Region.colOf (r : Region) (g k : Nat) : Nat := 32 * (g - r.gFirst) + k
/-- The offset in the mirror image of the digit of ring row l, logical column k, tile (t, g): its byte (04 R128). -/
def Region.mirrorByte (r : Region) (t g k l : Nat) : Nat :=
  1024 * ((t - r.tFirst) * r.G + (g - r.gFirst)) + 32 * k + l / 2

/-- The clusters a region's tiles lie in (00 Scope table 3). -/
def Region.clusterList (r : Region) : List Nat :=
  (List.range (r.tLast / 2 + 1 - r.tFirst / 2)).map (· + r.tFirst / 2)

/-- The region numbers that hold a valid region. -/
def State.validRegions (s : State) : List Nat := (s.regions.filter (fun e => e.2.valid)).map (·.1)

/-- The valid region that holds a tile (01 R28). -/
def State.regionOfTile (s : State) (tile : Nat) : Option Nat := (s.regions.find? (fun e => e.2.has tile)).map (·.1)

/-- Two rectangles share a tile (01 R28). -/
def rectsMeet (a b c d a' b' c' d' : Nat) : Bool :=
  decide (a ≤ b') && decide (a' ≤ b) && decide (c ≤ d') && decide (c' ≤ d)

/-! ### Column maps (01 R11 to R15) -/

/-- The physical column that serves logical column k of a tile (01 R11). -/
def TileSt.phys (t : TileSt) (k : Nat) : Nat := if t.serves = some k then 32 else k

/-- The physical columns that a write of logical column k reaches: the one that serves it, a spare that is being loaded with its
digits, and column k itself while the spare that serves it waits to be mapped back (04 R126). -/
def TileSt.writeTo (t : TileSt) (k : Nat) : List Nat :=
  if t.phys k = 32 then (if t.pendingMap.any (fun m => decide (m.col ≠ some k)) then [32, k] else [32])
  else if t.loading = some k then [k, 32] else [k]

/-- Key of a ring: row l of physical column p of a tile. -/
def ringKey (tile p l : Nat) : Nat := 64 * (33 * tile + p) + l

/-- The storage code of the digit that a ring holds (02 Arithmetic table 1). -/
def State.ring (s : State) (tile p l : Nat) : Nat := mget 0 s.rings (ringKey tile p l)

/-- The digit that a column of a tile of this region takes for a code: the unused digit columns of W12 hold digit 0 (02 R49, 04 R124). -/
def Region.codeAt (r : Region) (tile k v : Nat) : Nat := if r.digits * r.outputs ≤ r.colOf (tile % 128) k then 0 else v % 16

/-- A digit written into a ring. -/
def State.setRing (s : State) (tile p l v : Nat) : State := { s with rings := mset 0 s.rings (ringKey tile p l) (v % 16) }

/-- The value of a storage code in a column of a kind (02 Arithmetic table 1). -/
def digitVal (high : Bool) (v : Nat) : Int := if high then sint 4 v else ((v % 16 : Nat) : Int)

/-- The digits of a weight, the high digit first, as storage codes (02 R47). -/
def digitsOf (format : Nat) (w : Int) : List Nat :=
  match format with
  | 0 => [toU 4 w]
  | 1 => [toU 4 (w / 16), toU 4 (w % 16)]
  | _ => [toU 4 (w / 256), toU 4 (w % 256 / 16), toU 4 (w % 16)]

/-! ### Descriptors (01 R34 to R37) -/

/-- Region states as coded (01 Basin table 3). -/
def RegionSt.code : RegionSt → Nat
  | .empty => 0 | .loading => 1 | .resident => 2 | .mirrorDamaged => 3 | .failed => 4

/-- The descriptor as read (01 Basin table 3, R34): of a region that is not valid every field but state reads zero. -/
def Region.descriptor (r : Region) : Nat :=
  if r.valid then
    1 + field 2 2 r.kind + field 4 2 r.format + field 8 8 r.tFirst + field 16 8 r.tLast + field 24 7 r.gFirst
      + field 32 7 r.gLast + field 40 3 r.st.code + field 48 16 r.tileCount + field 64 49 r.mirrorBase
      + field 128 16 r.hwmC + field 144 16 r.hwmP + field 160 16 r.retiredColumns
  else 0

/-- The descriptor in slot seq of queue q, as staging SRAM holds it (05 R165). -/
def State.slotDesc (s : State) (q seq : Nat) : Nat :=
  leNat (s.staging ((s.queue q).confRing + 64 * (seq % 1024)) 64)

/-- The reading of a descriptor meets an uncorrectable error (05 R168). -/
def State.slotErrs (s : State) (q seq : Nat) : Bool := s.mem.errs (stagingBase + ((s.queue q).confRing + 64 * (seq % 1024))) 64

/-- Whether region r is named by an op in any queue, admitted or submitted, and not retired (01 Basin table 4, 05 R165). -/
def State.regionNamed (s : State) (r : Nat) : Bool :=
  s.ops.any (fun o => decide (r ∈ dRegions o.desc))
  || (List.range 4).any (fun q =>
      let u := s.queue q
      (List.range (u.submitted - u.admitted)).any (fun i => decide (r ∈ dRegions (s.slotDesc q (u.admitted + i)))))

/-- The first condition of Basin table 4 that a descriptor write meets (01 R36). -/
def State.regionRefusal (s : State) (r d : Nat) : Option Nat :=
  let o := s.region r
  let del := !bit d 0
  if rdReserved d || (!del && (decide (rdKind d = 3) || decide (rdFormat d = 3))) then some 1
  else if !del && (decide (rdTLast d < rdTFirst d) || decide (rdGLast d < rdGFirst d) || decide (195 < rdTLast d)) then some 2
  else if !del && s.regions.any (fun e => decide (e.1 ≠ r) && e.2.valid
      && rectsMeet (rdTFirst d) (rdTLast d) (rdGFirst d) (rdGLast d) e.2.tFirst e.2.tLast e.2.gFirst e.2.gLast) then some 3
  else if s.regionNamed r then some 4
  else if !del && o.valid && decide (o.st ≠ .empty) && (decide (rdKind d ≠ o.kind) || decide (rdFormat d ≠ o.format)
      || decide (rdTFirst d ≠ o.tFirst) || decide (rdTLast d ≠ o.tLast) || decide (rdGFirst d ≠ o.gFirst)
      || decide (rdGLast d ≠ o.gLast) || decide (rdMirror d ≠ o.mirrorBase)) then some 5
  else if !del && decide (rdMirror d % 65536 ≠ 0) then some 6
  else if del && decide (o.st = .loading) then some 7
  else none

/-- How many of a rectangle's tiles have a spare that permanently serves a retired column (01 Basin table 3). -/
def State.retiredIn (s : State) (t0 t1 g0 g1 : Nat) : Nat :=
  (s.tiles.filter (fun e => decide (e.2.why = .retired) && e.2.serves.isSome && decide (t0 ≤ e.1 / 128) && decide (e.1 / 128 ≤ t1)
    && decide (g0 ≤ e.1 % 128) && decide (e.1 % 128 ≤ g1))).length

/-- A descriptor write that no condition refuses (01 R35, R36): a definition of an Empty region, whose marks are zero (04 R147), a
repetition of a valid one's own fields, or a delete, which leaves the digest engine nothing to do for the region. -/
def State.applyRegion (s : State) (r d : Nat) : State :=
  if bit d 0 then
    s.modRegion r (fun o =>
      if o.valid ∧ o.st ≠ .empty then o
      else
        { o with
          valid := true, kind := rdKind d, format := rdFormat d, tFirst := rdTFirst d, tLast := rdTLast d,
          gFirst := rdGFirst d, gLast := rdGLast d, mirrorBase := rdMirror d,
          hwmC := 0, hwmP := 0, provAppends := [], kapLog := []
          retiredColumns := s.retiredIn (rdTFirst d) (rdTLast d) (rdGFirst d) (rdGLast d) })
  else if (s.region r).valid then
    { (s.modRegion r (fun _ => {})) with digests := s.digests.filter (fun g => decide (g.region ≠ r)) }
  else s

/-- A descriptor write, with the refusal recorded in 1000:09 (01 R36): the state, and the reason of a refusal. -/
def State.writeRegion (s : State) (r d : Nat) : State × Option Nat :=
  match s.regionRefusal r d with
  | some c => ({ s with basin := { s.basin with refusal := r + 256 * c } }, some c)
  | none => (s.applyRegion r d, none)

end Sys2Proof.Machine
end

