-- ==== Sys2Proof/Machine/Xlat.lean ====
section
/-! DEFINITION. Address translation: the walk, the translation cache, and the invalidation (06 R242 to R247). -/

namespace Sys2Proof.Machine

/-- Where a translated byte lies (06 Streams table 7). -/
inductive Place where
  | local_ (a : Nat)
  | host (a : Nat)
  | peer (dev va : Nat)
deriving DecidableEq, Repr

/-- What a walk ends in: a leaf with its level, or a translation fault code (06 Streams table 8). -/
inductive Walk where
  | leaf (level : Nat) (entry : Nat)
  | fault (code : Nat)
deriving DecidableEq, Repr

/-- Low bit of the virtual address bits that a level indexes (06 Streams table 5). -/
def levelShift (level : Nat) : Nat := if level = 0 then 39 else if level = 1 then 30 else if level = 2 then 21 else 16

/-- Index bits of a level (06 Streams table 5). -/
def levelBits (level : Nat) : Nat := if level = 0 then 10 else if level = 3 then 5 else 9

/-- Table size and alignment of a level in bytes (06 Streams table 5). -/
def tableSize (level : Nat) : Nat := 8 * 2 ^ levelBits level

/-- Page size of a leaf at a level (06 Streams table 5). -/
def pageSize (level : Nat) : Nat := 2 ^ levelShift level

/-- Whether an entry of kind 1 is malformed (06 R244). -/
def badTable (level e : Nat) : Bool :=
  let next := bits e 8 32 * 256
  decide (level = 3) || decide (bits e 2 6 ≠ 0) || decide (bits e 40 24 ≠ 0)
    || decide (next % tableSize (level + 1) ≠ 0) || decide (dramEnd < next + tableSize (level + 1))

/-- Whether an entry of kind 2 is malformed (06 R244). -/
def badLeaf (level e : Nat) : Bool :=
  let target := bits e 2 2
  let frame : Nat := if target = 2 then bits e 16 31 * 2 ^ 16 else bits e 16 48 * 2 ^ 16
  decide (level = 0) || decide (bits e 6 10 ≠ 0) || decide (target = 3) || decide (frame % pageSize level ≠ 0)
    || (decide (target = 0) && (decide (bits e 40 24 ≠ 0) || decide (dramEnd < frame + pageSize level)))

/-- The walk of a virtual address from a table on, with fuel for the levels that remain (06 R242 to R244). -/
def walkFrom (m : Mem) (va : Nat) : Nat → Nat → Nat → Walk
  | 0, _, _ => .fault 4
  | fuel + 1, level, table =>
    let ea := table + 8 * bits va (levelShift level) (levelBits level)
    if m.errs ea 8 then .fault 6
    else
      let e := leNat (m.readN ea 8)
      let kind := bits e 0 2
      if kind = 0 then .fault 1
      else if kind = 3 then .fault 4
      else if kind = 2 then (if badLeaf level e then .fault 4 else .leaf level e)
      else if badTable level e then .fault 4
      else walkFrom m va fuel (level + 1) (bits e 8 32 * 256)

/-- The walk of a virtual address of 49 bits from the root in 2400:01 (06 R242, R244). -/
def State.walk (s : State) (va : Nat) : Walk :=
  let root := s.obj 0x2400 1
  if root % 8192 ≠ 0 ∨ dramEnd < root + 8192 then .fault 4 else walkFrom s.mem va 4 0 root

/-- Where a leaf puts a byte (06 R243). -/
def leafPlace (level entry va : Nat) : Place :=
  let off := va % pageSize level
  let target := bits entry 2 2
  if target = 0 then .local_ (bits entry 16 24 * 2 ^ 16 + off)
  else if target = 1 then .host (bits entry 16 48 * 2 ^ 16 + off)
  else .peer (bits entry 47 17) (bits entry 16 31 * 2 ^ 16 + off)

/-- The cached leaf that covers a virtual address (06 R245). -/
def State.cached (s : State) (va : Nat) : Option XEntry :=
  s.xcache.find? (fun e => decide (va / pageSize e.level = e.page * 2 ^ 16 / pageSize e.level))

/-- The walk's result, from the translation cache where it holds the leaf (06 R245). -/
def State.lookup (s : State) (va : Nat) : Walk :=
  match s.cached va with
  | some e => .leaf e.level e.leaf
  | none => s.walk va

/-- A leaf's verdict on a read or a write (06 R247). -/
def permit (write : Bool) (va : Nat) : Walk → Except Nat Place
  | .fault c => .error c
  | .leaf level e =>
    if write then (if bit e 5 then .ok (leafPlace level e va) else .error 3)
    else (if bit e 4 then .ok (leafPlace level e va) else .error 2)

/-- The translation of an address that R218 forms, for a read or a write: its place, or a translation fault code of
Streams table 8 (06 R218, R247). -/
def State.translate (s : State) (write : Bool) (a : Int) : Except Nat Place :=
  if a < 0 ∨ (2 ^ 49 : Nat) ≤ a then .error 5 else permit write a.toNat (s.lookup a.toNat)

/-- The same by a fresh walk that reads every entry from memory (06 R253). -/
def State.translateFresh (s : State) (write : Bool) (a : Int) : Except Nat Place :=
  if a < 0 ∨ (2 ^ 49 : Nat) ≤ a then .error 5 else permit write a.toNat (s.walk a.toNat)

/-- Entries of the translation cache (06 R245, 2400:02). -/
def xcacheSize : Nat := 4096

/-- A leaf that a translation used is entered in the translation cache, the oldest entry leaving a full one (06 R245;
which entry leaves: DESIGN CHOICE). Absent and malformed entries are never held. -/
def State.cacheLeaf (s : State) (va : Nat) : State :=
  match s.cached va with
  | some _ => s
  | none =>
    match s.walk va with
    | .leaf level e =>
      { s with xcache := (s.xcache ++ [({ page := va / 2 ^ 16, level := level, leaf := e } : XEntry)]).drop (s.xcache.length + 1 - xcacheSize) }
    | .fault _ => s

/-- The cached leaf that covers a virtual address is dropped: a resume reads every entry from memory (06 R253). -/
def State.uncache (s : State) (va : Nat) : State :=
  { s with xcache := s.xcache.filter (fun e => decide (va / pageSize e.level ≠ e.page * 2 ^ 16 / pageSize e.level)) }

/-- Whether a cached leaf lies in the range that a value of 2400:03 names (06 Streams table 11). -/
def inInvalidRange (value : Nat) (e : XEntry) : Bool :=
  let va := bits value 16 33 * 2 ^ 16
  let k := bits value 0 3
  if k = 7 then true
  else
    let sz := if k = 0 then 2 ^ 16 else if k = 1 then 2 ^ 21 else 2 ^ 30
    let lo := va / sz * sz
    let elo := e.page * 2 ^ 16 / pageSize e.level * pageSize e.level
    decide (elo < lo + sz) && decide (lo < elo + pageSize e.level)

/-- Whether a value of 2400:03 keeps its reserved bits and encodings clear (06 Streams table 11). -/
def invalidateOk (value : Nat) : Bool :=
  decide (value < 2 ^ 49) && decide (bits value 3 13 = 0) &&
    (decide (bits value 0 3 = 0) || decide (bits value 0 3 = 1) || decide (bits value 0 3 = 2) || decide (bits value 0 3 = 7))

end Sys2Proof.Machine
end

