-- ==== Sys2Proof/Machine/Streams.lean ====
section
/-! DEFINITION. The stream engine's contexts, lines, pieces and requests (06 R215 to R236, R248 to R256). -/

namespace Sys2Proof.Machine

/-! ### Lines (06 R225 to R229) -/

/-- Unreserved lines (06 R227). -/
def unreservedLines : Nat := 16256

/-- The working set of a target for a need, in lines (06 Streams table 3). -/
def workingSet (target need : Nat) : Nat :=
  if target = 0 then max 2 (cdiv need 4096) else if target = 2 then max 2 (min 4 (cdiv need 4096)) else 2

/-- The 4 KiB-aligned blocks that n bytes from an address lie in (06 R226). -/
def blocksOf (a n : Nat) : List Nat := if n = 0 then [] else (List.range ((a + n - 1) / 4096 - a / 4096 + 1)).map (· + a / 4096)

/-- The speculative lines that a write lies in: the one of its block of virtual addresses where a stream wrote it, else one for each
block of memory (05 R199). Space 3 stands for virtual addresses. -/
def SpecWrite.lines (w : SpecWrite) : List (SpecKey × Nat × Nat) :=
  match w.block with
  | some b => [(w.key, 3, b)]
  | none => (blocksOf w.addr w.data.length).map (fun b => (w.key, w.space, b))

/-- The speculative lines held: one for each block of each key (05 R199, 09 R379). -/
def State.specBlocks (s : State) : List (SpecKey × Nat × Nat) := (s.specWrites.flatMap SpecWrite.lines).dedup

/-- Unreserved lines free, 2000:01 (06 R227, R229). -/
def State.poolFree (s : State) : Nat :=
  unreservedLines - (s.ctxs.map (fun e => e.2.lines - 2 + e.2.borrowed)).sum - s.specBlocks.length

/-! ### Arming and ending a run -/

/-- One use of a context by an op: context, target, need and direction (06 Streams table 3), and the need for which lines are granted:
that of an input vector whose header has not arrived is the largest that its run can turn out to have (DESIGN CHOICE, log 93). -/
structure CtxUse where
  ctx : Nat
  target : Nat
  need : Nat
  write : Bool
  most : Nat := need
deriving DecidableEq, Repr

/-- A context armed for one run (06 R218, R228). -/
def State.armRun (s : State) (u : CtxUse) (op : Option (Nat × Nat)) (epoch : Option Nat) (prio : Nat) : State :=
  s.modCtx u.ctx (fun c =>
    { c with
      st := .armed
      lines := workingSet u.target u.most
      borrowed := 0
      yielded := false
      run := some { base := sRunBase c.desc c.runs, need := u.need, write := u.write, op := op, epoch := epoch, prio := prio } })

/-- Lines granted to a use beyond the reserve (06 R228). -/
def CtxUse.extra (u : CtxUse) : Nat := workingSet u.target u.most - 2

/-- A request to n bytes meets the bad granules among them: each detection is counted (06 R240). -/
def State.meetBad (s : State) (a n : Nat) : State :=
  if a < dramEnd then s.count 0x13 ((granules a n).filter (fun g => decide (g ∈ s.mem.bad))).length else s

/-- The bytes of a context's writes already issued to local memory land (06 R249: writes already issued complete). -/
def State.landWrites (s : State) (c : Nat) : State :=
  (s.reqs.filter (fun r => decide (r.ctx = c) && r.write && decide (r.path < 2) && r.arrived.isNone)).foldl
    (fun s r => match (s.ctx c).run with
      | some run => if s.mem.storeErrs r.addr r.len then s.meetBad r.addr r.len else s.store r.addr ((run.data.drop r.pos).take r.len)
      | none => s) s

/-- The requests of a context for positions from one on are dropped: the reads that memory, the host or a peer has still to answer, and
the writes that the host or a peer has, are kept as discarded until they complete (06 R256, 11 R414, 09 R371). -/
def State.dropReqs (s : State) (c pos : Nat) : State :=
  { s with reqs := s.reqs.filterMap (fun r =>
      if r.ctx ≠ c ∨ r.pos + r.len ≤ pos then some r
      else if (2 ≤ r.path ∨ ¬ r.write) ∧ r.tag < 65536 ∧ r.arrived.isNone then some { r with ctx := 65, was := c } else none) }

/-- The first position from one on that no request of a context covers, among the requests given. -/
def firstUnrequested (c : Nat) (rs : List Req) (n : Nat) : Nat → Nat
  | 0 => n
  | fuel + 1 =>
    match rs.find? (fun r => decide (r.ctx = c) && decide (r.pos ≤ n) && decide (n < r.pos + r.len)) with
    | some r => firstUnrequested c rs (r.pos + r.len) fuel
    | none => n

/-- A context's run is over: its lines are freed, its requests are forgotten, and it is Idle; a counted run advances the
run counter (06 R221, R209, R256). -/
def State.endRun (s : State) (c : Nat) (counted : Bool) : State :=
  let s := s.landWrites c
  let s := { s.dropReqs c 0 with poolProgress := s.time }
  s.modCtx c (fun x =>
    { x with st := .idle, run := none, lines := 2, borrowed := 0, yielded := false,
             runs := if counted then (x.runs + 1) % 2 ^ 32 else x.runs })

/-! ### Positions and pieces (06 R218, R231 to R233) -/

/-- The address of a position of the context's run (06 R218). -/
def Ctx.addr (c : Ctx) (run : Run) (n : Nat) : Int := sAddr c.desc run.base n

/-- How many bytes from position n on stay in n's element, page and need (06 R233: a piece never crosses a page). -/
def Ctx.chunk (c : Ctx) (run : Run) (page n : Nat) : Nat :=
  let a := (c.addr run n).toNat
  min (min (sElem c.desc - n % sElem c.desc) (run.need - n)) (page - a % page)

/-- How many bytes of position n's piece come before it (06 R233). -/
def Ctx.before (c : Ctx) (run : Run) (page n : Nat) : Nat := min (n % sElem c.desc) ((c.addr run n).toNat % page)

/-- Following pieces merged with one of total bytes (06 R233). -/
def Ctx.mergeFrom (c : Ctx) (run : Run) (page lim n : Nat) : Nat → Nat → Nat
  | 0, total => total
  | fuel + 1, total =>
    let m := n + total
    if run.need ≤ m then total
    else
      let a := (c.addr run n).toNat
      let k := c.chunk run page m
      if c.addr run m = c.addr run n + total ∧ (a + total) / page = a / page ∧ k < 512 ∧ total + k ≤ lim
      then c.mergeFrom run page lim n fuel (total + k) else total

/-- The length of the request for position n, in a page, with the alignment and merging limit of its path: a piece of 512 bytes or more is
split and its parts are never merged (06 R233). -/
def Ctx.pieceLen (c : Ctx) (run : Run) (page n : Nat) (isLocal : Bool) : Nat :=
  let a := (c.addr run n).toNat
  let k := c.chunk run page n
  let lim := if isLocal then 512 else 4096
  if 512 ≤ c.before run page n + k then min k (lim - a % lim) else c.mergeFrom run page lim n 4096 k

/-- Bytes that the ranges of n bytes from a and of m bytes from b share. -/
def overlap (a n b m : Nat) : Nat := min (a + n) (b + m) - max a b

/-- Bytes of line k of a write run that memory has acknowledged. -/
def State.ackedIn (s : State) (i : Nat) (run : Run) (k : Nat) : Nat :=
  overlap 0 run.done (4096 * k) 4096
    + ((s.reqs.filter (fun r => decide (r.ctx = i) && r.arrived.isSome && r.failed.isNone)).map (fun r => overlap r.pos r.len (4096 * k) 4096)).sum

/-- The lines of a write run that are freed: every byte in them has been written and acknowledged (06 R230). -/
def State.freedLines (s : State) (i : Nat) (run : Run) : Nat :=
  run.done / 4096 + ((List.range ((s.ctx i).lines + 1)).filter (fun j =>
    let k := run.done / 4096 + j
    decide (4096 * k < run.need) && decide (s.ackedIn i run k = min 4096 (run.need - 4096 * k)))).length

/-- Free space in the lines that a write stream holds (06 R230, R232). -/
def State.freeSpace (s : State) (i : Nat) (run : Run) : Nat := 4096 * (s.freedLines i run + (s.ctx i).lines) - run.data.length

/-- The target of a write run hands over what the lines have room for: an op's target from what it has formed, target 5 from staging
SRAM up to a granule that fails (06 R217, R230, R241). -/
def State.refill (s : State) (i : Nat) : State :=
  match (s.ctx i).run with
  | none => s
  | some run =>
    if ¬ run.write then s
    else
      let room := s.freeSpace i run
      let off := sStaging (s.ctx i).desc + run.data.length
      let bs := match run.op with
        | some _ => run.source.take room
        | none => s.staging off (s.mem.goodBytes (stagingBase + off) (min room (run.need - run.data.length)) (fun g => decide (g ∈ s.mem.bad)))
      if bs = [] then s
      else { s with poolProgress := s.time }.modCtx i (fun c =>
        { c with run := some { run with data := run.data ++ bs, source := run.source.drop bs.length } })

/-- The memory path of a place: DRAM stack 0 or 1, host link 2, fabric 3 (06 R231). -/
def Place.path : Place → Nat
  | .local_ a => stackOf a
  | .host _ => 2
  | .peer _ _ => 3

/-- A place as a space and an address: 0 local physical, 1 host, 2 peer with its device number above bit 47. -/
def Place.addr : Place → Nat × Nat
  | .local_ a => (0, a)
  | .host a => (1, a)
  | .peer d va => (2, d * 2 ^ 47 + va)

/-- The place at a space and an address. -/
def placeAt (space a : Nat) : Place :=
  if space = 0 then .local_ a else if space = 1 then .host a else .peer (a / 2 ^ 47) (a % 2 ^ 47)

/-- The place of an address for a run: an epoch's write into a block that has a line goes where the line's allocation translated the
block (05 R199, 06 R254); otherwise the address is translated. -/
def State.placeOf (s : State) (run : Run) (a : Int) : Except Nat Place :=
  match (if run.write then run.epoch else none) with
  | none => s.translate run.write a
  | some e =>
    match s.specWrites.find? (fun w => decide (w.key = .local_ e) && decide (0 ≤ a) && decide (w.block = some (a.toNat / 4096))) with
    | some w => .ok (placeAt w.space (w.addr / 4096 * 4096 + a.toNat % 4096))
    | none => s.translate run.write a

/-- The end of the positions that the lines of a read run hold (06 R226, R230). -/
def Ctx.held (c : Ctx) (run : Run) : Nat := 4096 * (run.done / 4096 + c.lines + c.borrowed)

/-- Whether a piece of a read run has room in its lines, one of which it may borrow now (06 R229, R231, R236). -/
def State.hasRoom (s : State) (c : Ctx) (run : Run) (last : Nat) : Bool :=
  decide (last ≤ c.held run) || (!c.yielded && decide (0 < s.poolFree) && decide (last ≤ c.held run + 4096))

/-- A write request to a peer clashes with one of its run that has not been acknowledged: they share an address, and the fabric keeps no
order between them (06 R220, 09 R355). -/
def State.clashes (s : State) (i : Nat) (pl : Place) (len : Nat) : Bool :=
  match pl with
  | .peer d va => s.reqs.any (fun r => decide (r.ctx = i) && r.write && decide (r.path = 3) && r.arrived.isNone
      && decide (0 < overlap r.addr r.len (d * 2 ^ 47 + va) len))
  | _ => false

/-- The next piece of a run for a memory path, from a position on: its position, place and length. Pieces of other paths and positions
requested already are passed over; a position that does not translate ends the search (06 R231, R248, R249). The writes of an epoch go
to its lines in run order. -/
def State.nextPiece (s : State) (i : Nat) (c : Ctx) (run : Run) (path : Nat) : Nat → Nat → Option (Nat × Place × Nat)
  | 0, _ => none
  | fuel + 1, n =>
    if run.need ≤ n then none
    else
      let m := firstUnrequested i s.reqs n 1
      if m ≠ n then s.nextPiece i c run path fuel m
      else
        let a := c.addr run n
        match s.placeOf run a with
        | .error _ => none
        | .ok pl =>
          let page := match s.lookup a.toNat with
            | .leaf level _ => pageSize level
            | .fault _ => 65536
          let isLocal := match pl with
            | .local_ _ => true
            | _ => false
          let k := c.pieceLen run page n isLocal
          let k := if run.write ∧ run.epoch.isSome then min k (4096 - a.toNat % 4096) else k
          if run.write then
            if run.data.length < n + k then none
            else if pl.path = path then (if s.clashes i pl k then none else some (n, pl, k))
            else if run.epoch.isSome then none else s.nextPiece i c run path fuel (n + k)
          else if s.hasRoom c run (n + k) = false then none
          else if pl.path = path then some (n, pl, k) else s.nextPiece i c run path fuel (n + k)

/-- A request as the engine would issue it next for a context on a path: its position, the place of its first byte and its length; none
where the stream is not eligible (06 R231). -/
def State.nextRequest (s : State) (path i : Nat) : Option (Nat × Place × Nat) :=
  let c := s.ctx i
  match c.run with
  | none => none
  | some run =>
    if c.st ≠ .armed then none
    else s.nextPiece i c run path (4096 * (c.lines + c.borrowed + 1) + s.reqs.length) run.issued

/-- The h of the time to empty, h ÷ rate (06 R232): bytes fetched or in flight that the target has not taken, or the free space in the
held lines. -/
def State.headroom (s : State) (i : Nat) (run : Run) : Nat :=
  if run.write then s.freeSpace i run else ((s.reqs.filter (fun r => decide (r.ctx = i))).map (·.len)).sum

/-- Stream a precedes stream b (06 R232). -/
def State.precedes (s : State) (a b : Nat) : Bool :=
  let ca := s.ctx a
  let cb := s.ctx b
  match ca.run, cb.run with
  | some ra, some rb =>
    let x := s.headroom a ra * sRate cb.desc
    let y := s.headroom b rb * sRate ca.desc
    decide (x < y) || (decide (x = y) && (decide (ra.prio < rb.prio) || (decide (ra.prio = rb.prio) && decide (a < b))))
  | _, _ => false

/-- The stream that a path serves in this engine cycle (06 R231, R232). -/
def State.served (s : State) (path : Nat) : Option Nat :=
  let cands := (s.ctxs.map (·.1)).filter (fun i => (s.nextRequest path i).isSome)
  match cands with
  | [] => none
  | c :: cs => some (cs.foldl (fun b x => if s.precedes x b then x else b) c)

/-! ### The host link's requests (11 R409, R411, R414, R419) -/

/-- A request tag of the host link is free: not outstanding, and not waiting for a late CPL (11 R414). -/
def State.hostTagFree (s : State) (t : Nat) : Bool :=
  decide (t ∉ s.hl.tags) && !(s.reqs.any (fun r => decide (r.path = 2) && decide (r.tag = t)))

/-- The first free tag from a number on, with fuel. -/
def State.hostTagFrom (s : State) : Nat → Nat → Option Nat
  | 0, _ => none
  | fuel + 1, t => if s.hostTagFree (t % 4096) then some (t % 4096) else s.hostTagFrom fuel (t + 1)

/-- REQ credits cover a transaction's flits (11 R409); while the adapter grants fewer than 17, none is sent. -/
def State.reqCredit (s : State) (n : Nat) : Bool :=
  let left := (s.hl.peerReq + 4096 - s.hl.sentReq % 4096) % 4096
  decide (flits n ≤ left) && (decide (17 ≤ s.hl.peerReq) || decide (17 ≤ s.hl.sentReq))

/-! ### Issuing (06 R231, 05 R199) -/

/-- A request joins those in flight: the run's first unrequested position and the lines that it borrows follow (06 R229, R231). -/
def State.launch (s : State) (i : Nat) (r : Req) : State :=
  let s := { s with reqs := s.reqs ++ [{ r with serial := s.reqSerial + 1 }], reqSerial := s.reqSerial + 1 }
  s.modCtx i (fun c =>
    match c.run with
    | none => c
    | some run =>
      { c with borrowed := if run.write ∨ r.pos + r.len ≤ c.held run then c.borrowed else c.borrowed + 1
               run := some { run with issued := firstUnrequested i s.reqs run.issued (s.reqs.length + 1) } })

/-- A request is issued for a context: its positions are in flight, and a leaf that was walked is cached. A write of an
epoch goes to the epoch's speculative lines at once and is done (05 R199). -/
def State.issue (s : State) (i n : Nat) (pl : Place) (len : Nat) : State :=
  let c := s.ctx i
  match c.run with
  | none => s
  | some run =>
    let a := (c.addr run n).toNat
    let s := s.cacheLeaf a
    let (space, addr) := pl.addr
    let bs := if run.write then (run.data.drop n).take len else []
    let r : Req := { ctx := i, path := pl.path, write := run.write, pos := n, len := len, addr := addr, va := some a, time := s.time }
    match (if run.write then run.epoch else none) with
    | some e =>
      let w : SpecWrite := { key := .local_ e, space := space, addr := addr, data := bs, born := s.time, block := some (a / 4096), op := run.op }
      ({ s with specWrites := s.specWrites ++ [w], poolProgress := s.time }).modCtx i (fun x =>
        { x with run := some { run with issued := n + len, done := n + len } })
    | none =>
      match pl with
      | .local_ _ => s.launch i r
      | .host h =>
        match s.hostTagFrom 4096 s.hl.nextTag with
        | none => s
        | some t =>
          if ¬ (s.reqCredit bs.length) then s
          else
            let m : HostMsg := if run.write then .mwr t h bs else .mrd t h len
            { (s.launch i { r with tag := t }) with hl := { s.hl with
                nextTag := (t + 1) % 4096
                sentReq := s.hl.sentReq + flits bs.length
                tx := s.hl.tx ++ [m]
                mwrOut := if run.write then s.hl.mwrOut ++ [t] else s.hl.mwrOut } }
      | .peer d va =>
        match s.freeTag? with
        | none => s
        | some t =>
          let s' := s.takeTag t { kind := .stream, dest := d, ctx := i, expect := len }
          let p : Packet := { s'.packet (if run.write then ptWR else ptRDQ) d t with
            addr := va, count := if run.write then 0 else len, data := bs }
          match s'.queuePacket p false with
          | .ok s'' => s''.launch i { r with tag := t }
          -- a request that cannot be sent waits in flight for its error (06 R255)
          | .error (cause, sub) => (s'.releaseTag t).launch i { r with tag := 65536, failed := some (cause + 256 * sub) }

/-! ### Deliveries and halts -/

/-- Bytes delivered to a read stream's target in run order, or acknowledged for a write stream (06 R219, R230): lines
that empty are freed, and the target of a write stream hands over more. -/
def State.progress (s : State) (i : Nat) (data : List Byte) (len : Nat) : State :=
  (({ s with poolProgress := s.time }).modCtx i (fun c =>
    match c.run with
    | none => c
    | some run =>
      let freed := (run.done + len) / 4096 - run.done / 4096
      { c with
        borrowed := c.borrowed - freed
        yielded := c.yielded && decide (freed = 0)
        run := some { run with done := run.done + len, data := if run.write then run.data else run.data ++ data } })).refill i

/-- The saved position of a halt (06 Streams table 9). -/
def savedPosition (desc : Nat) (run : Run) (n code seq : Nat) : Nat :=
  let (i0, i1, i2, i3, i4, k) := sIndices desc n
  field 0 24 i0 + field 24 24 i1 + field 48 24 i2 + field 72 24 i3 + field 96 24 i4 + field 120 12 k
    + field 132 3 code + field 135 1 (b2n run.write) + field 144 49 (toU 49 (sAddr desc run.base n))
    + field 193 40 n + field 240 16 seq

/-- The payload of a STREAM_FAULT event (12 Dictionary table 8). -/
def streamFaultPayload (ctx code : Nat) (write : Bool) (seq va : Nat) : Nat :=
  field 0 6 ctx + field 12 3 code + field 15 1 (b2n write) + field 32 16 seq + field 64 16 (bits va 0 16) + field 80 33 (bits va 16 33)

/-- Epoch identifiers in a state. -/
def State.epochIds (s : State) (p : Epoch → Bool) : List Nat := (s.epochs.filter (fun e => p e.2)).map (·.1)

/-- What the target of a write stream has formed is handed over as its lines have room (06 R219, R230). -/
def State.handOver (s : State) (c : Nat) (bs : List Byte) : State :=
  (s.modCtx c (fun x => { x with run := x.run.map (fun r => { r with source := r.source ++ bs }) })).refill c

/-- Whether an epoch is Open or Committing and has not retired. -/
def Epoch.live (e : Epoch) : Bool := (e.st = .opened || e.st = .committing) && !e.retired

/-- The identifier of the live epoch of a serial. -/
def State.epochOf (s : State) (serial : Nat) : Option Nat :=
  (s.epochs.find? (fun e => e.2.live && decide (e.2.serial = serial))).map (·.1)

/-- Whether an epoch opened before a serial is still Open or Committing (05 R195). -/
def State.earlierLive (s : State) (serial : Nat) : Bool := s.epochs.any (fun e => e.2.live && decide (e.2.serial < serial))

/-- A stream-fault event, held while its op's epoch is Open or an earlier epoch has not retired (05 R202, 06 R250). -/
def State.faultEvent (s : State) (op : Option (Nat × Nat)) (epoch : Option Nat) (payload : Nat) : State :=
  match epoch.bind s.epochOf with
  | none => s.event 2 1 0 payload
  | some id =>
    let e := s.epoch id
    if e.st = .opened ∨ s.earlierLive e.serial then
      s.modEpoch id (fun e => { e with heldFaults := e.heldFaults ++ [({ op := op, record := { kind := 2, severity := 1, payload := payload } } : HeldFault)] })
    else s.event 2 1 0 payload

/-- A stream halts at position n with a fault code (06 R250); a bad granule that the walk met is a detection (06 R240). -/
def State.halt (s : State) (i n code : Nat) : State :=
  let c := s.ctx i
  match c.run with
  | none => s
  | some run =>
    let seq := (c.faultSeq + 1) % 65536
    let s := s.modCtx i (fun c =>
      { c with st := .halted, faultSeq := seq, position := savedPosition c.desc run n code seq,
               borrowed := if run.write then c.borrowed else 0,
               run := some { run with issued := n, halted := n } })
    let s := if code = 6 then s.count 0x13 else s
    ({ s with poolProgress := if run.write then s.poolProgress else s.time }.count 0x0F).faultEvent run.op run.epoch (streamFaultPayload i code run.write seq (toU 49 (c.addr run n)))

/-- The position at which a stream stands before an untranslatable byte, and the fault code: a read whose target has
taken every byte before it, a write that holds the byte (06 R248, R249). -/
def State.standsAt (s : State) (i : Nat) : Option (Nat × Nat) :=
  let c := s.ctx i
  match c.run with
  | none => none
  | some run =>
    if c.st ≠ .armed ∨ run.need ≤ run.issued ∨ (run.write ∧ run.data.length ≤ run.issued) ∨ (!run.write ∧ run.done < run.issued) then none
    else match s.placeOf run (c.addr run run.issued) with
      | .error code => some (run.issued, code)
      | .ok _ => none

/-! ### Descriptor writes (06 R216, R217) -/

/-- A stream descriptor write, with a refusal recorded in 2000:04: the state and the reason (06 R216, R217). -/
def State.writeStream (s : State) (i d : Nat) : State × Option Nat :=
  let c := s.ctx i
  match (if c.st ≠ .idle then some 1 else streamFault d) with
  | some r => ({ s with streamRefusal := i + 256 * r }, some r)
  | none => (s.modCtx i (fun c => { c with desc := d, runs := 0 }), none)

/-- A staging copy run starts when 1 is written to 21ss:06 of an Idle context of target 5 (06 R217, Streams table 11);
the write is ignored otherwise, or where the lines cannot be granted. -/
def State.startStaging (s : State) (i : Nat) : State :=
  let c := s.ctx i
  if c.st ≠ .idle ∨ sTarget c.desc ≠ 5 ∨ sElem c.desc = 0 then s
  else
    let n := sLength c.desc
    (s.armRun { ctx := i, target := 5, need := n, write := sDir c.desc } none none 4).refill i

/-- The stream that a standstill makes yield: of the read streams that hold borrowed lines the one with the latest
deadline, a Halted one counting as latest, then the highest-numbered queue and the highest context (06 R235). -/
def State.yielder (s : State) : Option Nat :=
  let cands := (s.ctxs.filter (fun e => decide (0 < e.2.borrowed) && (e.2.run.map (fun r => !r.write)).getD false)).map (·.1)
  let later : Nat → Nat → Bool := fun a b =>
    let ha := decide ((s.ctx a).st = .halted)
    let hb := decide ((s.ctx b).st = .halted)
    if ha ≠ hb then ha
    else if ha then
      let pa : Nat := ((s.ctx a).run.map (·.prio)).getD 0
      let pb : Nat := ((s.ctx b).run.map (·.prio)).getD 0
      decide (pb < pa) || (decide (pa = pb) && decide (b < a))
    else s.precedes b a
  match cands with
  | [] => none
  | c :: cs => some (cs.foldl (fun b x => if later x b then x else b) c)

/-- A standstill (06 R235). -/
def State.standing (s : State) : Bool := decide (s.poolFree = 0) && decide (s.poolProgress + 2048 ≤ s.time)

/-- A stream yields: every borrowed line and every fetched byte beyond its working set is dropped (06 R235, R236). -/
def State.yieldLines (s : State) (i : Nat) : State :=
  match (s.ctx i).run with
  | none => s
  | some run =>
    let s := { s.dropReqs i ((run.done / 4096 + (s.ctx i).lines) * 4096) with poolProgress := s.time }
    (s.modCtx i (fun c => { c with
      borrowed := 0, yielded := true, run := some { run with issued := firstUnrequested i s.reqs run.done (s.reqs.length + 1) } })).count 0x0E

end Sys2Proof.Machine
end

