-- ==== Sys2Proof/Machine/Queues.lean ====
section
/-! DEFINITION. The op queues: the device's readiness to run ops, doorbells, completion, cancellation, squash, retirement
(05 R165 to R170, R193 to R214, 15 R515 to R517). -/

namespace Sys2Proof.Machine

/-! ### The device's state (15 R515 to R517) -/

/-- Whether a processor runs. -/
def State.runs (s : State) (p : Nat) : Bool := decide ((s.proc p).state = .running)

/-- The device is Dark: a cold or warm reset is asserted (14 R491). -/
def State.dark (s : State) : Bool := s.rst.asserted.isSome

/-- A block is in a block reset (14 R499): kinds 1 cluster, 2 stream engine, 3 fabric plane, 4 DRAM stack. -/
def State.blockReset (s : State) (kind num : Nat) : Bool := s.rst.blocks.any (fun b => decide (b.kind = kind) && decide (b.num = num))

/-- The bundle whose Barker image runs: the levels of the host interface, the fabric and the dictionary come from it (13 R487).
Key 2 holds a bundle loaded over the host link (14 R506). -/
def State.barkerBundle (s : State) : Bundle :=
  if s.fw.fromHost then mget {} s.fw.bundles 2 else mget {} s.fw.bundles (mget 0 s.fw.map procBarker)

/-- dev.held_reasons, 0200:02 (12 Dictionary table 5, 15 R516). -/
def State.heldReasons (s : State) : Nat :=
  b2n (decide (s.rst.step < 10)) + 2 * b2n (!s.hl.session) + 4 * b2n (s.dict.fails.any (fun f => decide (f.reason ≠ 5)))
    + 8 * b2n (s.rst.fpRecovery || decide (s.pwr.vrFault ≠ 0))

/-- An op that has started and not completed. -/
def Op.isStarted (o : Op) : Bool := o.stage = .started || o.stage = .draining

/-- basin.state as read: a Held Ringmaster makes it Faulted (17 Faults table 3). -/
def State.basinState (s : State) : BasinState :=
  if (s.proc procRingmaster).state = .held then .faulted else s.basin.state

/-- dev.state, 0200:01 (15 Power table 1, in order of precedence). -/
def State.devState (s : State) : Nat :=
  if s.rst.step < 10 ∧ ¬ s.rst.failed ∧ ¬ s.rst.stopped then 1
  else if s.rst.failed ∨ s.basinState = .faulted then 6
  else if s.heldReasons ≠ 0 then 2
  else if ¬ s.basin.run ∧ s.ops.any Op.isStarted then 5
  else if s.ops ≠ [] then 4
  else 3

/-- Whether the Ringmaster may take and start ops: it runs, the Basin runs, and the device is neither Booting, Held nor
Faulted (15 R517, 12 R439, 13 R474, 15 Power table 2). -/
def State.canSchedule (s : State) : Bool :=
  decide (s.devState = 3 ∨ s.devState = 4) && s.basin.run && decide (s.basin.state = .running ∨ s.basin.state = .paused)
    && s.runs procRingmaster && decide (s.pwr.state = 3) && s.rst.asserted.isNone

/-! ### Ops by queue and submission number -/

/-- The op of a queue and submission number. -/
def State.op (s : State) (q seq : Nat) : Option Op := s.ops.find? (fun o => decide (o.queue = q) && decide (o.seq = seq))

/-- Update of an op. -/
def State.modOp (s : State) (q seq : Nat) (f : Op → Op) : State :=
  { s with ops := s.ops.map (fun o => if o.queue = q ∧ o.seq = seq then f o else o) }

/-- The op in a slot of a queue that is admitted and not retired. -/
def State.slotOp (s : State) (q slot : Nat) : Option Op :=
  s.ops.find? (fun o => decide (o.queue = q) && decide (o.seq % 1024 = slot))

/-- The status of the op a deps bit names: none while it has not completed (05 R177). -/
def State.depStatus (s : State) (o : Op) (i : Nat) : Option Nat :=
  if o.seq < i + 1 then some 0
  else
    let t := o.seq - 1 - i
    match s.op o.queue t with
    | some p => if p.stage = .completed then some p.status else none
    | none => if t < (s.queue o.queue).done then some (mget 1 (s.queue o.queue).results (t % 1024) - 1) else none

/-- Every op named in deps has completed (05 R177). -/
def State.depsDone (s : State) (o : Op) : Bool := (bitList 16 (dDeps o.desc)).all (fun i => (s.depStatus o i).isSome)

/-- The nearest earlier dependency that completed with a non-zero status: its slot (05 R177). -/
def State.depFailed (s : State) (o : Op) : Option Nat :=
  ((bitList 16 (dDeps o.desc)).find? (fun i => decide ((s.depStatus o i).getD 0 ≠ 0))).map (fun i => (o.seq - 1 - i) % 1024)

/-- Op a comes before op b for a resource: the lower queue, then the earlier slot (05 R181). -/
def Op.before (a b : Op) : Bool := decide (a.queue < b.queue) || (decide (a.queue = b.queue) && decide (a.seq < b.seq))

/-- The first of a list of ops in the order of R181. -/
def firstOp : List Op → Option Op
  | [] => none
  | o :: os => some (os.foldl (fun b x => if x.before b then x else b) o)

/-! ### Completion (05 R167 on, R212 to R214) -/

/-- What an op's streams held is released, and the run counters of the contexts that it has armed advance, one whose run its preemption
abandoned among them (06 R221). -/
def State.endRuns (s : State) (o : Op) : State :=
  (o.used.filter (· ∉ o.armed)).foldl (fun s c => s.modCtx c (fun x => { x with runs := (x.runs + 1) % 2 ^ 32 }))
    (o.armed.foldl (fun s c => s.endRun c true) s)

/-- An op has completed with a status and detail, at this moment: its streams end and what it held of the Basin, the
output stage and the helper is given up. -/
def State.finish (s : State) (q seq status detail : Nat) : State :=
  match s.op q seq with
  | none => s
  | some o =>
    let s := s.endRuns o
    let s := { s with
      helper := if s.helper = some (q, seq) then none else s.helper
      drainBusy := if s.drainOrder.head? = some (q, seq) then false else s.drainBusy
      drainOrder := s.drainOrder.filter (· ≠ (q, seq))
      basin := { s.basin with
        running := if s.basin.running = some (q, seq) then none else s.basin.running
        finishing := if s.basin.finishing = some (q, seq) then none else s.basin.finishing
        preempted := if s.basin.preempted = some (q, seq) then none else s.basin.preempted } }
    s.modOp q seq (fun o => { o with stage := .completed, status := status, detail := detail % 2 ^ 32, time := s.time, armed := [], used := [] })

/-- The state a set takes after a drain, by drain mode: Free or Held (03 R96). -/
def afterDrain (mode : Nat) : SetState := if mode = 0 then .free else .held

/-- A set changes state; a Free one has no owner. -/
def State.toSet (s : State) (k : Nat) (st : SetState) : State :=
  s.modSet k (fun x => { st := st, owner := if st = .free then none else x.owner })

/-- The pass registers of a set are zero. -/
def State.zeroPasses (s : State) (k : Nat) : State :=
  { s with accs := s.accs.foldl (fun m e => if e.1 / 4096 = k then mset {} m e.1 { e.2 with pass := 0 } else m) s.accs }

/-- A region whose load failed or was cancelled: Empty, with no digest and no active mirror (04 R140, Residency table 4,
R129). -/
def State.emptyRegion (s : State) (r : Nat) : State :=
  { (s.modRegion r (fun x => { x with st := .empty, digestState := 0, digest := [], activeMirror := 0, pages := [], pendingPages := [],
                                      badGranules := [], graceLeft := 0 })) with
    digests := s.digests.filter (fun d => decide (d.region ≠ r)) }

/-- What a cancelled op leaves behind, before it completes (05 Ops table 12); outside a preempted op's image a pass register is zero (03
R92). -/
def State.unwind (s : State) (o : Op) : State :=
  match o.kind with
  | .mvm | .mvg =>
    match o.mvm with
    | none => s
    | some m =>
      if o.stage = .started then
        (s.zeroPasses m.set).toSet m.set (if dAccumulate o.desc then .held else .free)
      else if o.stage = .draining then s.toSet m.set (afterDrain (dDrainMode o.desc)) else s
  | .nrm => if o.stage = .draining then s.toSet (dNrmSet o.desc) (afterDrain (dNrmDrain o.desc)) else s
  | .ldw => if o.isStarted then s.emptyRegion (dRegion o.desc) else s
  | .xfr => { s with fab := { s.fab with queues := s.fab.queues.filter (fun p => decide (p.fwd = true) || !(decide (p.pkt.tag ∈ o.uses) && decide (p.pkt.ptype = ptWR))) } }
  | _ => s

/-- The speculative lines and the held faults of an op that an abort cancels are dropped, without an event (05 R209). -/
def State.dropOp (s : State) (q seq : Nat) : State :=
  { s with
    specWrites := s.specWrites.filter (fun w => decide (w.op ≠ some (q, seq)))
    poolProgress := if s.specWrites.any (fun w => decide (w.op = some (q, seq))) then s.time else s.poolProgress
    epochs := s.epochs.map (fun e => (e.1, { e.2 with heldFaults := e.2.heldFaults.filter (fun f => decide (f.op ≠ some (q, seq))) })) }

/-- An op is cancelled: a started SMX or ACT runs to its end first, with the status of the first that cancelled it; a started ordering
op is not cancelled (05 R209 to R211). -/
def State.cancel (s : State) (o : Op) (status cause : Nat) : State :=
  if o.stage = .completed then s
  else if o.isStarted ∧ (o.kind = .smx ∨ o.kind = .act) then
    s.modOp o.queue o.seq (fun x => if x.cancel = 0 then { x with cancel := if status = 0x22 then 2 else 1, cause := cause } else x)
  else if o.isStarted ∧ o.kind.ordering then s
  else (s.unwind o).finish o.queue o.seq status (if status = 0x22 then cause else 0)

/-! ### Provisional data (05 R199, R203, R595) -/

/-- A key's provisional writes and increments are dropped, and what WTKs took of them is forgotten (05 R595). -/
def State.dropKey (s : State) (k : SpecKey) : State :=
  { s with
    specWrites := s.specWrites.filter (fun w => decide (w.key ≠ k))
    poolProgress := if s.specWrites.any (fun w => decide (w.key = k)) then s.time else s.poolProgress
    provTokens := s.provTokens.filter (fun p => decide (p.key ≠ k))
    epochs := (s.epochs.map (fun e => (e.1, { e.2 with taken := e.2.taken.filter (fun t => decide (t.src.map (·.1) ≠ some k)) }))) }

/-- The local writes of keys that become final reach memory in order of production; whether one of them was a partial write of a bad
granule, which the write leaves bad (05 Ops table 11, 06 R240, 09 R380). -/
def State.landLocal (s : State) (final : SpecKey → Bool) : State × Bool :=
  (s.specWrites.filter (fun w => final w.key && decide (w.space = 0))).foldl
    (fun (acc : State × Bool) w =>
      let bad := acc.1.mem.storeErrs w.addr w.data.length
      ((if bad then acc.1.meetBad w.addr w.data.length else acc.1).store w.addr w.data, acc.2 || bad)) (s, false)

/-- Keys become final: their local writes reach memory, those to the host and to peers stay in their lines, visible to every reader of
the device, until these have taken them, and what no WTK took of their increments joins the committed counts (05 R198, R205, R595, 09
R380); whether a local write met an error. -/
def State.commitKeys (s : State) (final : SpecKey → Bool) (serial : Nat) : State × Bool :=
  let (s, bad) := s.landLocal final
  let s := (s.provTokens.filter (fun p => final p.key)).foldl (fun s p => s.setToken p.token (s.token p.token + p.left)) s
  ({ s with
      specWrites := s.specWrites.filterMap (fun w =>
        if final w.key then (if w.space = 0 then none else some { w with key := .landed serial }) else some w)
      poolProgress := if s.specWrites.any (fun w => final w.key) then s.time else s.poolProgress
      provTokens := s.provTokens.filter (fun p => !final p.key)
      epochs := s.epochs.map (fun e => (e.1, { e.2 with taken := e.2.taken.map (fun t =>
        if (t.src.map (fun k => final k.1)).getD false then { t with src := none } else t) })) },
    bad)

/-- What an epoch's WTKs took goes back where it came from (05 R595). -/
def State.returnTaken (s : State) (e : Epoch) : State :=
  e.taken.foldl (fun s t =>
    match t.src with
    | none => s.setToken t.token (s.token t.token + t.amount)
    | some k => { s with provTokens := s.provTokens.map (fun p => if p.key = k.1 ∧ p.id = k.2 then { p with left := p.left + t.amount } else p) }) s

/-! ### What waits for a tag (05 Ops table 11, R205, 09 R371, R380) -/

/-- A landed write goes to the host as an MWR when the link is Up with a tag and credits for it, or to a peer as a WR when a fabric tag is
Free and no earlier landed write shares an address with it; the state, or none where it waits. A write that cannot be sent fails. -/
def State.sendLine (s : State) (w : SpecWrite) (before : List SpecWrite) : Option (State × Option (Bool × Nat)) :=
  if w.space = 1 then
    match s.hostTagFrom 4096 s.hl.nextTag with
    | none => none
    | some t =>
      if s.hl.state ≠ .up ∨ ¬ s.reqCredit w.data.length then none
      else some ({ s with
          reqs := s.reqs ++ [{ ctx := 64, path := 2, write := true, len := w.data.length, addr := w.addr, tag := t, time := s.time }]
          hl := { s.hl with nextTag := (t + 1) % 4096, sentReq := s.hl.sentReq + flits w.data.length,
                            tx := s.hl.tx ++ [.mwr t w.addr w.data], mwrOut := s.hl.mwrOut ++ [t] } }, some (true, t))
  else if before.any (fun v => decide (v.space = 2) && decide (0 < overlap v.addr v.data.length w.addr w.data.length)) then none
  else
    match s.freeTag? with
    | none => none
    | some t =>
      let dev := w.addr / 2 ^ 47
      let s := s.takeTag t { kind := .stream, dest := dev, ctx := 64, expect := w.data.length }
      let p : Packet := { s.packet ptWR dev t with addr := w.addr % 2 ^ 47, data := w.data }
      match s.queuePacket p false with
      | .ok s' => some (s', some (false, t))
      | .error _ => some (s.releaseTag t, none)

/-- An SPC whose epoch's lines could not all be written completes with ERR_MEMORY, and its identifier closes (DESIGN CHOICE, log 94). -/
def State.failSpc (s : State) (serial : Nat) : State :=
  match (s.epochs.find? (fun e => e.2.retired && decide (e.2.serial = serial))).map (fun e => (e.1, e.2.spc)) with
  | some (i, some (q, n)) => (s.finish q n 0x10 0xFF).modEpoch i (fun _ => {})
  | _ => s

/-- The landed writes that wait are sent in order of production, as far as tags, credits and earlier writes allow. -/
def State.sendLanded (s : State) : List SpecWrite → List SpecWrite → State
  | [], _ => s
  | w :: ws, before =>
    match w.key, w.sent with
    | .landed n, none =>
      match s.sendLine w before with
      | none => s.sendLanded ws (before ++ [w])
      | some (s', some x) =>
        { s' with specWrites := s'.specWrites.map (fun v => if v = w then { v with sent := some x } else v) }.sendLanded ws (before ++ [w])
      | some (s', none) => ({ s' with specWrites := s'.specWrites.filter (· ≠ w) }.failSpc n).sendLanded ws before
    | .landed _, some _ => s.sendLanded ws (before ++ [w])
    | _, _ => s.sendLanded ws before

/-- A landed write has ended, with an error or without (05 R205). -/
def State.landEnd (s : State) (host : Bool) (t : Nat) (failed : Bool) : State :=
  match s.specWrites.find? (fun w => decide (w.sent = some (host, t))) with
  | none => s
  | some w =>
    let s := { s with specWrites := s.specWrites.filter (fun v => decide (v.sent ≠ some (host, t))), poolProgress := s.time }
    match failed, w.key with
    | true, .landed n => s.failSpc n
    | _, _ => s

/-- Epoch messages that wait take the tags that are Free, oldest first (09 R371, R380). -/
def State.sendMessages (s : State) : List EpochMsg → State
  | [] => s
  | m :: ms =>
    match s.freeTag? with
    | none => s
    | some t =>
      let s := { s with epochMsgs := ms }.takeTag t
        { kind := .epoch, dest := m.dev, epoch := m.for_, squash := m.squash, expect := 1, seq := m.stamp, since := m.since }
      let s := if m.for_ < 8 then s.modEpoch m.for_ (fun e => { e with awaiting := e.awaiting ++ [t] }) else s
      let p : Packet := { s.packet (if m.squash then ptEPQ else ptEPC) m.dev t with stamp := m.stamp }
      match s.queuePacket p false with
      | .ok s' => s'.sendMessages ms
      | .error _ => s.sendMessages ms

/-- What waited for a tag goes on (09 R371). -/
def State.pump (s : State) : State :=
  let s := if s.specWrites.any (fun w => match w.key with
    | .landed _ => true
    | _ => false) then s.sendLanded s.specWrites [] else s
  s.sendMessages s.epochMsgs

/-- A message for each of an epoch's peers joins those that wait for a tag. -/
def State.addMessages (s : State) (e : Epoch) (squash : Bool) (for_ : Nat) : State :=
  { s with epochMsgs := s.epochMsgs ++ e.peers.map (fun d => { stamp := e.stamp, squash := squash, dev := d, for_ := for_, since := s.time }) }

/-! ### Squash (05 R156, R202, R207, 09 R380) -/

/-- The appends of epochs from a serial on are discarded from every cache region (04 R156). -/
def State.dropAppends (s : State) (serial : Nat) : State :=
  { s with regions := s.regions.foldl (fun m e =>
      mset {} m e.1 { e.2 with
        provAppends := e.2.provAppends.filter (fun p => decide (p.1 < serial))
        kapBegan := e.2.kapBegan.filter (fun k => decide (k < serial))
        kapLog := e.2.kapLog.filter (fun k => (k.epoch.map (fun x => decide (x < serial))).getD true)
        hwmP := e.2.hwmC + ((e.2.provAppends.filter (fun p => decide (p.1 < serial))).map (·.2)).sum }) s.regions }

/-- One epoch is squashed: its ops are cancelled, its provisional effects dropped, its sets freed, and a squash message
goes to each peer that received its traffic (05 Ops table 11, R207); for_: the identifier whose SPQ or SPC awaits the answers. -/
def State.squashOne (s : State) (id cause for_ : Nat) : State :=
  let e := s.epoch id
  let s := (s.ops.filter (fun o => decide (o.epoch = some e.serial))).foldl (fun s o => s.cancel o 0x22 cause) s
  let s := s.returnTaken e
  let s := (s.dropKey (.local_ e.serial)).dropKey (.self e.serial)
  let s := s.count 0x0D e.heldFaults.length
  let s := [0, 1].foldl (fun s k => if (s.set k).owner = some e.serial then s.toSet k .free else s) s
  (s.addMessages e true for_).modEpoch id (fun x => { x with st := .squashed, cause := cause, heldFaults := [], taken := [], peers := [], readPeers := [] })

/-- The live epochs from a serial on, the earliest first. -/
def State.liveFrom (s : State) (serial : Nat) : List Nat :=
  ((List.range 8).filter (fun i => (s.epoch i).live && decide (serial ≤ (s.epoch i).serial))).insertionSort
    (fun a b => (s.epoch a).serial ≤ (s.epoch b).serial)

/-- The SPC that waits on an epoch that a squash reached: the op that the squash serves waits on as an SPQ does (05 R207, R208); any
other completes with SQUASHED, and its identifier closes unless the squash serves an SPQ that names it (05 R207). -/
def State.endSpc (s : State) (id cause : Nat) (waits : Option (Nat × Nat × Nat)) : State :=
  match (s.epoch id).spc with
  | none => s
  | some (q, n) =>
    let s := if waits.map (·.2) = some (q, n) then s else s.finish q n 0x22 cause
    if waits.map (·.1) = some id then s.modEpoch id (fun e => { e with spc := none }) else s.modEpoch id (fun _ => {})

/-- Every live epoch from a serial on is squashed (05 R207). waits: the identifier and the op, an SPQ or an SPC that acts as one, that
completes when the cancelled work has stopped and the peers have acknowledged. -/
def State.squashFrom (s : State) (serial cause : Nat) (waits : Option (Nat × Nat × Nat)) : State :=
  let ids := s.liveFrom serial
  let for_ := (waits.map (·.1)).getD 8
  let s := (ids.foldl (fun s i => s.squashOne i cause for_) s).dropAppends serial
  let s := ids.foldl (fun s i => s.endSpc i cause waits) s
  let s := match waits with
    | some (i, q, n) => s.modEpoch i (fun e => { e with spq := some (q, n), upTo := s.epochSerial, firstSent := s.time })
    | none => s
  s.pump

/-! ### Completion with its consequences -/

/-- An op completes: besides its own completion, an error status dooms its epoch, and squashes it when it is already
Committing (05 R208). -/
def State.complete (s : State) (q seq status detail : Nat) : State :=
  match s.op q seq with
  | none => s
  | some o =>
    let s := s.finish q seq status detail
    match o.epoch.bind s.epochOf with
    | none => s
    | some id =>
      if status = 0 ∨ status = 0x22 ∨ 0x23 < status then s
      else
        let s := s.modEpoch id (fun e => { e with doomed := true })
        if (s.epoch id).st = .committing then s.squashFrom (s.epoch id).serial 2 ((s.epoch id).spc.map (fun x => (id, x))) else s

/-- An op completes: one that was cancelled or squashed while it ran to its end completes so, whatever its end was (05 R211, Ops table
12). -/
def State.endAs (s : State) (o : Op) (status detail : Nat) : State :=
  if o.cancel = 1 then s.complete o.queue o.seq 0x20 0
  else if o.cancel = 2 then s.complete o.queue o.seq 0x22 o.cause
  else s.complete o.queue o.seq status detail

/-- An op that ran to its end completes with OK, unless it was cancelled or squashed meanwhile (05 R211, Ops table 12). -/
def State.completeRan (s : State) (o : Op) : State := s.endAs o 0 0

/-- The fence op waits for nothing more: every op admitted before it in each queue of its mask has completed (05 Ops
table 8). -/
def State.fenceDone (s : State) (o : Op) : Bool :=
  s.ops.all (fun p => decide (o.ordered ≤ p.ordered) || !(bit (dMask o.desc) p.queue) || decide (p.stage = .completed))

/-- The fault events that a Committing epoch held are raised once every earlier epoch has retired (05 R202). -/
def State.raiseHeld (s : State) : State :=
  (List.range 8).foldl (fun s i =>
    let e := s.epoch i
    if e.st = .committing ∧ ¬ s.earlierLive e.serial ∧ e.heldFaults ≠ [] then
      e.heldFaults.foldl (fun s f => s.event 2 1 0 f.record.payload) (s.modEpoch i (fun e => { e with heldFaults := [] }))
    else s) s

/-- Whether the acknowledgements that an SPC or SPQ of an identifier awaits are in, or have still to be asked for (05 R205, R207). -/
def State.acked (s : State) (i : Nat) : Bool := decide ((s.epoch i).awaiting = []) && s.epochMsgs.all (fun m => decide (m.for_ ≠ i))

/-- A thermal pause ends, by itself or with a stop or a fault of the Basin: its length is told (07 R299). -/
def State.tellPause (s : State) : State :=
  if ¬ s.light.pausing then s
  else
    let n := (s.time - s.light.pauseStart) % 2 ^ 32
    ({ s with light := { s.light with pausing := false, lastPause := n } }.count 0x1A).condition 0x0105 0 (field 0 32 n)

/-- What waited for a tag goes on; fences, SPCs and SPQs whose wait is over complete, and a Basin that stops reads Stopped once no started op remains
(05 R173, R205, R207, 12 R439). -/
def State.settle (s : State) : State :=
  let s := s.pump.raiseHeld
  let s := (s.ops.filter (fun o => decide (o.kind = .fnc) && decide (o.stage = .started))).foldl
    (fun s o => if s.fenceDone o then s.finish o.queue o.seq 0 0 else s) s
  let s := (List.range 8).foldl (fun s i =>
    let e := s.epoch i
    match e.spc, e.spq with
    | some (q, n), _ =>
      if e.retired ∧ s.acked i ∧ s.specWrites.all (fun w => decide (w.key ≠ .landed e.serial)) then (s.finish q n 0 0).modEpoch i (fun _ => {}) else s
    | none, some (q, n) =>
      if e.st = .squashed ∧ s.acked i ∧ (s.ops.all (fun o => decide (o.stage = .completed) ||
          !((o.epoch.map (fun x => decide (e.serial ≤ x ∧ x ≤ e.upTo))).getD false))) then
        (if (s.op q n).any (fun o => decide (o.kind = .spc)) then s.finish q n 0x22 2 else s.finish q n 0 0).modEpoch i (fun _ => {})
      else s
    | none, none => s) s
  if ¬ s.basin.run ∧ ¬ s.ops.any Op.isStarted ∧ (s.basin.state = .running ∨ s.basin.state = .paused) then
    { s with basin := { s.basin with state := .stopped } }.tellPause
  else s

/-! ### Doorbells and aborts (05 R166, R167, R211) -/

/-- What a queue doorbell does (05 R166, R167): accepted, ignored without effect, or ignored as an overrun. -/
def State.doorbell (s : State) (q tail : Nat) : State × Bool :=
  let u := s.queue q
  let n := (tail + 65536 - u.tail % 65536) % 65536
  if n = 0 then (s, false)
  else if 1024 < n + (u.submitted - u.done) then (s.count 0x0B, false)
  else (s.modQueue q (fun u => { u with tail := tail % 65536, submitted := u.submitted + n }), true)

/-- An op submitted and not admitted is cancelled without its descriptor being read (05 R211). -/
def State.cancelUnread (s : State) (q : Nat) : Nat → State
  | 0 => s
  | k + 1 =>
    let u := s.queue q
    let o : Op := { queue := q, seq := u.admitted, kind := .bad, stage := .completed, status := 0x20, time := s.time, ordered := s.admissions }
    ({ s with ops := s.ops ++ [o], admissions := s.admissions + 1 }.modQueue q (fun u => { u with admitted := u.admitted + 1 })).cancelUnread q k

/-- Writing 1 to 181q:05 (05 R209, R211). -/
def State.abortQueue (s : State) (q : Nat) : State :=
  let s := (s.ops.filter (fun o => decide (o.queue = q))).foldl (fun s o =>
    if o.stage = .completed then s
    else if o.isStarted ∧ o.kind.ordering then s
    else if o.isStarted ∧ (o.kind = .smx ∨ o.kind = .act) then s.cancel o 0x20 0
    else
      let s := (s.unwind o).dropOp o.queue o.seq
      s.complete o.queue o.seq 0x20 0) s
  (s.cancelUnread q ((s.queue q).submitted - (s.queue q).admitted)).settle

/-! ### Retirement (05 R169, R170, R212) -/

/-- A completion record (05 Ops table 13). -/
def Op.record (o : Op) : Nat :=
  field 0 10 (o.seq % 1024) + field 10 2 o.queue + field 12 1 (o.seq / 1024 % 2) + field 16 8 o.status + field 32 32 o.tag
    + field 64 8 o.flags + field 80 16 o.poisoned + field 96 8 o.pLoc.1 + field 104 7 o.pLoc.2.1 + field 111 5 o.pLoc.2.2
    + field 128 16 o.stamp + field 160 32 o.detail + field 192 64 o.time

/-- The payload of an OP_COMPLETE event (12 Dictionary table 8). -/
def Op.eventPayload (o : Op) : Nat :=
  field 0 10 (o.seq % 1024) + field 10 2 o.queue + field 16 8 o.status + field 32 32 o.tag + field 64 16 o.stamp

/-- The oldest op of a queue retires once it has completed (05 R169, R170), while the Ringmaster runs (13 R474). -/
def State.retireOp (s : State) (q : Nat) : State :=
  let u := s.queue q
  match s.op q u.done with
  | none => s
  | some o =>
    if o.stage ≠ .completed ∨ ¬ s.runs procRingmaster then s
    else
      let s := s.store (stagingBase + u.confCpl + 32 * (o.seq % 1024)) (leBytes 32 o.record)
      let s := { s with ops := s.ops.filter (fun p => ¬ (p.queue = q ∧ p.seq = o.seq)) }
      let s := s.modQueue q (fun u => { u with done := u.done + 1, retired := (u.retired + 1) % 65536,
                                               results := mset 1 u.results (o.seq % 1024) (o.status + 1) })
      if dNotify o.desc then s.event 1 0 0 o.eventPayload else s

end Sys2Proof.Machine
end

