-- ==== Sys2Proof/Machine/Weir.lean ====
section
/-! DEFINITION. The Weir's sets and accumulator tiles: images, the ACT functions, and what a drain hands over (03 R84 to
R100, R105, R116 to R119). -/

namespace Sys2Proof.Machine

/-! ### Accumulator tiles (03 R91, R92, Weir table 2) -/

/-- The set of accumulator tile a (03 R91). -/
def tileSet (a : Nat) : Nat := a / 64

/-- The accumulators of tile a. -/
def State.accTile (s : State) (a : Nat) : List Acc := (List.range 64).map (fun j => s.acc (tileSet a) (64 * (a % 64) + j))

/-- A tile's 2,048-byte image (03 Weir table 2). -/
def tileImage (xs : List Acc) : List Byte :=
  xs.flatMap (fun x => leBytes 16 (toU 128 x.a)) ++ xs.flatMap (fun x => leBytes 8 x.word) ++ xs.flatMap (fun x => leBytes 8 (toU 64 x.pass))

/-- The accumulator that an image holds at position j. -/
def imageAcc (bs : List Byte) (j : Nat) : Acc :=
  let w := leAt bs (1024 + 8 * j) 8
  { a := sint 128 (leAt bs (16 * j) 16), exp := sint 8 (bits w 0 8), count := bits w 8 31, inexact := bit w 39,
    overrange := bit w 40, poison := bit w 41, pass := sint 64 (leAt bs (1536 + 8 * j) 8) }

/-- Whether an image meets 03 R100: counts at most 2^30, reserved fields zero. -/
def imageOk (bs : List Byte) : Bool :=
  (List.range 64).all (fun j =>
    let w := leAt bs (1024 + 8 * j) 8
    decide (bits w 8 31 ≤ countMax) && decide (bits w 42 22 = 0))

/-- A tile's accumulators updated, each from its position. -/
def State.modAccTile (s : State) (a : Nat) (f : Nat → Acc → Acc) : State :=
  (List.range 64).foldl (fun s j => s.modAcc (tileSet a) (64 * (a % 64) + j) (f j)) s

/-- WRITE: the tile takes an image (03 Weir table 4). -/
def State.writeTile (s : State) (a : Nat) (img : List Byte) : State := s.modAccTile a (fun j _ => imageAcc img j)

/-- ADD: an image's accumulators are added into the tile (03 Weir table 4, 02 R77, 03 R90). -/
def State.addTile (s : State) (a : Nat) (img : List Byte) : State := s.modAccTile a (fun j x => x.addAcc (imageAcc img j))

/-- The clear of SAVE: A = 0, base_exp = 0, count = 0, flags clear (03 Weir table 4); the pass register is not named and
stays. -/
def State.clearTile (s : State) (a : Nat) : State := s.modAccTile a (fun _ x => { pass := x.pass })

/-- A set's state after an ACT WRITE, ADD or RESTORE: a Free set becomes Held, owned by the op's epoch (03 R99, 05 R201). -/
def State.actHolds (s : State) (k : Nat) (epoch : Option Nat) : State :=
  if (s.set k).st = .free then s.modSet k (fun _ => { st := .held, owner := epoch }) else s

/-- Whether an op of an epoch, or of none, may use a set now as far as ownership goes (05 R201). -/
def SetSt.openTo (x : SetSt) (epoch : Option Nat) : Bool :=
  match x.owner, epoch with
  | none, none => true
  | none, some _ => decide (x.st = .free)
  | some e, some f => decide (e = f)
  | some _, none => false

/-! ### Clearing and contributing (02 R69, 03 R86 to R90) -/

/-- All accumulators of a set are cleared with base exponent E (03 R88). -/
def State.clearSet (s : State) (k : Nat) (e : Int) : State :=
  { s with accs := (List.range 4096).foldl (fun m i => mset {} m (4096 * k + i) (Acc.cleared e)) s.accs }

/-- The regions an MVM or MVG lights. -/
def State.opRegions (s : State) (o : Op) : List Region := (dRegions o.desc).map s.region

/-- The element list of an MVM or MVG: the high-digit accumulators of its regions, ascending (03 R105). -/
def State.elements (s : State) (o : Op) : List Nat :=
  ((s.opRegions o).insertionSort (fun a b => a.gFirst ≤ b.gFirst)).flatMap (fun r => (List.range r.outputs).map r.accOf)

/-- The element list of an NRM (03 R105). -/
def nrmElements (d : Nat) : List Nat := (List.range (dN d)).map (fun i => dA0 d + dStride d * i)

/-- The element list that an op drains. -/
def State.drainList (s : State) (o : Op) : List Nat := if o.kind = .nrm then nrmElements o.desc else s.elements o

/-- What a drain hands to its stream and leaves behind: the bytes, the number of clamped elements, the result record,
the mask, and the accumulators read (03 R101 to R119). -/
structure Drained where
  bytes : List Byte := []
  clamped : Nat := 0
  record : List Byte := []
  poison : List Bool := []
  inexact : Nat := 0
  overrange : Nat := 0
deriving DecidableEq, Repr

/-- A drain of the accumulators of a set under a plan (03 R101 to R119). -/
def OutPlan.drain (p : OutPlan) (nrm : Bool) (xs : List Acc) : Drained :=
  let st := statsOf (oF p.ocb) (nrm && oRms p.ocb) nrm (oEps p.ocb) xs
  let zs := if nrm then st.qs.zipIdx.map (fun q => p.zNrm st q.2 q.1) else xs.zipIdx.map (fun x => p.z x.2 x.1)
  let poison := xs.map (·.poison)
  let b := p.bytes zs
  { bytes := b.1, clamped := b.2, poison := poison
    record := if oStats p.ocb || oArgmax p.ocb then p.record st nrm zs poison else []
    inexact := (xs.filter (·.inexact)).length
    overrange := (xs.filter (·.overrange)).length }

/-- The drain of an op's set as it stands. -/
def State.drained (s : State) (o : Op) (k : Nat) : Drained :=
  match o.plan with
  | none => {}
  | some p => p.drain (o.kind = .nrm) ((s.drainList o).map (s.acc k))

end Sys2Proof.Machine
end

