-- ==== Sys2Proof/Machine/Transfer.lean ====
section
/-! DEFINITION. Writes that ops make to memory, incoming fabric writes, XFR and WTK (05 R199 to R203, R595, 09 R363, R374 to
R379). -/

namespace Sys2Proof.Machine

/-! ### Speculative lines (05 R199, R200) -/

/-- The speculative lines a write would add. -/
def State.newLines (s : State) (w : SpecWrite) : Nat := (w.lines.filter (fun b => decide (b ∉ s.specBlocks))).length

/-- Whether a write would need a line beyond ops.spec_lines_max, or beyond the unreserved lines (05 R199, 06 R229). -/
def State.specFull (s : State) (w : SpecWrite) : Bool :=
  let m := s.newLines w
  decide (0 < m) && (decide (s.obj 0x1800 3 < s.specBlocks.length + m) || decide (s.poolFree < m))

/-- Bytes held provisionally. -/
def State.hold (s : State) (w : SpecWrite) : State :=
  { s with specWrites := s.specWrites ++ [{ w with born := s.time }], poolProgress := s.time }

/-- How a write by an op to local memory fares: it is made, or it waits for a line, or it ends the op with a status and detail. -/
inductive Wrote where
  | done (s : State)
  | wait
  | fail (s : State) (status detail : Nat)
deriving DecidableEq, Repr

/-- A write to local physical memory that an op makes itself: at once outside an epoch, held inside one, dropped once its epoch has been
squashed; a partial write of a bad granule ends the op, which made it without a stream (05 Ops tables 11 and 12, R199, R200, 06 R240,
R241). -/
def State.opWrite (s : State) (o : Op) (a : Nat) (bs : List Byte) : Wrote :=
  match o.epoch with
  | none => if s.mem.storeErrs a bs.length then .fail (s.meetBad a bs.length) 0x10 0xFF else .done (s.store a bs)
  | some e =>
    let w : SpecWrite := { key := .local_ e, addr := a, data := bs, op := some (o.queue, o.seq) }
    if (s.epochOf e).isNone then .done s
    else if s.specFull w then (if s.earlierLive e then .wait else .fail s 0x23 (dEpoch o.desc))
    else .done (s.hold w)

/-- A read for an op notes the peers whose provisional data it saw (05 R203). -/
def State.noteRead (s : State) (epoch : Option Nat) (a n : Nat) : State :=
  match epoch.bind s.epochOf with
  | none => s
  | some id => s.modEpoch id (fun e => { e with readPeers := (e.readPeers ++ s.peersRead epoch a n).dedup })

/-! ### Incoming writes and reads (09 R377, R379) -/

/-- A WR applied at this device: its bytes are written, or held when spec, after the checks of R377; the cause and
subcode of a refusal otherwise. op: the op, of this device, that makes it. -/
def State.applyWR (s : State) (key : Option SpecKey) (op : Option (Nat × Nat)) (addr : Nat) (data : List Byte) : Except (Nat × Nat) State :=
  if ¬ bit (s.obj 0x3000 7) 0 then .error (causeDenied, 0)
  else match s.translate true (addr : Int) with
    | .error c => .error (causeRemoteFault, c)
    | .ok (.host _) => .error (causeNotLocal, 1)
    | .ok (.peer _ _) => .error (causeNotLocal, 2)
    | .ok (.local_ a) =>
      let s := s.cacheLeaf addr
      match key with
      | some k =>
        let w : SpecWrite := { key := k, addr := a, data := data, op := op }
        if s.specFull w then .error (causeNoSpec, 0) else .ok (s.hold w)
      | none => if s.mem.storeErrs a data.length then .error (causeRemoteMemory, 0) else .ok (s.store a data)

/-- Uncorrectable errors that a request to n bytes met are counted, one in the walk among them (06 R240, Streams table 8). -/
def State.meetAt (s : State) (write : Bool) (addr n : Nat) : State :=
  match s.translate write (addr : Int) with
  | .ok (.local_ a) => s.meetBad a n
  | .error 6 => s.count 0x13
  | _ => s

/-- A token increment applied at this device: at once, or provisionally (05 R203, 09 R379). -/
def State.applyToken (s : State) (key : Option SpecKey) (token : Nat) : State :=
  match key with
  | none => s.setToken token (s.token token + 1)
  | some k => { s with
      provIds := s.provIds + 1
      provTokens := s.provTokens ++ [{ id := s.provIds + 1, key := k, token := token, left := 1, born := s.time }] }

/-! ### XFR (09 R363, R374, R375, 05 R595) -/

/-- The bytes from offset n of an XFR that one WR carries: up to a 4 KiB-aligned destination address (09 R363). -/
def xfrPiece (dest len n : Nat) : Nat := min (len - n) (4096 - (dest + n) % 4096)

/-- The piece that an XFR sends at offset n when src bytes of its source are at hand: a whole one, or, once its stream stands halted, what
has been delivered of it (06 Streams table 10); none while more is to come. -/
def xfrNext (dest len n src : Nat) (flush : Bool) : Option Nat :=
  let k := xfrPiece dest len n
  if n + k ≤ src then some k else if flush ∧ n < src then some (src - n) else none

/-- An XFR that has failed completes once no response is outstanding (09 R375). -/
def State.xfrFailed (s : State) (o : Op) : State :=
  match o.fabFail with
  | none => s
  | some d => if o.uses.any (fun t => decide (0 < (s.fabTag t).expect)) then s
              else (o.uses.foldl (fun s t => s.releaseTag t) s).complete o.queue o.seq 0x11 d

/-- The packets of an XFR to a peer that its available bytes allow, with fuel; the one that ends the XFR, with token_en its token
packet, waits for the ACKs of the others (09 R374). -/
def State.xfrSend (s : State) (o : Op) (src : List Byte) (flush : Bool) : Nat → State
  | 0 => s
  | fuel + 1 =>
    match s.op o.queue o.seq, o.uses.head? with
    | some o, some t =>
      let len := dXfrLen o.desc
      if o.stage = .completed ∨ o.fabFail.isSome ∨ len ≤ o.pos then s
      else match xfrNext (dDestAddr o.desc) len o.pos src.length flush with
        | none => s
        | some n =>
          let last := decide (len ≤ o.pos + n)
          if last ∧ dTokenEn o.desc ∧ 0 < (s.fabTag t).expect then s
          else
            let p : Packet := { s.packet ptWR (dDest o.desc) t with
              addr := dDestAddr o.desc + o.pos, data := (src.drop o.pos).take n
              spec := o.epoch.isSome, stamp := if o.epoch.isSome then o.stamp else 0
              tokenEn := last && dTokenEn o.desc, token := if last && dTokenEn o.desc then dXfrToken o.desc else 0 }
            match s.queuePacket p false with
            | .error (c, sub) =>
              let s := s.modOp o.queue o.seq (fun x => { x with fabFail := some (c + 256 * sub) })
              match s.op o.queue o.seq with
              | some o => s.xfrFailed o
              | none => s
            | .ok s =>
              let s := s.modTag t (fun u => { u with expect := u.expect + n, lastFormed := s.time })
              (s.modOp o.queue o.seq (fun x => { x with pos := x.pos + n, pieces := x.pieces ++ [(x.pos, n)] })).xfrSend o src flush fuel
    | _, _ => s

/-- An XFR to the device itself, carried out inside the fabric engine with the same effects; one of an epoch that finds no speculative
line waits, or ends, as R200 says (09 R374, 05 R200, R595). -/
def State.xfrSelf (s : State) (o : Op) (src : List Byte) (flush : Bool) : Nat → State
  | 0 => s
  | fuel + 1 =>
    match s.op o.queue o.seq with
    | none => s
    | some o =>
      let len := dXfrLen o.desc
      let key := o.epoch.map SpecKey.self
      if o.stage = .completed then s
      else if len ≤ o.pos then
        (if dTokenEn o.desc then s.applyToken key (dXfrToken o.desc) else s).complete o.queue o.seq 0 0
      else match xfrNext (dDestAddr o.desc) len o.pos src.length flush with
        | none => s
        | some n =>
          match s.applyWR key (some (o.queue, o.seq)) (dDestAddr o.desc + o.pos) ((src.drop o.pos).take n), o.epoch with
          | .ok s, _ => (s.modOp o.queue o.seq (fun x => { x with pos := x.pos + n })).xfrSelf o src flush fuel
          | .error (c, sub), none => (s.meetAt true (dDestAddr o.desc + o.pos) n).complete o.queue o.seq 0x11 (c + 256 * sub)
          | .error (c, sub), some e =>
            if c ≠ causeNoSpec then s.complete o.queue o.seq 0x11 (c + 256 * sub)
            else if s.earlierLive e then s
            else s.complete o.queue o.seq 0x23 (dEpoch o.desc)

/-- Whether the source stream of an XFR stands halted: what it has delivered is sent (06 Streams table 10). -/
def State.xfrHalted (s : State) (o : Op) : Bool := dXfrVia o.desc && decide ((s.ctx (dXfrStream o.desc)).st = .halted)

/-- An XFR proceeds with the source bytes at hand (09 R374, 06 Streams table 10). -/
def State.xfrStep (s : State) (o : Op) (src : List Byte) : State :=
  let fuel := dXfrLen o.desc / 4096 + 3
  let flush := s.xfrHalted o
  if dDest o.desc = s.ownDev then
    (if s.fab.state = .stopped ∨ s.fab.state = .faulted then s.complete o.queue o.seq 0x11 causeDown else s.xfrSelf o src flush fuel)
  else s.xfrSend o src flush fuel

/-- An XFR starts: it takes a tag where it goes to a peer (09 R371, R374); none is Free: it waits. -/
def State.xfrBegin (s : State) (o : Op) : Option State :=
  if dDest o.desc = s.ownDev then some (s.modOp o.queue o.seq (fun x => { x with stage := .started }))
  else match s.freeTag? with
    | none => none
    | some t =>
      let s := s.takeTag t { kind := .xfr, dest := dDest o.desc, queue := o.queue, seq := o.seq, spec := o.epoch.isSome }
      some (s.modOp o.queue o.seq (fun x => { x with stage := .started, uses := [t] }))

/-- The source bytes of an XFR that it can read now: staging SRAM, or what its stream has delivered. -/
def State.xfrSource (s : State) (o : Op) : List Byte :=
  if dXfrVia o.desc then (((s.ctx (dXfrStream o.desc)).run.map (·.data)).getD [])
  else s.see o.epoch (stagingBase + dOff o.desc) (dXfrLen o.desc)

/-- An XFR goes on: what it reads of staging SRAM is read then, and noted as a read of its epoch (05 R203). -/
def State.xfrGo (s : State) (o : Op) : State :=
  (if dXfrVia o.desc then s else s.noteRead o.epoch (stagingBase + dOff o.desc) (dXfrLen o.desc)).xfrStep o (s.xfrSource o)

/-! ### WTK (05 R173, R595) -/

/-- The provisional increments of a counter that a view sees, oldest first (05 R595). -/
def State.seenTokens (s : State) (view : Option Nat) (token : Nat) : List ProvToken :=
  s.provTokens.filter (fun p => decide (p.token = token) && p.key.seenBy view)

/-- What a WTK of a view could take (05 R595). -/
def State.tokenHeld (s : State) (view : Option Nat) (token : Nat) : Nat :=
  s.token token + ((s.seenTokens view token).map (·.left)).sum

/-- A count taken from provisional increments, oldest first: the increments, each with what is left of it, and the parts taken. -/
def takeFrom (view : Option Nat) (token : Nat) : Nat → List ProvToken → List ProvToken × List Taken
  | _, [] => ([], [])
  | n, p :: ps =>
    let k := if p.token = token ∧ p.key.seenBy view = true then min n p.left else 0
    let (qs, ts) := takeFrom view token (n - k) ps
    ({ p with left := p.left - k } :: qs, if k = 0 then ts else { token := token, amount := k, src := some (p.key, p.id) } :: ts)

/-- A WTK subtracts its count in one step: first from the committed count, then from the increments that it sees; an
epoch remembers the parts (05 R595). -/
def State.takeTokens (s : State) (view : Option Nat) (token count : Nat) : State :=
  let c := min count (s.token token)
  let (ps, ts) := takeFrom view token (count - c) s.provTokens
  let s := { (s.setToken token (s.token token - c)) with provTokens := ps }
  match view.bind s.epochOf with
  | none => s
  | some id => s.modEpoch id (fun e =>
      { e with taken := e.taken ++ (if c = 0 then [] else [{ token := token, amount := c }]) ++ ts
               readPeers := (e.readPeers ++ ts.filterMap (fun t => match t.src with
                 | some (.peer a b, _) => some (a, b)
                 | _ => none)).dedup })

end Sys2Proof.Machine
end

