-- ==== Sys2Proof/Machine/Admit.lean ====
section
/-! DEFINITION. Admission of ops, arming of their streams, and the starts that need nothing else: ACT, NRM, SMX, XFR, WTK and
the ordering ops (05 R168 to R181, R191 to R208, 06 R222 to R228). -/

namespace Sys2Proof.Machine

/-! ### Admission (05 R168, R171, R175, R176, R191, R196, R596) -/

/-- Ops of a queue that count against the 16 of R176: those cancelled unread do not (05 R211). -/
def State.counted (s : State) (q : Nat) : Nat :=
  (s.ops.filter (fun o => decide (o.queue = q) && !(decide (o.kind = .bad) && decide (o.status = 0x20)))).length

/-- An ordering op of the queue holds later admissions: until it has started, and an FNC until it has completed (05
R175). -/
def State.gated (s : State) (q : Nat) : Bool :=
  s.ops.any (fun o => decide (o.queue = q) && o.kind.ordering &&
    (decide (o.stage = .admitted) || (decide (o.kind = .fnc) && decide (o.stage ≠ .completed))))

/-- Whether the Ringmaster reads the next descriptor of a queue now (05 R166, R175, R176, 12 R439). -/
def State.canAdmit (s : State) (q : Nat) : Bool :=
  s.canSchedule && decide ((s.queue q).admitted < (s.queue q).submitted) && decide (s.counted q < 16) && !s.gated q

/-- The descriptor that queue q's next admission reads. -/
def State.nextDesc (s : State) (q : Nat) : Nat := s.slotDesc q (s.queue q).admitted

/-- The first byte of 8 to 63 in which a descriptor differs from a save area's copy, set and resume ignored (05 R191). -/
def descDiffers (d e : Nat) : Option Nat :=
  let clean := fun x => setBits (setBits x 72 2 0) 77 1 0
  ((List.range 56).map (· + 8)).find? (fun b => decide (bits (clean d) (8 * b) 8 ≠ bits (clean e) (8 * b) 8))

/-- The checks of a resuming MVM or MVG on its save area, as status and detail (05 R191). -/
def State.resumeFault (s : State) (view : Option Nat) (d : Nat) : Option (Nat × Nat) :=
  let bs := s.see view (stagingBase + dSave d) 133120
  if dSave d = offNone then some (0x01, 20)
  else if ¬ stagingOk (dSave d) 133120 ∨ s.mem.errs (stagingBase + dSave d) 133120 then some (0x10, 0xFF)
  else if leAt bs 0 1 ≠ 1 then some (0x01, 20)
  else match descDiffers d (leAt bs 64 64) with
    | some b => some (0x01, b)
    | none =>
      match (List.range 64).find? (fun i => !imageOk ((bs.drop (2048 + 2048 * i)).take 2048)) with
      | some i => some (0x08, 64 * bits (leAt bs 0 4) 8 2 + i)
      | none => none

/-- A KAP of an epoch is late: a KAP on its region of a later epoch has started (04 R154). -/
def State.kapLate (s : State) (r serial : Nat) : Bool :=
  (s.region r).kapBegan.any (fun e => decide (serial < e))

/-- The mark field of an LDW that its region does not allow (05 R171, Ops table 4): a weight region's is 0, a cache region's at most its
capacity; a region that is not valid has none to compare. -/
def State.ldwMarkBad (s : State) (d : Nat) : Bool :=
  let r := s.region (dRegion d)
  decide (opKind (dOpcode d) = .ldw) && r.valid && decide ((if r.kind = 0 then 0 else r.capacity) < dMark d)

/-- The byte of the first offending field of a descriptor at admission (05 R171). -/
def State.admitFault (s : State) (d : Nat) : Option Nat := leastOf ((descFault d).toList ++ (if s.ldwMarkBad d then [12] else []))

/-- Queue q's next descriptor is read and checked: the op is admitted, or completes at once (05 R168, R171, R196, R596); one
that cannot be read has tag 0. -/
def State.takeDesc (s : State) (q : Nat) : State :=
  let seq := (s.queue q).admitted
  let unread := s.slotErrs q seq
  let d := if unread then 0 else s.nextDesc q
  let o : Op := { queue := q, seq := seq, desc := d, kind := opKind (dOpcode d), tag := dTag d, ordered := s.admissions }
  let s := { s with ops := s.ops ++ [o], admissions := s.admissions + 1 }.modQueue q (fun u => { u with admitted := u.admitted + 1 })
  if unread then s.finish q seq 0x10 0xFF
  else match s.admitFault d with
  | some b => s.finish q seq 0x01 b
  | none =>
    if o.kind = .ldw ∧ dInEpoch d then s.finish q seq 0x09 (dEpoch d)
    else
      let join : State × Bool :=
        if ¬ dInEpoch d then (s, true)
        else
          let e := s.epoch (dEpoch d)
          if e.st = .opened then
            (s.modOp q seq (fun x => { x.flag flagSpeculative with epoch := some e.serial, stamp := e.stamp }), true)
          else if e.st = .squashed then (s.finish q seq 0x22 4, false)
          else (s.finish q seq 0x0A (dEpoch d), false)
      if join.2 = false then join.1
      else
        let s := join.1
        match s.op q seq with
        | none => s
        | some o =>
          if o.kind.passes ∧ dResume d then
            match s.resumeFault o.epoch d with
            | some (st, det) => s.complete q seq st det
            | none =>
              let bs := s.see o.epoch (stagingBase + dSave d) 133120
              (s.noteRead o.epoch (stagingBase + dSave d) 133120).modOp q seq (fun x => { x with bytes := bs })
          else match o.kind, o.epoch with
            | .kap, some e => if s.kapLate (dRegion d) e then s.complete q seq 0x09 (dEpoch d) else s
            | _, _ => s

/-! ### Arming (05 R178, R179, 06 R222 to R228) -/

/-- The detail that names an op's stream field for ERR_DESC (06 R223): the byte of the field that names context c. -/
def streamByte (d c : Nat) : Nat :=
  match opKind (dOpcode d) with
  | .mvm | .mvg => if dInStream d = c ∧ dInStream d ≠ dDrainStream d then 11 else if dInStream d = c then 11 else 12
  | .nrm => 13
  | .xfr => 10
  | _ => 10

/-- The uses of contexts by an op, with their needs (06 Streams table 3). An input vector needs its header until the header, which alone
says how wide its elements are, has arrived; its lines are granted for the widest elements that its run can hold (02 R52, 06 R222, R228;
log 93). -/
def State.usesOf (s : State) (o : Op) : List CtxUse :=
  let d := o.desc
  let r := s.region (dRegion d)
  match o.kind with
  | .mvm | .mvg =>
    let widest := 64 + 128 * ((s.opRegions o).headD {}).T
    let inp : CtxUse := { ctx := dInStream d, target := 0, need := 64, write := false, most := min (sLength (s.ctx (dInStream d)).desc) widest }
    match o.plan with
    | some p => [inp, { ctx := dDrainStream d, target := 2, need := p.need (s.elements o).length, write := true }]
    | none => [inp]
  | .ldw => [{ ctx := dStream d, target := 1, need := r.mirrorBytes, write := false }]
  | .kap => if dMode d then [] else [{ ctx := dStream d, target := 1, need := dKapLen d * (if r.format = 2 then 2 else 1), write := false }]
  | .nrm =>
    match o.plan with
    | some p => [{ ctx := dNrmStream d, target := 2, need := p.need (dN d), write := true }]
    | none => []
  | .act =>
    if dVia d ∧ dFunc d ≠ 5 then
      (if dFunc d = 0 ∨ dFunc d = 3 then [{ ctx := dStream d, target := 2, need := 2048, write := true }]
       else [{ ctx := dStream d, target := 3, need := 2048, write := false }])
    else []
  | .xfr => if dXfrVia d then [{ ctx := dXfrStream d, target := 4, need := dXfrLen d, write := false }] else []
  | _ => []

/-- The status and detail of a use whose context is unfit (06 R223, Streams table 3). -/
def unfit (o : Op) (u : CtxUse) (target5 : Bool) : Nat × Nat :=
  if target5 then (0x01, streamByte o.desc u.ctx)
  else match o.kind, u.target with
    | .ldw, _ => (0x06, dRegion o.desc)
    | .kap, _ => (0x07, dRegion o.desc)
    | .act, _ => (0x08, dTile o.desc)
    | .xfr, _ => (0x01, 10)
    | _, 0 => (0x02, u.ctx)
    | _, _ => (0x03, 14)

/-- The first unfit use of an op (06 R223, R224). -/
def State.unfitUse (s : State) (o : Op) (us : List CtxUse) : Option (Nat × Nat) :=
  (us.find? (fun u => let c := (s.ctx u.ctx).desc
      decide (sTarget c ≠ u.target) || decide (sLength c < u.need))).map
    (fun u => unfit o u (decide (sTarget (s.ctx u.ctx).desc = 5)))

/-- Every op admitted before this one that names a context of it has completed, and the contexts are Idle (05 R179). -/
def State.ctxFree (s : State) (o : Op) : Bool :=
  s.ops.all (fun p => decide (o.ordered ≤ p.ordered) || decide (p.stage = .completed)
    || (dContexts p.desc).all (fun c => decide (c ∉ dContexts o.desc)))
  && (dContexts o.desc).all (fun c => decide ((s.ctx c).st = .idle))

/-- The regions of an op are valid, distinct and share a tier range (01 R31, R32): the first entry that breaks it. -/
def State.regionFault (s : State) (o : Op) : Option Nat :=
  let rs := dRegions o.desc
  let first := s.region (rs.headD 0)
  (rs.zipIdx.find? (fun x => let r := s.region x.1
    !r.valid || decide (x.1 ∈ rs.take x.2) || decide (r.tFirst ≠ first.tFirst) || decide (r.tLast ≠ first.tLast))).map (·.1)

/-- What a plan for n elements reads of staging SRAM, the block and the arrays and table that it names and uses, is noted as read by the
op's epoch (05 R203). -/
def State.notePlan (s : State) (view : Option Nat) (off n : Nat) : State :=
  let o := (s.readPlan view off n).ocb
  let s := s.noteRead view (stagingBase + off) 64
  let s := if oScaleMode o = 2 then s.noteRead view (stagingBase + oScaleOff o) (4 * n) else s
  let s := if oBiasMode o = 2 then s.noteRead view (stagingBase + oBiasOff o) (4 * n) else s
  if oActMode o = 3 then s.noteRead view (stagingBase + oTableOff o) 8256 else s

/-- The output plan of an op is read and checked once (03 R104). -/
def State.plan (s : State) (o : Op) : State :=
  let put := fun (use : OcbUse) (off n : Nat) =>
    let r := s.planFor o.epoch use off n
    let s := s.notePlan o.epoch off n
    match r with
    | .ok p => s.modOp o.queue o.seq (fun x => { x with plan := some p })
    | .error e => s.modOp o.queue o.seq (fun x => { x with planErr := some e })
  match o.kind with
  | .mvm | .mvg =>
    if dDrainMode o.desc = 2 ∨ (s.regionFault o).isSome then s
    else put .pass (dOcb o.desc) (s.elements o).length
  | .nrm => put .nrm (dOcb o.desc) (dN o.desc)
  | _ => s

/-- An op waits for its streams to be armed: its deps are complete and none failed, it names contexts and has armed none
(05 R178). -/
def State.wantsArm (s : State) (o : Op) : Bool :=
  decide (o.stage = .admitted) && o.ready && decide (dContexts o.desc ≠ []) && decide (o.armed = []) && s.ctxFree o

/-- A preempted or resumed op waits for its input stream to be armed again (05 R185, R187). -/
def State.wantsRearm (s : State) (o : Op) : Bool :=
  (o.mvm.map (fun m => m.reread && m.saved)).getD false && decide (o.stage = .started) && decide (dInStream o.desc ∉ o.armed)
    && decide ((s.ctx (dInStream o.desc)).st = .idle)

/-- The first op in the order of R181 that waits to be armed (06 R228). -/
def State.nextToArm (s : State) : Option Op := firstOp (s.ops.filter (fun o => s.wantsArm o || s.wantsRearm o))

/-- Bytes of an input vector of T tiers whose elements have b bits, header included (02 R52). -/
def inputLen (t b : Nat) : Nat := 64 + (if b = 4 then 32 * t else if b = 8 then 64 * t else 128 * t)

/-- A preempted op arms its input stream again, from the same base, for the vector that it first read (05 R187, 06 Streams table 10); an
unfit context ends it and leaves its set as Ops table 12 states. -/
def State.rearmOp (s : State) (o : Op) : State :=
  let n := inputLen ((s.opRegions o).headD {}).T ((o.mvm.map (·.bits)).getD 8)
  let u : CtxUse := { ctx := dInStream o.desc, target := 0, need := n, write := false }
  match s.unfitUse o [u] with
  | some (st, det) => (s.unwind o).complete o.queue o.seq st det
  | none =>
    if s.poolFree < u.extra then s
    else (s.armRun u (some (o.queue, o.seq)) o.epoch o.queue).modOp o.queue o.seq (fun x =>
      { x with armed := u.ctx :: x.armed, used := (x.used ++ [u.ctx]).dedup })

/-- The contexts of an op are armed for a run, all of them or none (06 R228); an unfit context ends the op instead, and a
region that is not valid ends an LDW or KAP (05 Ops table 9). -/
def State.armOp (s : State) (o : Op) : State :=
  let s := if o.plan.isNone ∧ o.planErr.isNone then s.plan o else s
  match s.op o.queue o.seq with
  | none => s
  | some o =>
    if (o.kind = .ldw ∨ o.kind = .kap) ∧ ¬ (s.region (dRegion o.desc)).valid then s.complete o.queue o.seq 0x04 (dRegion o.desc)
    else
      let us := s.usesOf o
      match s.unfitUse o us with
      | some (st, det) => s.complete o.queue o.seq st det
      | none =>
        match o.kind, o.planErr with
        | .nrm, some (st, det) => s.complete o.queue o.seq st det
        | _, _ =>
          if s.poolFree < (us.map CtxUse.extra).sum then s
          else
            let s := us.foldl (fun s u => s.armRun u (some (o.queue, o.seq)) o.epoch o.queue) s
            s.modOp o.queue o.seq (fun x => { x with armed := us.map (·.ctx), used := us.map (·.ctx) })

/-! ### Starts (05 R173, R177, R193 to R208) -/

/-- An ACT's access to its set (03 R99, 05 R201): run, wait, or an error. -/
def State.actAccess (s : State) (o : Op) : Option (Option (Nat × Nat)) :=
  let k := tileSet (dTile o.desc)
  let x := s.set k
  if x.st = .filling ∨ x.st = .draining then none
  else if x.openTo o.epoch then some none
  else if x.owner.isSome then none
  else some (some (0x09, dEpoch o.desc))

/-- The epoch of a started ACT has been squashed: its set has become Free, and the ACT changes no accumulator and no set any more (05 R210,
Ops table 12; log 95). -/
def State.actDead (s : State) (o : Op) : Bool := (o.epoch.map (fun e => (s.epochOf e).isNone)).getD false

/-- An ACT whose image has moved through a stream, or is to leave by one, may act on its set now: at once when its epoch is dead, else
while the set is neither Filling nor Draining (03 R97, R99). -/
def State.actMay (s : State) (o : Op) : Bool :=
  let x := s.set (tileSet (dTile o.desc))
  s.actDead o || !(decide (x.st = .filling) || decide (x.st = .draining))

/-- An ACT that reads its image out has written it: SAVE then clears the tile, and the op completes (03 Weir table 4). -/
def State.actOut (s : State) (o : Op) : State :=
  (if dFunc o.desc = 3 ∧ ¬ s.actDead o then s.clearTile (dTile o.desc) else s).completeRan o

/-- An ACT that takes an image applies it, unless the image breaks R100 (03 R99, R100). -/
def State.actIn (s : State) (o : Op) (img : List Byte) : State :=
  if s.actDead o then s.completeRan o
  else if ¬ imageOk img then s.endAs o 0x08 (dTile o.desc)
  else
    let s := if dFunc o.desc = 2 then s.addTile (dTile o.desc) img else s.writeTile (dTile o.desc) img
    (s.actHolds (tileSet (dTile o.desc)) o.epoch).completeRan o

/-- An ACT whose stream has moved its whole image ends, once it may act on its set (03 R97, R99). -/
def State.actMoved (s : State) (o : Op) : State :=
  match (s.ctx (dStream o.desc)).run with
  | none => s
  | some run =>
    if o.stage ≠ .started ∨ run.done < run.need ∨ ¬ s.actMay o then s
    else if run.write then s.actOut o else s.actIn o run.data

/-- An ACT starts (03 R99): RELEASE and the forms with an image in staging SRAM run at once; READ and SAVE by a stream hand
the image to it; the others by a stream wait for the whole image. -/
def State.startAct (s : State) (o : Op) : State :=
  match s.actAccess o with
  | none => s
  | some (some (st, det)) => s.complete o.queue o.seq st det
  | some none =>
    let f := dFunc o.desc
    if f = 5 then (s.toSet (tileSet (dTile o.desc)) .free).complete o.queue o.seq 0 0
    else if dVia o.desc then
      if o.armed = [] then s
      else
        let s := s.modOp o.queue o.seq (fun x => { x with stage := .started })
        if f = 0 ∨ f = 3 then s.handOver (dStream o.desc) (tileImage (s.accTile (dTile o.desc)))
        else s.actMoved { o with stage := .started }
    else if ¬ stagingOk (dOff o.desc) 2048 then s.complete o.queue o.seq 0x10 0xFF
    else if f = 0 ∨ f = 3 then
      match s.opWrite o (stagingBase + dOff o.desc) (tileImage (s.accTile (dTile o.desc))) with
      | .done s => s.actOut o
      | .wait => s
      | .fail s st det => s.complete o.queue o.seq st det
    else if s.mem.errs (stagingBase + dOff o.desc) 2048 then s.complete o.queue o.seq 0x10 0xFF
    else (s.noteRead o.epoch (stagingBase + dOff o.desc) 2048).actIn o (s.see o.epoch (stagingBase + dOff o.desc) 2048)

/-- Engine cycles that the softmax helper takes for N elements and an output of L (03 R122). -/
def smxCycles (n l : Nat) : Nat := 2 * cdiv n 64 + cdiv l 64 + 20

/-- An SMX starts when the helper is free and no other SMX comes first (05 R181): its header is checked, then its block; the helper computes what it will write
(03 R120 to R122). What it reads is noted as read by its epoch (05 R203). -/
def State.startSmx (s : State) (o : Op) : State :=
  if s.helper.isSome ∨ s.ops.any (fun p => decide (p.kind = .smx) && decide (p.stage = .admitted) && p.ready && p.before o) then s
  else if ¬ stagingOk (dInOff o.desc) 64 ∨ s.mem.errs (stagingBase + dInOff o.desc) 64 then s.complete o.queue o.seq 0x10 0xFF
  else
    let s := s.noteRead o.epoch (stagingBase + dInOff o.desc) 64
    let h := leNat (s.see o.epoch (stagingBase + dInOff o.desc) 64)
    if ¬ hClean h ∨ (hFormat h ≠ 1 ∧ hFormat h ≠ 3) ∨ hCount h = 0 ∨ 12544 < hCount h then s.complete o.queue o.seq 0x02 0xFF
    else
      let n := hCount h
      let k := aBytes (hFormat h) n
      let r := s.planFor o.epoch .smx (dOcb o.desc) n
      let s := s.notePlan o.epoch (dOcb o.desc) n
      match r with
      | .error (st, det) => s.complete o.queue o.seq st det
      | .ok p =>
        if ¬ stagingOk (dInOff o.desc + 64) k ∨ s.mem.errs (stagingBase + dInOff o.desc + 64) k ∨ ¬ stagingOk (dOutOff o.desc) (64 + p.len n) then
          s.complete o.queue o.seq 0x10 0xFF
        else
        let bs := s.see o.epoch (stagingBase + dInOff o.desc + 64) k
        let xs := (List.range n).map (aElem (hFormat h) bs)
        let r := p.smxBytes (hExp h) xs
        let s := (s.noteRead o.epoch (stagingBase + dInOff o.desc) (64 + k))
        { s with helper := some (o.queue, o.seq) }.modOp o.queue o.seq (fun x =>
          let x := { x with stage := .started, bytes := r.1, plan := some p, due := s.time + smxCycles n (p.len n) }
          if r.2 then x.flag flagSmxZero else x)

/-- An NRM starts when its set is Held: the set enters Draining (03 R97, R117); naming a Free set is an error. -/
def State.startNrm (s : State) (o : Op) : State :=
  let k := dNrmSet o.desc
  let x := s.set k
  if o.armed = [] then s
  else if x.st = .free then s.complete o.queue o.seq 0x05 k
  else if x.st ≠ .held then s
  else if ¬ x.openTo o.epoch then (if x.owner.isSome then s else s.complete o.queue o.seq 0x09 (dEpoch o.desc))
  else
    { (s.modSet k (fun x => { x with st := .draining })) with drainOrder := s.drainOrder ++ [(o.queue, o.seq)] }.modOp
      o.queue o.seq (fun x => { x with stage := .draining, set := some k })

/-- An XFR that waits for nothing but a tag. -/
def Op.xfrReady (o : Op) : Bool :=
  decide (o.kind = .xfr) && decide (o.stage = .admitted) && o.ready && (!dXfrVia o.desc || decide (o.armed ≠ []))

/-- An XFR starts once its source is readable, and once no other that is ready comes first (05 R181, Ops table 8, 09 R374). -/
def State.startXfr (s : State) (o : Op) : State :=
  if dXfrVia o.desc ∧ o.armed = [] ∨ s.ops.any (fun p => p.xfrReady && p.before o) then s
  else if ¬ dXfrVia o.desc ∧ (stagingSize < dOff o.desc + dXfrLen o.desc
      ∨ s.mem.errs (stagingBase + dOff o.desc) (dXfrLen o.desc)) then s.complete o.queue o.seq 0x10 0xFF
  else match s.xfrBegin o with
    | none => s
    | some s' => s'.xfrGo o

/-- A WTK takes its count once its counter holds it; one on a cascade counter of a Broken cascade completes with
MEMBER_LOST (05 Ops table 8, R595, 10 R394). -/
def State.startWtk (s : State) (o : Op) : State :=
  if s.casc.state = .broken ∧ 0xF0 ≤ dToken o.desc then s.complete o.queue o.seq 0x12 s.casc.lost
  else if dCount o.desc ≤ s.tokenHeld o.epoch (dToken o.desc) then
    (s.takeTokens o.epoch (dToken o.desc) (dCount o.desc)).complete o.queue o.seq 0 0
  else s

/-- An SPB (05 R194). -/
def State.startSpb (s : State) (o : Op) : State :=
  let i := dNamed o.desc
  if (s.epoch i).st ≠ .closed then s.finish o.queue o.seq 0x09 i
  else
    let stamp := (s.epochSerial % 8192) * 8 + i
    let s := { s with epochSerial := s.epochSerial + 1, lastStamp := stamp }
    let s := s.modEpoch i (fun _ => { st := .opened, stamp := stamp, serial := s.epochSerial })
    (s.modOp o.queue o.seq (fun x => { x with stamp := stamp })).finish o.queue o.seq 0 0

/-- The epochs from that of an identifier on are squashed for an SPQ, or for an SPC that acts as one; the op waits for the cancelled work
and the acknowledgements (05 R207, R208). -/
def State.squashFor (s : State) (o : Op) (i cause : Nat) : State :=
  (s.modOp o.queue o.seq (fun x => { x with stage := .started })).squashFrom (s.epoch i).serial cause (some (i, o.queue, o.seq))

/-- An SPC (05 R205, R206, R208). -/
def State.startSpc (s : State) (o : Op) : State :=
  let i := dNamed o.desc
  let e := s.epoch i
  let s := if e.st = .closed then s else s.modOp o.queue o.seq (fun x => { x with stamp := e.stamp })
  match e.st with
  | .closed => s.finish o.queue o.seq 0x0A i
  | .committing => s.finish o.queue o.seq 0x0A i
  | .squashed => (s.finish o.queue o.seq 0x22 e.cause).modEpoch i (fun _ => {})
  | .opened =>
    if e.doomed then s.squashFor o i 2
    else (s.modEpoch i (fun e => { e with st := .committing, spc := some (o.queue, o.seq) })).modOp o.queue o.seq (fun x => { x with stage := .started })

/-- An SPQ (05 R207). -/
def State.startSpq (s : State) (o : Op) : State :=
  let i := dNamed o.desc
  let e := s.epoch i
  let s := if e.st = .closed then s else s.modOp o.queue o.seq (fun x => { x with stamp := e.stamp })
  if e.live then s.squashFor o i 1
  else if e.st = .squashed then (s.finish o.queue o.seq 0 0).modEpoch i (fun _ => {})
  else s.finish o.queue o.seq 0x0A i

/-- An op whose deps are complete starts as far as it can (05 R173): MVM, MVG, LDW and KAP have starts of their own. -/
def State.start (s : State) (o : Op) : State :=
  match o.kind with
  | .act => s.startAct o
  | .smx => s.startSmx o
  | .nrm => s.startNrm o
  | .xfr => s.startXfr o
  | .wtk => s.startWtk o
  | .spb => s.startSpb o
  | .spc => s.startSpc o
  | .spq => s.startSpq o
  | .fnc => s.modOp o.queue o.seq (fun x => { x with stage := .started })
  | _ => s

/-- The Ringmaster considers an admitted op: DEPFAIL, or ready to arm and start (05 R177, R178). -/
def State.consider (s : State) (q seq : Nat) : State :=
  match s.op q seq with
  | none => s
  | some o =>
    if o.stage ≠ .admitted ∨ ¬ s.canSchedule ∨ ¬ s.depsDone o then s
    else match s.depFailed o with
      | some slot => (s.complete q seq 0x21 slot).settle
      | none =>
        let s := s.modOp q seq (fun x => { x with ready := true })
        (s.start { o with ready := true }).settle

/-- The next descriptor of a queue, if it is the one a command stands for, is admitted and considered. A descriptor that
names no listed op, or an ACT function that does not exist, or that cannot be read, is taken by whichever command comes (05 R171). -/
def State.admitAs (s : State) (q : Nat) (mine : Nat → Bool) : State :=
  let d := s.nextDesc q
  if ¬ s.canAdmit q then s
  else if s.slotErrs q (s.queue q).admitted || mine d || decide (opKind (dOpcode d) = .bad) || (decide (opKind (dOpcode d) = .act) && decide (6 ≤ dFunc d)) then
    (s.takeDesc q).consider q (s.queue q).admitted
  else s

end Sys2Proof.Machine
end

