-- ==== Sys2Proof/Machine/Spares.lean ====
section
/-! DEFINITION. What holds the digits: weight mirrors and their damage, ring writes, and each tile's spare column (01 R11 to
R13, 02 R63, 04 R125 to R134, R157, R158, 06 R238 to R241, 07 R290, R291, 08 R322, R329 to R331, 17 R555 to R561). -/

namespace Sys2Proof.Machine

/-! ### Granules (06 R238 to R241, 17 R564) -/

/-- A granule, by physical address divided by 64, becomes bad (06 R240). -/
def State.markBad (s : State) (g : Nat) : State :=
  if g ∈ s.mem.bad then s
  else { s with mem := { s.mem with bad := s.mem.bad ++ [g], badTimes := s.mem.badTimes ++ [(stackOf (64 * g), s.time)] } }

/-- A granule is found bad; its detection is counted (06 R240). -/
def State.becomeBad (s : State) (g : Nat) : State := (s.markBad g).count 0x13

/-! ### Mirrors (04 R128 to R130, R157 to R159) -/

/-- The physical address of a byte of a region's active mirror, from the pages kept when its LDW completed (04 R130). -/
def Region.mirrorPhys (r : Region) (off : Nat) : Nat := r.pages.getD (off / 65536) 0 + off % 65536

/-- The same in the image that the region's columns are copied from: while it is Loading, its mirror-to-be (04 R130, R135). -/
def Region.imagePhys (r : Region) (off : Nat) : Nat := (if r.st = .loading then r.pendingPages else r.pages).getD (off / 65536) 0 + off % 65536

/-- The granule, by physical address divided by 64, that holds logical column k of a tile (04 R128). -/
def Region.granuleOf (r : Region) (tile k : Nat) : Nat := r.imagePhys (r.mirrorByte (tile / 128) (tile % 128) k 0) / 64

/-- The digit of ring row l of logical column k of a tile in the mirror (04 R124, R128). -/
def State.mirrorDigit (s : State) (r : Region) (tile k l : Nat) : Nat :=
  let b := (s.mem.read (r.imagePhys (r.mirrorByte (tile / 128) (tile % 128) k l))).toNat
  r.codeAt tile k (if l % 2 = 0 then b % 16 else b / 16)

/-- Whether a region's active mirror has a byte in a granule: it is not Empty and a kept page holds the granule. -/
def Region.mirrorHas (r : Region) (g : Nat) : Bool :=
  r.valid && decide (r.st ≠ .empty) && (List.range (cdiv r.mirrorBytes 64)).any (fun i => decide (r.mirrorPhys (64 * i) / 64 = g))

/-- Length of a refresh period in engine cycles: 500 loop updates (04 R132). -/
def refreshPeriod : Nat := 500 * 4800

/-- A mirror read of a region meets an uncorrectable error in a granule (04 R157 to R159). -/
def State.mirrorError (s : State) (r g : Nat) : State :=
  let first := decide ((s.region r).st = .resident)
  let s := s.count 0x09
  let s := s.modRegion r (fun x =>
    { x with
      st := if first then .mirrorDamaged else x.st
      graceStart := if first then s.time else x.graceStart
      graceLeft := if first then 8 else x.graceLeft
      mirrorErrors := satAdd 32 x.mirrorErrors 1
      badGranules := if g ∈ x.badGranules then x.badGranules else x.badGranules ++ [g] })
  s.condition 0x010D 2 (field 0 8 r + field 8 40 (64 * g))

/-- Whether the digits of a logical column lie in a damaged granule (04 R158). -/
def State.damaged (s : State) (tile k : Nat) : Bool :=
  match s.regionOfTile tile with
  | some i =>
    let g := (s.region i).granuleOf tile k
    decide (g ∈ (s.region i).badGranules) || decide (stackOf (64 * g) ∈ s.mem.failed)
  | none => false

/-- Regions whose rings are refreshed (04 R132). -/
def Region.refreshedSt (r : Region) : Bool := r.valid && (decide (r.st = .resident) || decide (r.st = .mirrorDamaged))

/-- Refresh periods of grace that remain, 11rr:07 (04 R159). -/
def State.graceLeft (s : State) (r : Nat) : Nat :=
  let x := s.region r
  if x.st = .mirrorDamaged then 8 - (s.time - x.graceStart) / refreshPeriod else 0

/-! ### Ring writes (04 R123 to R127) -/

/-- The kind of a logical column of a tile: high where its region says so (04 R124). -/
def State.highCol (s : State) (tile k : Nat) : Bool :=
  match s.regionOfTile tile with
  | some i => (s.region i).high ((s.region i).colOf (tile % 128) k)
  | none => true

/-- The bias code of a ring write before it is clamped: the level entry of the column's kind plus the ring offset (04 R125). A column
that has not been calibrated has the factory's entries, which the spec does not state (log 4). -/
def State.biasCode (s : State) (w : RingWrite) : Int :=
  let c := s.col w.tile w.p
  let level := ((if w.high then c.levelHi else c.levelLo)[w.v % 16]?).getD
    (Config.factoryLevel (33 * w.tile + w.p) (16 * b2n w.high + w.v % 16)).toNat
  ((level : Nat) : Int) + c.offsets.getD w.l 0

/-- A writer makes a ring write: the ring takes the digit and the clamped bias code, and a clamp that changes the code is counted (04
R123, R125). -/
def State.makeWrite (s : State) (w : RingWrite) : State :=
  let code := s.biasCode w
  let s := (s.count 0x07 (b2n (decide (code < 0 ∨ 4095 < code)))).setRing w.tile w.p w.l w.v
  { s with
    codes := mset 0 s.codes (ringKey w.tile w.p w.l) (clampI 0 4095 code).toNat
    ringAt := mset 0 s.ringAt (ringKey w.tile w.p w.l) (s.time + 1) }

/-- Which of its tile's two writers makes a write: the spare's is that of the logical column it holds, an idle spare's is writer 0
(04 R123). -/
def State.writerOf (s : State) (w : RingWrite) : Nat :=
  if w.p < 32 then w.p % 2 else (((s.tile w.tile).loading <|> (s.tile w.tile).serves).getD 0) % 2

/-- The place of a request in the service order: Residency table 1, with a refresh write whose ring would otherwise go unwritten for
longer than the refresh period ahead of every class (04 R133). -/
def State.writeRank (s : State) (w : RingWrite) : Nat :=
  if w.order = 5 ∧ mget 0 s.ringAt (ringKey w.tile w.p w.l) + refreshPeriod ≤ s.time + 5 then 0 else w.order

/-- The rings of a cluster can be written: it is neither asleep nor in reset (14 Reset table 4, 15 R523). -/
def State.clusterServes (s : State) (c : Nat) : Bool := !(s.cluster c).asleep && !(s.cluster c).inReset

/-- A request can be served: its cluster is neither asleep nor in reset, and a KAP's or an LDW's write waits for a cluster that wakes
(14 Reset table 4, 15 R523, R524). -/
def State.servable (s : State) (w : RingWrite) : Bool :=
  s.clusterServes (w.tile / 256) && (w.op.isNone || (s.cluster (w.tile / 256)).waking.isNone)

/-- The request that a writer of a tile serves next: the first in the service order, within one class the first to arrive (04 R133). -/
def State.nextWrite (s : State) (tile wr : Nat) : Option RingWrite :=
  (s.writes.filter (fun w => decide (w.tile = tile) && decide (s.writerOf w = wr) && s.servable w)).foldl (fun b w =>
    match b with
    | none => some w
    | some x => if s.writeRank w < s.writeRank x then some w else b) none

/-- One sample of the writers: each that has a request serves one (04 R123, R133). -/
def State.writerSample (s : State) : State :=
  (((s.writes.filter s.servable).map (fun w => (w.tile, s.writerOf w))).dedup).foldl (fun s x =>
    match s.nextWrite x.1 x.2 with
    | some w => { s with writes := s.writes.erase w }.makeWrite w
    | none => s) s

/-- A request reads the mirror, or sets a digit of a copy or a check: it is not a KAP's or an LDW's (04 Residency table 1). -/
def RingWrite.copies (w : RingWrite) : Bool := decide (w.order ≠ 2) && decide (w.order ≠ 3)

/-- All rings of a physical column are to take digits; what earlier copies still had to write there is superseded. -/
def State.askColumn (s : State) (order tile p : Nat) (high : Bool) (digit : Nat → Nat) : State :=
  { s with writes := s.writes.filter (fun w => !(decide (w.tile = tile) && decide (w.p = p) && w.copies))
      ++ (List.range 64).map (fun l => { tile := tile, p := p, l := l, v := digit l, high := high, order := order }) }

/-- Every ring of a physical column is to take one digit, in the order of Carousel writes (04 Residency table 1). -/
def State.fillColumn (s : State) (tile p v : Nat) (high : Bool := true) : State := s.askColumn 4 tile p high (fun _ => v)

/-- The writes of digits, each for a tile, logical column, ring row and code, for a KAP or an LDW: to every column that R126 names, an
earlier write of the same ring that read the mirror being dropped (04 R126, R134). -/
def State.askDigits (s : State) (order : Nat) (op : Nat × Nat) (ds : List (Nat × Nat × Nat × Nat)) : State :=
  let ws : List RingWrite := ds.flatMap (fun d => ((s.tile d.1).writeTo d.2.1).map (fun p =>
    { tile := d.1, p := p, l := d.2.2.1, v := d.2.2.2, high := s.highCol d.1 d.2.1, order := order, op := some op }))
  { s with writes := s.writes.filter (fun w => !(w.copies && ws.any (fun x => decide (x.tile = w.tile) && decide (x.p = w.p) && decide (x.l = w.l)))) ++ ws }

/-- A KAP or LDW has writes that its tiles' writers have not made. -/
def State.writing (s : State) (op : Nat × Nat) : Bool := s.writes.any (fun w => decide (w.op = some op))

/-- A copy into a physical column of a tile is not complete. -/
def State.copying (s : State) (tile p : Nat) : Bool :=
  s.writes.any (fun w => decide (w.tile = tile) && decide (w.p = p) && w.copies)
    || s.mirrorReads.any (fun r => decide (r.tile = tile) && decide (r.p = some p))

/-- The copies that wait for the writers of a cluster are dropped: its rings are to be rewritten whole; what KAPs and LDWs write waits (04
R162, R164, 14 Reset table 4). -/
def State.dropWrites (s : State) (c : Nat) : State :=
  { s with writes := s.writes.filter (fun w => decide (w.tile / 256 ≠ c) || w.op.isSome), mirrorReads := s.mirrorReads.filter (fun r => decide (r.tile / 256 ≠ c)) }

/-- The mirror cannot give the digits of logical column k (04 R158): a spare that was to take it does not, and a spare that serves it
keeps serving it. -/
def State.copyFails (s : State) (tile k p : Nat) : State :=
  s.modTile tile (fun t =>
    if p = 32 then { t with
      pendingMap := t.pendingMap.filter (fun m => decide (m.col ≠ some k)), loading := if t.loading = some k then none else t.loading
      calib := if t.calib.any (fun c => decide (c.k = some k)) then none else t.calib }
    else { t with pendingMap := [], loading := none, calib := none })

/-- Physical column p takes the digits of logical column k from the weight mirror (04 R126). A read of a stack in block reset waits (04
R163); an uncorrectable granule is a mirror error (04 R157). A tile of no region, or of an Empty one, has no mirror: its rings keep
what they hold (01, after Basin table 4). -/
def State.copyColumn (s : State) (order tile k p : Nat) : State :=
  match s.regionOfTile tile with
  | none => s
  | some i =>
    let r := s.region i
    let g := r.granuleOf tile k
    if r.st = .empty then s
    else if stackOf (64 * g) ∈ s.mem.inReset then
      { s with mirrorReads := s.mirrorReads ++ [({ tile := tile, k := k, p := some p, order := order } : MirrorRead)] }
    else if s.damaged tile k then s.copyFails tile k p
    else if s.mem.errs (64 * g) 64 then ((s.meetBad (64 * g) 64).mirrorError i g).copyFails tile k p
    else s.askColumn order tile p (s.highCol tile k) (s.mirrorDigit r tile k)

/-- The two logical columns of a granule are to be rewritten from the mirror; an uncorrectable granule is a mirror error, a damaged
one is left, and a read of a stack in block reset waits (04 R132, R157, R158, R163). -/
def State.refreshGranule (s : State) (i tile m : Nat) : State :=
  let r := s.region i
  let g := r.granuleOf tile (2 * m)
  if g ∈ r.badGranules then s
  else if stackOf (64 * g) ∈ s.mem.inReset then { s with mirrorReads := s.mirrorReads ++ [({ tile := tile, k := 2 * m } : MirrorRead)] }
  else if s.mem.errs (64 * g) 64 then (s.meetBad (64 * g) 64).mirrorError i g
  else { s with writes := s.writes ++ [2 * m, 2 * m + 1].flatMap (fun k => ((s.tile tile).writeTo k).flatMap (fun p =>
    (List.range 64).map (fun l => ({ tile := tile, p := p, l := l, v := s.mirrorDigit r tile k l, high := s.highCol tile k } : RingWrite)))) }

/-- A mirror read that has waited is made once its stack is out of reset; a refresh only while its region is refreshed (04 R132, R163). -/
def State.mirrorRead (s : State) (x : MirrorRead) : State :=
  match x.p, s.regionOfTile x.tile with
  | some p, _ => s.copyColumn x.order x.tile x.k p
  | none, some i => if (s.region i).refreshedSt then s.refreshGranule i x.tile (x.k / 2) else s
  | none, none => s

/-- The mirror reads that have waited for a stack now out of reset are made (04 R163). -/
def State.dueReads (s : State) : State :=
  let held := fun (x : MirrorRead) => match s.regionOfTile x.tile with
    | some i => decide (stackOf (64 * (s.region i).granuleOf x.tile x.k) ∈ s.mem.inReset)
    | none => false
  (s.mirrorReads.filter (fun x => !held x)).foldl State.mirrorRead { s with mirrorReads := s.mirrorReads.filter held }

/-- The rewrite of a cluster's rings is complete once nothing of it waits (04 R162, R164). -/
def State.endRewrites (s : State) : State :=
  (s.clusters.filter (fun e => e.2.rewriting)).foldl (fun s e =>
    if s.writes.any (fun w => decide (w.tile / 256 = e.1) && w.op.isNone) ∨ s.mirrorReads.any (fun r => decide (r.tile / 256 = e.1)) then s
    else s.modCluster e.1 (fun x => { x with needRewrite := false, rewriting := false })) s

/-! ### The spare (02 Arithmetic table 7, 07 R290 to R296, 08 R322, R329 to R331) -/

/-- The next map change's digits are to be copied into the spare, a takeover's ahead of a Carousel copy (04 Residency table 1); a
change for a column with a damaged granule is dropped (04 R158). -/
def State.loadSpare (s : State) (tile : Nat) : State :=
  match (s.tile tile).pendingMap with
  | { col := some k, why := why } :: rest =>
    if (s.tile tile).loading = some k then s
    else if s.damaged tile k then s.modTile tile (fun t => { t with pendingMap := rest })
    else (s.modTile tile (fun t => { t with loading := some k })).copyColumn (if why = .carousel then 4 else 1) tile k 32
  | _ => s

/-- Map changes fall due in a tile (01 R13). -/
def State.queueMap (s : State) (tile : Nat) (cs : List MapChange) : State :=
  (s.modTile tile (fun t => { t with pendingMap := t.pendingMap ++ cs })).loadSpare tile

/-- The map change that will stand once those that wait have been made. -/
def TileSt.comingMap (t : TileSt) : MapChange := t.pendingMap.getLastD { col := t.serves, why := t.why }

/-- A Carousel calibration that has not ended is abandoned: the column keeps its committed values and is calibrated again in the
tile's next window (08 R330, R331). A spare that was being loaded for it is idle again. -/
def State.abandonCalib (s : State) (tile : Nat) : State :=
  match (s.tile tile).calib with
  | none => s
  | some c =>
    if c.ended then s
    else
      let waits := (s.tile tile).pendingMap.any (fun m => decide (m.why = .carousel))
      let s := s.modTile tile (fun t => { t with
        calib := none
        awaiting := if c.p ∈ t.awaiting then t.awaiting else t.awaiting ++ [c.p]
        pendingMap := t.pendingMap.filter (fun m => decide (m.why ≠ .carousel))
        loading := if waits then none else t.loading })
      let s := { s with
        cal := { s.cal with checks := s.cal.checks.filter (fun k => !(decide (k.tile = tile) && k.carousel)) }
        mirrorReads := s.mirrorReads.filter (fun r => !(waits && decide (r.tile = tile) && decide (r.p = some 32))) }
      if waits then s.fillColumn tile 32 0 else s

/-- Logical column k, which the spare serves, is rewritten from the mirror and mapped back to its own physical column (01 R13, 07 R293,
08 Converters table 9). -/
def State.mapBack (s : State) (tile k : Nat) : State := (s.queueMap tile [{}]).copyColumn 4 tile k k

/-- The Carousel gives up the column that the spare covers or is to cover: it is rewritten from the mirror and mapped
back (02 Arithmetic table 7). -/
def State.carouselBack (s : State) (tile : Nat) : State :=
  let t := s.tile tile
  let s := s.abandonCalib tile
  match t.why, t.serves with
  | .carousel, some k => if t.comingMap.col = some k then s.mapBack tile k else s
  | _, _ => s

/-- The spare takes logical column k for a reason, as Arithmetic table 7 sets out for its state (02 R63, 07 R291, 08
R322). A spare that is retired, or recovers itself, takes none; one that is calibrated itself leaves its calibration (08 R330). Of a
column whose digits are in the spare for its own calibration but which is not yet mapped there, the table does not speak: the spare
counts as serving it, and the column keeps its own place (DESIGN CHOICE, log 98). -/
def State.spareTakes (s : State) (tile k : Nat) (why : SpareUse) : State :=
  let t := s.tile tile
  let m := t.comingMap
  if t.retired = some 32 ∨ 32 ∈ t.recovs ∨ s.damaged tile k then s
  else match m.why, m.col with
    | .idle, _ => (if t.calib.any (fun c => decide (c.p = 32)) then s.abandonCalib tile else s).queueMap tile [{ col := some k, why := why }]
    | .carousel, some k' =>
      if s.damaged tile k' ∧ t.serves = some k' then s
      else if k' = k ∧ why = .relieved then s.carouselBack tile
      else
        let s := s.carouselBack tile
        if (s.tile tile).comingMap.col = some k' then s else s.queueMap tile [{ col := some k, why := why }]
    | _, _ => s

/-! ### Unusable and suspended tiles (17 R558 to R561, R567) -/

/-- BASIN_FAULT detail (17 R567): a condition code and a tile, 0x7FFF when none is named. -/
def basinDetail (code tile : Nat) : Nat := field 0 16 code + field 16 15 tile

/-- A started or preempted MVM or MVG, or one that drains, completes with an error status and leaves its set as Ops table
12 states (05 R187, 17 R557, R561). -/
def State.failRun (s : State) (o : Op) (status detail : Nat) : State :=
  ((s.unwind o).endAs o status detail).settle

/-- The running MVM or MVG. -/
def State.runningOp (s : State) : Option Op := s.basin.running.bind (fun x => s.op x.1 x.2)

/-- The op before it, whose passes come before the running op's and that has not contributed (01 R39, R45). -/
def State.finishingOp (s : State) : Option Op := s.basin.finishing.bind (fun x => s.op x.1 x.2)

/-- The op whose repeats are due: the preceding one while its are, else the running one (01 R39, 02 R64). -/
def State.passOp (s : State) : Option Op :=
  match s.finishingOp with
  | some o => if (o.mvm.map (·.stopIssue)).getD false then some o else s.runningOp
  | none => s.runningOp

/-- The op whose first attempts are issued: the preceding one until its last pass, then the running one (01 R39, R45). -/
def State.issueOp (s : State) : Option Op :=
  match s.finishingOp with
  | some o => if (o.mvm.map (fun m => decide (m.next < m.bits))).getD false then some o else s.runningOp
  | none => s.runningOp

/-- The ops that the Basin has accepted and that have not contributed, the preceding one first (01 R45). -/
def State.basinOps (s : State) : List Op := [s.finishingOp, s.runningOp].filterMap id

/-- An op has issued a pass since it took the Basin: its rate is fixed then (01 R23). -/
def Op.passed (o : Op) : Bool := (o.mvm.map (fun m => decide (m.rate ≠ 0))).getD false

/-- The ops whose tiles are lit: from the first pass to the contribution of the last (01 R40). -/
def State.litOps (s : State) : List Op := s.basinOps.filter Op.passed

/-- The preempted MVM or MVG. -/
def State.preemptedOp (s : State) : Option Op := s.basin.preempted.bind (fun x => s.op x.1 x.2)

/-- Whether an op lights a tile. -/
def State.lights (s : State) (o : Op) (tile : Nat) : Bool := (s.opRegions o).any (fun r => r.has tile)

/-- A tile becomes unusable (17 R560); an op that lights it completes with BASIN_FAULT (17 R561). inService: counted as a
second fault. -/
def State.makeUnusable (s : State) (tile : Nat) (inService : Bool) : State :=
  if (s.tile tile).unusable then s
  else
    let s := s.modTile tile (fun t => { t with unusable := true, suspended := none })
    let s := { s with cal := { s.cal with unusable := satAdd 16 s.cal.unusable 1 } }
    let s := if inService then s.count 0x36 else s
    let s := s.condition 0x010A 2 (field 0 15 tile)
    ([s.basin.finishing, s.basin.running, s.basin.preempted].filterMap id).foldl (fun s x =>
      match s.op x.1 x.2 with
      | some o => if s.lights o tile then s.failRun o 0x13 (basinDetail 0x010A tile) else s
      | none => s) s

/-- A logical column is from now on served by the spare for good: the counts of 08 R329. -/
def State.countRetired (s : State) (tile : Nat) : State :=
  let s := { s with cal := { s.cal with columnsRetired := satAdd 32 s.cal.columnsRetired 1, tilesReduced := satAdd 16 s.cal.tilesReduced 1 } }
  match s.regionOfTile tile with
  | some i => s.modRegion i (fun r => { r with retiredColumns := satAdd 16 r.retiredColumns 1 })
  | none => s

/-- A physical column is retired (08 R329, 07 R295, 08 R322): the event names the tile. A spare that serves its logical
column keeps it for good; a retired spare is counted as lost; a tile suspended for a second column becomes unusable (17
R558). -/
def State.retireColumn (s : State) (tile p : Nat) : State :=
  let t := s.tile tile
  let s := (s.modCol tile p (fun c => { c with retired := true, loop := .opened })).modCluster (tile / 256) (fun x => { x with lastAct := s.time })
  let s := s.modTile tile (fun t => { t with
    retired := some p, awaiting := t.awaiting.filter (· ≠ p), warned := t.warned.filter (· ≠ p)
    calib := if (t.calib.map (·.p)) = some p then none else t.calib
    recovs := t.recovs.filter (· ≠ p)
    relieved := if t.relieved = some p then none else t.relieved
    why := if t.serves.isSome ∧ t.serves = some p then .retired else t.why })
  let s := s.condition 0x0109 1 (field 0 15 tile + field 15 6 p)
  if p = 32 then
    let s := { s with cal := { s.cal with sparesLost := satAdd 16 s.cal.sparesLost 1 } }
    if t.suspended.isSome ∧ t.suspended ≠ some 32 then s.makeUnusable tile true else s
  else if t.serves = some p then
    let s := s.countRetired tile
    if t.suspended.isSome then s.makeUnusable tile true else s
  else s

/-- Column p of a tile leaves service, entering the recovery procedure or with a heater fault (07 R290, R291, R296, 08
R322, 17 R558, R560). -/
def State.columnOut (s : State) (tile p : Nat) (why : SpareUse) : State :=
  let t := s.tile tile
  if (t.why = .retired ∧ t.serves.isSome) ∨ (t.retired = some 32 ∧ p ≠ 32) then s.makeUnusable tile true
  else if ((t.why = .relieved ∨ t.why = .recovery) ∧ t.serves.isSome ∧ t.serves ≠ some p) ∨ (32 ∈ t.recovs ∧ p ≠ 32 ∧ t.serves ≠ some p) then
    if t.suspended.isSome then s
    else ((s.modTile tile (fun t => { t with suspended := some p })).count 0x36).condition 0x010B 1 (field 0 15 tile)
  else if p = 32 then s.carouselBack tile
  else if t.serves = some p then
    (if t.why = .carousel then (s.abandonCalib tile).modTile tile (fun t => { t with
      why := why, calib := none, pendingMap := t.pendingMap.filter (fun m => m.col.isSome) }) else s)
  else s.spareTakes tile p why

/-! ### Pass boundaries (01 R13, R20) -/

/-- The copy that a tile's first map change waits for is complete (01 R13): the spare holds the column's digits, or a column to be
mapped back has been rewritten. -/
def State.mapReady (s : State) (tile : Nat) : Bool :=
  let t := s.tile tile
  match t.pendingMap with
  | [] => false
  | m :: _ =>
    match m.col, t.serves with
    | some k, _ => decide (t.loading = some k) && !s.copying tile 32
    | none, some k => !s.copying tile k
    | none, none => true

/-- A map change is due in some tile: at a pass boundary it comes before a pause and a preemption (01 R13, R20). -/
def State.mapsDue (s : State) : Bool := s.tiles.any (fun e => s.mapReady e.1)

/-- The first map change that waits in a tile takes effect (01 R13): a takeover is counted (17 R556), a spare mapped back
is written with digit 0 unless a second column waits for it (08 Converters table 9, 07 R293, 17 R558). -/
def State.applyMap (s : State) (tile : Nat) : State :=
  let t := s.tile tile
  match t.pendingMap with
  | [] => s
  | m :: rest =>
    if ¬ s.mapReady tile then s
    else
    let s := s.modTile tile (fun t => { t with
      pendingMap := rest, serves := m.col, why := if m.col.isNone then .idle else m.why, loading := none
      calib := if m.col.isNone ∧ (t.calib.map (·.ended)) = some true then none else t.calib })
    match m.col with
    | some k =>
      let s := match m.why with
        | .relieved => (s.count 0x0A).modTile tile (fun t => { t with
            relieved := some k, awaiting := if k ∈ t.awaiting then t.awaiting else t.awaiting ++ [k] })
        | .recovery => (s.count 0x0A).condition 0x010F 0 (field 0 15 tile + field 15 5 k + field 20 2 1)
        | .retired => ((s.count 0x0A).countRetired tile).condition 0x010F 0 (field 0 15 tile + field 15 5 k + field 20 2 2)
        | _ => s
      let s := s.modTile tile (fun t => { t with suspended := if t.suspended = some k then none else t.suspended })
      s.loadSpare tile
    | none =>
      match t.suspended with
      | some 32 => s.modTile tile (fun t => { t with suspended := none })
      | some k => s.queueMap tile [{ col := some k, why := if (s.col tile k).retired then .retired else .recovery }]
      | none => (if rest = [] then s.fillColumn tile 32 0 else s).loadSpare tile

end Sys2Proof.Machine
end

