-- ==== Sys2Proof/Machine/Passes.lean ====
section
/-! DEFINITION. Op start, passes, ambiguous integers and their repeats, the contribution, drains, preemption (01 R16 to R25,
R39 to R45, 02 R50 to R70, 03 R84 to R98, 05 R182 to R192, 15 R527, R529). -/

namespace Sys2Proof.Machine

/-! ### The throttle ladder's caps (15 R527, Power table 5) -/

/-- The ladder level, 5000:04 (15 R527): the highest of the power level, the thermal level, L3 while VR_ALERT_N applies,
and pwr.ladder_min. -/
def State.ladderLevel (s : State) : Nat :=
  let va := if s.pwr.vrAlert || (s.pwr.vrAlertHold.map (fun t => decide (s.time < t))).getD false then 3 else 0
  max (max s.pwr.levelPower s.pwr.levelThermal) (max va (s.obj 0x5000 0x07))

/-- Pass rate cap of a ladder level in Hz (15 Power table 5). -/
def rateCap (l : Nat) : Nat := match l with
  | 0 => 250000000 | 1 => 200000000 | 2 => 200000000 | 3 => 150000000 | 4 => 100000000 | _ => 50000000

/-- Lit-tile cap of a ladder level (15 Power table 5). -/
def tileCap (l : Nat) : Nat := match l with
  | 0 => 25088 | 1 => 25088 | 2 => 18816 | 3 => 12544 | 4 => 6272 | _ => 3136

/-- The peak tile limit (01 R21). -/
def peakTileLimit : Nat := 15052

/-- The lit tile count of an op (01, after R20). -/
def State.litTiles (s : State) (o : Op) : Nat := ((s.opRegions o).map Region.tileCount).sum

/-- The pass rate of an op that lights n tiles (01 R22). -/
def State.passRateFor (s : State) (n : Nat) : Nat :=
  min (min (s.obj 0x1000 2) (rateCap s.ladderLevel)) (if n ≤ peakTileLimit then 250000000 else 200000000)

/-- Idle slots after each pass but the last of an op that lights n tiles (15 R529). -/
def State.idleAfter (s : State) (n : Nat) : Nat := cdiv n (tileCap s.ladderLevel) - 1

/-! ### Op start (01 R31 to R33, R40, 02 R53, 03 R94, 04 R142, R150, 05 R192, R201) -/

/-- Header and elements of an input vector for T tiers: exponent, bits and elements; none where R53 refuses it. -/
def parseInput (t : Nat) (bs : List Byte) : Option (Int × Nat × List Int) :=
  let h := leAt bs 0 64
  if !hClean h || decide (4 ≤ hFormat h) || decide (hCount h ≠ 64 * t) then none
  else some (hExp h, aBits (hFormat h), (List.range (64 * t)).map (aElem (hFormat h) (bs.drop 64)))

/-- The whole input vector of an op, when it is in the row modulator feed (05 Ops table 8, 06 Streams table 10). -/
def State.feed (s : State) (o : Op) : Option (List Byte) :=
  match (s.ctx (dInStream o.desc)).run with
  | some run => if dInStream o.desc ∈ o.armed ∧ run.need ≤ run.done then some run.data else none
  | none => none

/-- Whether a cluster is awake and its rings are in place (04 R162, R164, 15 R522). -/
def ClusterSt.awake (c : ClusterSt) : Bool := !c.asleep && c.waking.isNone && !c.needRewrite && !c.inReset

/-- The tiles of an op that a predicate holds of, among those whose state is not that of reset, lowest first. -/
def State.litTilesWith (s : State) (o : Op) (p : TileSt → Bool) : List Nat :=
  (s.tiles.filter (fun e => p e.2 && s.lights o e.1)).map (·.1)

/-- What op start finds. -/
inductive Verdict where
  | wait
  | err (status detail : Nat)
  | go (set : Nat)
deriving DecidableEq, Repr

/-- The set that an op takes at op start (03 R94, 05 R201, Ops table 9). -/
def State.pickSet (s : State) (o : Op) : Verdict :=
  let acc := dAccumulate o.desc
  let named := fun k =>
    let x := s.set k
    if x.st = .filling ∨ x.st = .draining then Verdict.wait
    else if acc ∧ x.st ≠ .held then .err 0x05 (dSet o.desc)
    else if x.openTo o.epoch then .go k
    else if x.owner.isSome then .wait
    else .err 0x09 (dEpoch o.desc)
  if dSet o.desc = 2 then
    if acc then .err 0x05 2
    else if s.set0.st = .free then .go 0
    else if s.set1.st = .free then .go 1
    else .wait
  else named (dSet o.desc)

/-- A cluster holds an op at op start: it sleeps, wakes, is reset or waits for its rings (04 R162, R164), its loops are stopped
(07 R284), or a capture runs on, or waits for, a converter pair of a tile that the op lights (08 R317). -/
def State.clusterHolds (s : State) (o : Op) (c : Nat) : Bool :=
  !(s.cluster c).awake || !(s.cluster c).loopsOn
    || (match (s.cluster c).capture with
      | some q => q.started && (List.range 256).any (fun j => decide (bits q.req 7 3 = j / 32) && s.lights o (256 * c + j))
      | none => false)

/-- What an MVM or MVG that is ready and holds its streams finds at op start, the checks in order: regions, region states,
unusable and suspended tiles, clusters, the input vector, the output control block, the set. -/
def State.atStart (s : State) (o : Op) : Verdict :=
  match s.regionFault o with
  | some r => .err 0x04 r
  | none =>
    match (dRegions o.desc).find? (fun r => decide ((s.region r).st = .empty) || decide ((s.region r).st = .failed)) with
    | some r => .err 0x04 r
    | none =>
      if o.armed = [] then .wait
      else if (s.opRegions o).any (fun r => decide (r.st = .loading)) then .wait
      else match s.litTilesWith o (·.unusable) with
        | t :: _ => .err 0x13 (basinDetail 0x010A t)
        | [] =>
          match s.feed o with
          | none => .wait
          | some bs =>
            match parseInput ((s.opRegions o).headD {}).T bs with
            | none => .err 0x02 (dInStream o.desc)
            | some _ =>
              match o.planErr with
              | some (st, det) => .err st det
              | none =>
                if ¬ (s.litTilesWith o (·.suspended.isSome)).isEmpty then .wait
                else if ((s.opRegions o).flatMap Region.clusterList).any (fun c => s.clusterHolds o c) then .wait
                else s.pickSet o

/-- An MVM or MVG that has not started and is ready. -/
def Op.waitsStart (o : Op) : Bool := o.kind.passes && decide (o.stage = .admitted) && o.ready

/-- An op could reach op start at once with a set other than a given one (05 R182). -/
def State.couldStart (s : State) (o : Op) (notSet : Option Nat) : Bool :=
  o.waitsStart && s.canSchedule &&
    match s.atStart o with
    | .go k => decide (notSet ≠ some k)
    | _ => false

/-- The preempted op could resume now: its save area is written, and its regions, tiles and clusters are as op start asks (04 R142, 05
R182, R185, R186). Its vector may still be on its way: a resumed op that has not read it counts as stalled (05 R187, 06 Streams table
10). -/
def State.couldResume (s : State) (o : Op) : Bool :=
  (o.mvm.map (·.saved)).getD false
    && (s.opRegions o).all (fun r => r.refreshedSt)
    && (s.litTilesWith o (fun t => t.suspended.isSome || t.unusable)).isEmpty
    && ((s.opRegions o).flatMap Region.clusterList).all (fun c => !s.clusterHolds o c)

/-- The mark of a region for an op, fixed at op start (04 R150): the committed mark and the completed appends, but those
that follow the op in its own queue. -/
def State.markFor (s : State) (o : Op) (i : Nat) : Nat :=
  let r := s.region i
  r.hwmP - (r.kapLog.filter (fun k => decide (k.queue = o.queue) && decide (o.seq < k.seq))).length

/-- The pass registers of the outputs of an op are zero (03 R86). -/
def State.zeroOutputs (s : State) (o : Op) (k : Nat) : State :=
  (s.elements o).foldl (fun s i => s.modAcc k i (fun a => { a with pass := 0 })) s

/-- The 64 tile images of a save area are written into a set (05 R192). -/
def State.restoreSet (s : State) (k : Nat) (area : List Byte) : State :=
  (List.range 64).foldl (fun s i => s.writeTile (64 * k + i) ((area.drop (2048 + 2048 * i)).take 2048)) s

/-- The repeats that a save area records (05 Ops table 10). -/
def savedRepeats (area : List Byte) : List RepeatCol :=
  ((bitList 16 (leAt area 4 2)).zipIdx.filter (fun x => decide (x.2 < 3))).map (fun x =>
    { pass := x.1, cols := bitList 4096 (leAt area (128 + 512 * x.2) 512) })

/-- The rate of an op's next pass (01 R22 to R24): fixed at its first pass, lowered by a lower cap. -/
def State.rateNow (s : State) (o : Op) (m : MvmRun) : Nat :=
  if m.rate = 0 then s.passRateFor (s.litTiles o) else min m.rate (rateCap s.ladderLevel)

/-- Length of a pass slot at a rate in Hz, in picoseconds. -/
def slotPs (rate : Nat) : Nat := cdiv 1000000000000 rate

/-- From the end of the slot in progress to the slot that the first pass of op b can take, in picoseconds: the passes that op a has
still to issue, with the idle slots between them, and the idle slot of a change of rate (01 R25, R45, 15 R529). -/
def State.untilFirstPass (s : State) (a : Op) (m : MvmRun) (b : Op) : Nat :=
  let ra := s.rateNow a m
  let rb := s.passRateFor (s.litTiles b)
  let n := m.bits - m.next
  (n + (n - 1) * s.idleAfter (s.litTiles a)) * slotPs ra + (if ra = rb then 0 else slotPs (min ra rb))

/-- The Basin can accept an op: it runs none; or the op before that has contributed, nothing of the one it runs waits for a repeat,
and its last pass has been issued or the new op's first pass can follow within 12 ns (01 R39, R45). -/
def State.basinFree (s : State) (o : Op) : Bool :=
  match s.runningOp with
  | none => s.basin.running.isNone
  | some a => s.basin.finishing.isNone && (a.mvm.map (fun m =>
      (decide (m.bits ≤ m.next) || decide (s.untilFirstPass a m o ≤ 12000)) && !m.stopIssue && !m.reread)).getD false

/-- The Basin goes to an op; the one that ran, if any, finishes (01 R45). -/
def State.giveBasin (s : State) (x : Nat × Nat) : State :=
  { s with basin := { s.basin with
      running := some x, finishing := if s.basin.running.isSome then s.basin.running else s.basin.finishing, stalledAt := none } }

/-- Op start: the op takes its set and the Basin, and the loop engines of its clusters hear of it (01 R31, 03 R86, R88, R94,
04 R150, 05 R192, R201, 07 R276). -/
def State.takeBasin (s : State) (o : Op) (k : Nat) (exp : Int) (b : Nat) (xs : List Int) : State :=
  let resume := dResume o.desc
  let s := if resume then s.restoreSet k o.bytes
    else (if dAccumulate o.desc then s else s.clearSet k (dBaseExp o.desc)).zeroOutputs o k
  let s := s.modSet k (fun x => { st := .filling, owner := if dAccumulate o.desc then x.owner else o.epoch })
  let reps := if resume then savedRepeats o.bytes else []
  let run : MvmRun :=
    { set := k, inputs := xs, exp := exp, bits := b, regions := dRegions o.desc
      marks := (dRegions o.desc).map (s.markFor o)
      next := if resume then leAt o.bytes 2 1 % 32 else 0
      repeats := reps, stopIssue := decide (reps ≠ []) }
  let s := ((s.opRegions o).flatMap Region.clusterList).foldl (fun s c =>
    s.modCluster c (fun x => { x with announced := true, lastAct := s.time })) s
  (s.giveBasin (o.queue, o.seq)).modOp o.queue o.seq
    (fun x => { x with stage := .started, mvm := some run, set := some k, bytes := [] })

/-- The op to which the Basin goes: the first, in the order of R181, of those that could reach op start; a preempted op
that could resume comes ahead of its own queue and of higher ones (05 R181, R186). -/
def State.nextToStart (s : State) : Option Op :=
  match firstOp (s.ops.filter (fun o => s.couldStart o none)), s.preemptedOp with
  | some o, some p => if s.couldResume p ∧ p.queue ≤ o.queue then none else some o
  | r, _ => r

/-- The MVM or MVG of a slot reaches op start: it completes with the status of a check that fails, or takes the Basin when
this is free and no other op comes first; an op that waits for a set is counted once (05 R173, R174, 1400:05). -/
def State.opStart (s : State) (q slot : Nat) : State :=
  match s.slotOp q slot with
  | none => s
  | some o =>
    if ¬ o.waitsStart ∨ ¬ s.canSchedule then s
    else match s.atStart o with
      | .err st det => (s.complete q o.seq st det).settle
      | .wait =>
        if o.waited ∨ s.pickSet o ≠ .wait then s
        else { s with drainWaits := satAdd 32 s.drainWaits 1 }.modOp q o.seq (fun x => { x with waited := true })
      | .go k =>
        if ¬ s.basinFree o ∨ (s.nextToStart.map (fun x => (x.queue, x.seq))) ≠ some (o.queue, o.seq) then s
        else match (s.feed o).bind (parseInput ((s.opRegions o).headD {}).T) with
          | some (e, b, xs) => s.takeBasin o k e b xs
          | none => s

/-! ### One pass (01 R14 to R16, 02 R50 to R60, R65, R66, 03 R84 to R86, 04 R148, R149, 07 R289) -/

/-- Whether row i of an op is on in pass p: the bit of the plane, unless a value region of the op masks the row (01 R16,
04 R148, R149). -/
def State.rowOn (s : State) (m : MvmRun) (p i : Nat) : Bool :=
  (toU m.bits (m.inputs.getD i 0)).testBit p
    && !((m.regions.zip m.marks).any (fun x => decide ((s.region x.1).kind = 2) && decide (x.2 ≤ i)))

/-- The exact sum of the 64 products of a physical column of a tile (02 R55, R60), with the rows that are on. -/
def State.columnSum (s : State) (tile p : Nat) (high : Bool) (on : Nat → Bool) : Int :=
  ((List.range 64).map (fun l => if on l then digitVal high (s.ring tile p l) else 0)).sum

/-- One converted integer: its tile, logical and physical column, Basin digit column, value and class. -/
structure Conv where
  tile : Nat
  k : Nat
  p : Nat
  d : Nat
  n : Int
  cls : Residual
deriving DecidableEq, Repr

/-- Whether region digit column j of a key region is masked at a mark (04 R148). -/
def Region.maskedCol (r : Region) (mark j : Nat) : Bool :=
  decide (r.kind = 1) && (match r.outputOf j with
    | some o => decide (mark ≤ o)
    | none => false)

/-- What a column delivers for a converter code, given the exact sum of its 64 products: the class of the code's residual; in the clean
and warn classes the sum itself (02 R60), so that a code which R60 rules out counts for its residual alone (DESIGN CHOICE, log 91); in
the ambiguous class the integer of the reading, clamped (02 R57 to R59). -/
def delivered (high : Bool) (sum c : Int) : Int × Residual :=
  match convert high c with
  | (n, .ambiguous) => (n, .ambiguous)
  | (_, cls) => (sum, cls)

/-- The integer of logical column k of a lit tile in pass p: the reading where one is given, the nominal code otherwise
(02 R57 to R60); a column whose pilot comparator flags is ambiguous (07 R289). -/
def State.convOne (s : State) (m : MvmRun) (r : Region) (pass : Nat) (rd : List Reading) (tile k : Nat) : Conv :=
  let p := (s.tile tile).phys k
  let j := r.colOf (tile % 128) k
  let h := r.high j
  let sum := s.columnSum tile p h (fun l => s.rowOn m pass (64 * (tile / 128 - r.tFirst) + l))
  let c : Int := match rd.find? (fun x => decide (x.tile.val = tile) && decide (x.col.val = p)) with
    | some x => (x.code.val : Int)
    | none => nominal h sum
  let (n, cls) := delivered h sum c
  { tile := tile, k := k, p := p, d := 32 * (tile % 128) + k, n := n
    cls := if (tile, p) ∈ s.basin.flagged then .ambiguous else cls }

/-- Every integer that enters the chain in pass p of an op; masked key positions enter as 0 and are left out (04 R148). -/
def State.convs (s : State) (m : MvmRun) (pass : Nat) (rd : List Reading) : List Conv :=
  (m.regions.zip m.marks).flatMap (fun x =>
    let r := s.region x.1
    r.tileList.flatMap (fun tile =>
      ((List.range 32).filter (fun k => !r.maskedCol x.2 (r.colOf (tile % 128) k))).map (s.convOne m r pass rd tile)))

/-- The chain sum of a Basin digit column (02 R56, 03 R84). -/
def chainSum (cs : List Conv) (d : Nat) : Int := ((cs.filter (fun c => decide (c.d = d))).map (·.n)).sum

/-- The digit columns that carry an ambiguous mark (03 R84). -/
def ambiguousCols (cs : List Conv) : List Nat := ((cs.filter (fun c => decide (c.cls = .ambiguous))).map (·.d)).dedup

/-- The weight of a plane of b (02 R51). -/
def planeWeight (b p : Nat) : Int := if p + 1 = b then -(2 ^ p : Nat) else (2 ^ p : Nat)

/-- The partials of a pass are added into the pass registers, from the digit columns that take gives (03 R86, 02 R65). -/
def State.addPartials (s : State) (m : MvmRun) (pass : Nat) (cs : List Conv) (take : Nat → Bool) : State :=
  m.regions.foldl (fun s i =>
    let r := s.region i
    (List.range r.outputs).foldl (fun s o =>
      let v : Int := ((List.range r.digits).map (fun q =>
        let d := r.accOf o + q
        if take d then (16 ^ (r.digits - 1 - q) : Nat) * chainSum cs d else 0)).sum
      if v = 0 then s else s.modAcc m.set (r.accOf o) (fun a => { a with pass := a.pass + planeWeight m.bits pass * v })) s) s

/-- Warn-class integers are counted and their columns marked (02 R61). -/
def State.noteWarns (s : State) (cs : List Conv) : State :=
  (cs.filter (fun c => decide (c.cls = .warn))).foldl (fun s c =>
    (s.count 0x00).modTile c.tile (fun t => { t with warned := if c.p ∈ t.warned then t.warned else t.warned ++ [c.p] })) s

/-- The ambiguous integers of a pass, as they await their tiles' actions. -/
def ambigsOf (pass : Nat) (cs : List Conv) : List Ambig :=
  (cs.filter (fun c => decide (c.cls = .ambiguous))).map (fun c =>
    { pass := pass, d := c.d, tier := c.tile / 128, group := c.tile % 128, col := c.k })

/-- Update of the running op's record. -/
def State.modRun (s : State) (o : Op) (f : MvmRun → MvmRun) : State :=
  s.modOp o.queue o.seq (fun x => { x with mvm := x.mvm.map f })

/-- Ambiguous integers of first attempts whose tiles have not yet acted. -/
def MvmRun.freshFirst (m : MvmRun) : List Ambig := m.fresh.filter (fun a => m.repeats.any (fun r => decide (r.pass = a.pass)))

/-- A tile's map change holds the passes that light it: one that is due, since it takes effect at this boundary (01 R13, R20), or a
takeover of a failed column, whose copy is not complete (07 R291, 08 R322). The slot in which a comparator's flag makes the column's
integer ambiguous passes all the same, and from there on the rules of ambiguous integers hold the issue (02 R62, 07 R289, R291). -/
def State.mapHolds (s : State) (tile : Nat) : Bool :=
  !(s.basin.flagged.any (fun f => decide (f.1 = tile)))
    && (s.mapReady tile || ((s.tile tile).pendingMap.any (fun m => decide (m.why = .recovery) || decide (m.why = .retired))
      && !s.basinOps.any (fun o => (o.mvm.map (fun m => m.fresh.any (fun a => decide (128 * a.tier + a.group = tile)))).getD false)))

/-- The first pass of an op waits for the check slots that the Basin inserts before it in one of the op's tiers (07 R294). -/
def State.checkHolds (s : State) (o : Op) : Bool :=
  !o.passed && s.cal.checks.any (fun k => k.forced && (s.opRegions o).any (fun r => decide (r.tFirst ≤ k.tile / 128) && decide (k.tile / 128 ≤ r.tLast)))

/-- The Basin may issue a pass that lights these tiles now: no thermal pause, no suspended tile, no converter whose entries
are still to be dealt, no map change that comes first, and no check slots (07 R291, R294, R298, 08 R316, R322, 17 R558, R562). -/
def State.mayIssue (s : State) (o : Op) : Bool :=
  decide (s.basin.state = .running) && !s.checkHolds o
    && ((s.opRegions o).flatMap Region.clusterList).all (fun c => (s.cluster c).failing.all (fun f =>
      !decide (s.updateNow c ≤ f.2) || !(List.range 16).any (fun j => s.lights o (256 * c + 16 * f.1 + j))))
    && (s.litTilesWith o (fun t => t.suspended.isSome)).isEmpty
    && (s.tiles.filter (fun e => s.lights o e.1)).all (fun e => !s.mapHolds e.1)

/-- Passes issued after pass p of an op (02 R62), those of a following op counted. -/
def State.issuedAfter (s : State) (o : Op) (m : MvmRun) (p : Nat) : Nat :=
  m.next - 1 - p + (if s.basin.finishing = some (o.queue, o.seq) then (((s.runningOp.bind (·.mvm)).map (·.next)).getD 0) else 0)

/-- An ambiguous integer of an op holds the issue of first attempts: it waits for repeats, or two passes have been issued
since the pass of an integer whose conversion is not complete (02 R62). -/
def State.holdsIssue (s : State) (o : Op) (m : MvmRun) : Bool :=
  m.stopIssue || m.freshFirst.any (fun a => decide (2 ≤ s.issuedAfter o m a.pass))

/-- The preceding op holds the issue of the running op's passes (02 R62). -/
def State.heldByFinishing (s : State) : Bool :=
  match s.finishingOp with
  | some o => (o.mvm.map (s.holdsIssue o)).getD false
  | none => false

/-- A pass slot passes: the rate, the idle slots of R25 and R529, and the activity of the lit tiles' clusters (07 R276). -/
def State.takeSlot (s : State) (o : Op) (m : MvmRun) (last : Bool) : State :=
  let rate := s.rateNow o m
  let idle := (if s.basin.lastRate ≠ 0 ∧ s.basin.lastRate ≠ rate ∧ s.basin.lastOp ≠ some (o.queue, o.seq) then 1 else 0)
    + (if last then 0 else s.idleAfter (s.litTiles o))
  let s := { s with basin := { s.basin with passRate := rate, lastRate := rate, lastOp := some (o.queue, o.seq), slot := s.basin.slot + 1 + idle
                                            idleSlots := s.basin.idleSlots + idle, flagged := [] } }
  let s := s.modRun o (fun m => { m with rate := rate })
  let s := s.flt.starts.foldl (fun s f =>
    if (f.1 = 0x0110 ∨ f.1 = 0x0108) ∧ s.lights o f.2.1 ∧ (s.tile f.2.1).pendingMap = [] then s.endFault f.1 f.2.1 else s) s
  (s.opRegions o).foldl (fun s r => r.tileList.foldl (fun s t => s.modTileLoop t (fun l => { l with activity := l.activity + 1 })) s) s

/-- The next first attempt of the op whose passes are due (01 R39, 02 R50, R62); each ambiguous integer is counted (02, after R68). -/
def State.pass (s : State) (rd : List Reading) : State :=
  match s.issueOp with
  | none => s
  | some o =>
    match o.mvm with
    | none => s
    | some m =>
      if m.reread ∨ m.bits ≤ m.next ∨ ¬ s.mayIssue o ∨ s.holdsIssue o m ∨ s.heldByFinishing then s
      else
        let cs := s.convs m m.next rd
        let amb := ambiguousCols cs
        let s := (s.noteWarns cs).count 0x01 (ambigsOf m.next cs).length
        let s := s.addPartials m m.next cs (fun d => decide (d ∉ amb))
        let s := s.takeSlot o m (decide (m.next + 1 = m.bits))
        s.modRun o (fun x => { x with
          next := m.next + 1
          fresh := x.fresh ++ ambigsOf m.next cs
          firstAmb := x.firstAmb ++ ambigsOf m.next cs
          repeats := if amb = [] then x.repeats else x.repeats ++ [{ pass := m.next, cols := amb }] })

/-! ### Ambiguous integers and repeats (02 R62 to R68) -/

/-- The op of the next ambiguous integers of a tile: a preempted op's conversions end first, then the preceding op's (01 R39, 05
R184). -/
def State.ambiguousOp (s : State) (tile : Nat) : Option Op :=
  (s.preemptedOp.toList ++ s.basinOps).find? (fun o => (o.mvm.map (fun m => m.fresh.any (fun a => decide (128 * a.tier + a.group = tile)))).getD false)

/-- The conversion of the ambiguous integers of a tile, of the earliest pass that has any, completes: issue stops for a
first attempt, and the tile acts as Arithmetic table 7 sets out for the lowest of its columns (02 R62, R63, R66). -/
def State.ambiguous (s : State) (tile : Nat) : State :=
  match s.ambiguousOp tile with
  | none => s
  | some o =>
    match o.mvm with
    | none => s
    | some m =>
      match m.fresh.filter (fun a => decide (128 * a.tier + a.group = tile)) with
      | [] => s
      | a :: rest =>
        let same := a :: rest.filter (fun b => decide (b.pass = a.pass))
        let first := m.repeats.any (fun r => decide (r.pass = a.pass))
        let k := same.foldl (fun k b => min k b.col) a.col
        let s := if first ∧ ¬ m.stopIssue then s.startFault 0x010F 0 else s
        let s := s.modRun o (fun x => { x with
          fresh := x.fresh.filter (fun b => decide (b ∉ same)), stopIssue := x.stopIssue || first })
        s.spareTakes tile k .relieved

/-- The lowest pass that awaits its repeat. -/
def MvmRun.lowestRepeat (m : MvmRun) : Option RepeatCol :=
  match m.repeats with
  | [] => none
  | r :: rs => some (rs.foldl (fun b x => if x.pass < b.pass then x else b) r)

/-- The lowest pass that awaits its repeat is repeated once the tile actions are complete (02 R64 to R66); the repeats of a
preceding op come before the running op's passes (01 R39, 02 R64). Every ambiguous integer is counted (02, after R68). The tile acts
for one of a column that awaited the repeat; for one of another column, whose repeat is discarded (R65), the spec names no action and
the tile takes none (DESIGN CHOICE, log 92). The repeat ends the interruption of a column failure (17 R555). -/
def State.passRepeat (s : State) (rd : List Reading) : State :=
  match s.passOp with
  | none => s
  | some o =>
    match o.mvm with
    | none => s
    | some m =>
      match m.lowestRepeat with
      | none => s
      | some r =>
        if m.reread ∨ ¬ m.stopIssue ∨ m.freshFirst ≠ [] ∨ ¬ s.mayIssue o
            ∨ ¬ (s.litTilesWith o (fun t => t.pendingMap.any (fun m => decide (m.why ≠ .carousel)))).isEmpty then s
        else
          let cs := s.convs m r.pass rd
          let amb := (ambiguousCols cs).filter (fun d => decide (d ∈ r.cols))
          let fresh := (ambigsOf r.pass cs).filter (fun a => decide (a.d ∈ r.cols))
          let s := match s.flt.starts.find? (fun f => decide (f.1 = 0x010F)), m.firstAmb.find? (fun a => decide (a.pass = r.pass)) with
            | some _, some a => (s.endFault 0x010F 0).condition 0x010F 0 (field 0 15 (128 * a.tier + a.group) + field 15 5 a.col)
            | _, _ => s
          let s := (s.noteWarns cs).count 0x01 (ambigsOf r.pass cs).length
          let s := s.addPartials m r.pass cs (fun d => decide (d ∈ r.cols))
          let s := s.takeSlot o m (decide (m.next = m.bits) && decide (m.repeats.length = 1))
          let s := (s.count 0x02).modOp o.queue o.seq (fun x => x.flag flagRepeated)
          s.modRun o (fun x => { x with
            repeats := x.repeats.filter (fun y => decide (y.pass ≠ r.pass))
            stopIssue := decide (x.repeats.length ≠ 1)
            poisonCols := (x.poisonCols ++ amb).dedup
            fresh := x.fresh ++ fresh
            firstAmb := x.firstAmb ++ fresh })

/-! ### The contribution and the drain (03 R87, R90, R96, R97, R101 to R119) -/

/-- The outputs of a region whose digit columns are poisoned, as accumulators (02 R67). -/
def Region.poisonedAccs (r : Region) (cols : List Nat) : List Nat :=
  ((List.range r.outputs).filter (fun o => (List.range r.digits).any (fun q => decide (r.accOf o + q ∈ cols)))).map r.accOf

/-- The accumulators of an op's poisoned outputs. -/
def State.poisonedAccs (s : State) (o : Op) (m : MvmRun) : List Nat := (s.opRegions o).flatMap (·.poisonedAccs m.poisonCols)

/-- Where the first ambiguous integer of the lowest poisoned digit column lies (02 R67). -/
def MvmRun.poisonLoc (m : MvmRun) : Nat × Nat × Nat :=
  let d := m.poisonCols.foldl min (m.poisonCols.headD 0)
  match m.firstAmb.find? (fun a => decide (a.d = d)) with
  | some a => (a.tier, a.group, a.col)
  | none => (0, 0, 0)

/-- The op whose contribution comes next: the preceding op's partials reach the foot before the running op's. -/
def State.contribOp (s : State) : Option Op := s.basinOps.head?

/-- An op's last pass has been taken: every output gets its contribution, in one cycle, and the set leaves
Filling (03 R87, R90, R96, R97); a column poisoned is told in the record (02 R67). -/
def State.contribute (s : State) : State :=
  match s.contribOp with
  | none => s
  | some o =>
    match o.mvm with
    | none => s
    | some m =>
      if m.next < m.bits ∨ m.repeats ≠ [] ∨ m.fresh ≠ [] then s
      else
        let bad := s.poisonedAccs o m
        let s := (s.elements o).foldl (fun s i => s.modAcc m.set i (fun a =>
          let a := a.add a.pass m.exp
          { a with pass := 0, poison := a.poison || decide (i ∈ bad) })) s
        let s := s.count 0x03 bad.length
        let s := s.modOp o.queue o.seq (fun x =>
          let x := { x with mvm := some { m with fresh := [] } }
          if bad = [] then x else { (x.flag flagPoisoned) with poisoned := min bad.length 65535, pLoc := m.poisonLoc })
        let s := { s with basin := { s.basin with
          finishing := if s.basin.finishing = some (o.queue, o.seq) then none else s.basin.finishing
          running := if s.basin.running = some (o.queue, o.seq) then none else s.basin.running } }
        if dDrainMode o.desc = 2 then ((s.toSet m.set .held).complete o.queue o.seq 0 0).settle
        else
          { (s.modSet m.set (fun x => { x with st := .draining })) with drainOrder := s.drainOrder ++ [(o.queue, o.seq)] }.modOp
            o.queue o.seq (fun x => { x with stage := .draining })

/-- The context that an op drains through. -/
def Op.drainCtx (o : Op) : Nat := if o.kind = .nrm then dNrmStream o.desc else dDrainStream o.desc

/-- The fused output stage, when free, begins the set that entered Draining first: every element is converted and handed
to the op's stream (03 R97, R101 to R110). -/
def State.drainStart (s : State) : State :=
  if s.drainBusy then s
  else match s.drainOrder.head? with
    | none => s
    | some (q, n) =>
      match s.op q n with
      | none => s
      | some o =>
        match o.set with
        | none => s
        | some k =>
          let d := s.drained o k
          let s := ((s.count 0x06 d.clamped).count 0x04 d.inexact).count 0x05 d.overrange
          let pois := (d.poison.filter id).length
          let s := s.modOp q n (fun x =>
            let x := if d.clamped = 0 then x else x.flag flagOutsat
            let x := if d.inexact = 0 then x else x.flag flagInexact
            let x := if d.overrange = 0 then x else x.flag flagOverrange
            if pois = 0 then x else { (x.flag flagPoisoned) with poisoned := min pois 65535 })
          let s := { s with drainBusy := true }
          (s.handOver o.drainCtx d.bytes).modOp q n (fun x => { x with bytes := d.record })

/-- The drain being read has written its last element: the result record and the poison mask are written, the set takes
the state that the drain mode names, and the op completes (03 R96, R116, R119, 05 R200). -/
def State.drainComplete (s : State) : State :=
  if ¬ s.drainBusy then s
  else match s.drainOrder.head? with
    | none => s
    | some (q, n) =>
      match s.op q n with
      | none => s
      | some o =>
        match o.set, o.plan, (s.ctx o.drainCtx).run with
        | some k, some p, some run =>
          if run.done < run.need then s
          else
            let mode := if o.kind = .nrm then dNrmDrain o.desc else dDrainMode o.desc
            let mask := if oMaskOff p.ocb = offNone then [] else p.mask ((s.drainList o).map (fun i => (s.acc k i).poison))
            let done := fun (s : State) => ((s.toSet k (afterDrain mode)).complete q n 0 0).settle
            let step2 := fun (s : State) =>
              if mask = [] then done s
              else match s.opWrite o (stagingBase + oMaskOff p.ocb) mask with
                | .done s => done s
                | .wait => s
                | .fail s st det => ((s.toSet k (afterDrain mode)).complete q n st det).settle
            if o.bytes = [] then step2 s
            else match s.opWrite o (stagingBase + oRecordOff p.ocb) o.bytes with
              | .done s => step2 (s.modOp q n (fun x => { x with bytes := [] }))
              | .wait => s
              | .fail s st det => ((s.toSet k (afterDrain mode)).complete q n st det).settle
        | _, _, _ => s

/-! ### Preemption (05 R182 to R192) -/

/-- Passes that an op has still to issue, pending repeats counted (05 R182). -/
def MvmRun.left (m : MvmRun) : Nat := m.bits - m.next + m.repeats.length

/-- The running op is preempted (05 R184, R189): it keeps its set; its input run is abandoned (06 Streams table 10). -/
def State.doPreempt (s : State) (o : Op) : State :=
  let s := { s with basin := { s.basin with running := none, preempted := some (o.queue, o.seq), stalledAt := none } }
  let s := s.endRun (dInStream o.desc) false
  ((s.count 0x0C).modOp o.queue o.seq (fun x => { (x.flag flagPreempted) with armed := x.armed.filter (· ≠ dInStream o.desc) })).modRun o
    (fun m => { m with suspended := false, saved := false, reread := true })

/-- A pass boundary at which R182 holds; map changes that are due come first (01 R20). -/
def State.preempt (s : State) : State :=
  match s.runningOp with
  | none => s
  | some o =>
    match o.mvm with
    | none => s
    | some m =>
      if dSave o.desc = offNone ∨ m.left ≤ s.obj 0x1800 1 ∨ s.basin.preempted.isSome ∨ s.mapsDue then s
      else if s.ops.any (fun x => decide (x.queue < o.queue) && s.couldStart x (some m.set)) then s.doPreempt o else s

/-- A pass boundary at which R183 holds: the running op, resumed or stalled on its input, has waited long enough. -/
def State.stallPreempt (s : State) : State :=
  match s.runningOp with
  | none => s
  | some o =>
    match o.mvm, s.basin.stalledAt with
    | some m, some t =>
      if dSave o.desc = offNone ∨ s.time < t + s.obj 0x1800 2 ∨ s.basin.preempted.isSome ∨ s.mapsDue then s
      else if s.ops.any (fun x => s.couldStart x (some m.set)) then s.doPreempt o else s
    | _, _ => s

/-- The 64 bytes at the head of a save area (05 Ops table 10). -/
def saveHead (o : Op) (m : MvmRun) : Nat :=
  1 + field 8 2 m.set + field 16 5 m.next + field 24 5 m.bits + field 32 16 (bitSet (m.repeats.map (·.pass))) + field 64 32 o.tag
    + field 96 10 (o.seq % 1024) + field 106 2 o.queue + field 128 16 o.stamp

/-- The repeats of an op in ascending pass order. -/
def MvmRun.sortedRepeats (m : MvmRun) : List RepeatCol := m.repeats.insertionSort (fun a b => a.pass ≤ b.pass)

/-- The save area of a suspended op (05 Ops table 10). -/
def State.saveArea (s : State) (o : Op) (m : MvmRun) : List Byte :=
  leBytes 64 (saveHead o m) ++ leBytes 64 o.desc
    ++ (List.range 3).flatMap (fun i => leBytes 512 (bitSet ((m.sortedRepeats.map (·.cols)).getD i [])))
    ++ List.replicate 384 0
    ++ (List.range 64).flatMap (fun i => tileImage (s.accTile (64 * m.set + i)))

/-- The preempted op is suspended once its conversions are complete, and its save area is written, at once and to memory itself, for an
op of an epoch too: Ops table 11 makes no save area provisional, and Ops table 12 keeps it (05 R184, R185, R190). -/
def State.suspend (s : State) : State :=
  match s.preemptedOp with
  | none => s
  | some o =>
    match o.mvm with
    | none => s
    | some m =>
      let a := stagingBase + dSave o.desc
      let area := s.saveArea o m
      if m.saved ∨ m.fresh ≠ [] then s
      else if ¬ stagingOk (dSave o.desc) area.length ∨ s.mem.storeErrs a area.length then s.failRun o 0x10 0xFF
      else (s.store a area).modRun o (fun m => { m with suspended := true, saved := true })

/-- The vector of an op that resumed, or is to resume, is whole in the feed again: the op runs on with it (05 R187). Ops table 3 gives an
op no field for its activation format: the format is the one that the header declared at op start (02 R53). Of a header that has changed
since, the exponent replaces the first one, and another format, or a header that R53 refuses, ends the op with ERR_INPUT (DESIGN CHOICE,
log 97). -/
def State.rereadDone (s : State) (q n : Nat) : State :=
  match s.op q n with
  | none => s
  | some o =>
    match o.mvm, s.feed o with
    | some m, some bs =>
      if ¬ m.reread then s
      else match parseInput ((s.opRegions o).headD {}).T bs with
        | none => s.failRun o 0x02 (dInStream o.desc)
        | some (e, b, xs) =>
          if b ≠ m.bits then s.failRun o 0x02 (dInStream o.desc)
          else
          let s := s.modRun o (fun m => { m with inputs := xs, exp := e, reread := false })
          if s.basin.running = some (q, n) then { s with basin := { s.basin with stalledAt := none } } else s
    | _, _ => s

/-- The Basin and the Ringmaster run, so that a started op goes on, while the Basin stops too (12 R439). -/
def State.mayResume (s : State) : Bool :=
  decide (s.basin.state = .running ∨ s.basin.state = .paused) && s.runs procRingmaster && decide (s.pwr.state = 3) && s.rst.asserted.isNone

/-- A pass boundary at which R186 holds: the preempted op takes the Basin again; its rate is fixed anew, and it counts as
stalled while its vector is not in the feed (05 R186, R187, 06 Streams table 10). -/
def State.resumePreempted (s : State) : State :=
  match s.preemptedOp with
  | none => s
  | some o =>
    if ¬ s.basinFree o ∨ ¬ s.couldResume o ∨ ¬ s.mayResume ∨ s.mapsDue
        ∨ s.ops.any (fun x => decide (x.queue < o.queue) && s.couldStart x none) then s
    else
      let wait := (o.mvm.map (·.reread)).getD false
      let s := s.giveBasin (o.queue, o.seq)
      { s with basin := { s.basin with preempted := none, stalledAt := if wait then some s.time else none } }.modRun o
        (fun m => { m with rate := 0, suspended := false, stopIssue := decide (m.repeats ≠ []) })

end Sys2Proof.Machine
end

