-- ==== Sys2Proof/Machine/Residency.lean ====
section
/-! DEFINITION. Loads, appends, refresh, digests and mirror damage (04 R126 to R164, 06 R238 to R241, 17 R564, R565). -/

namespace Sys2Proof.Machine

/-! ### Loads (04 R129, R130, R135 to R141, R143 to R145) -/

/-- The clusters of a region are awake, so that its rings can be written (15 R524). -/
def State.ringsReady (s : State) (r : Region) : Bool := r.clusterList.all (fun c => (s.cluster c).awake)

/-- Whether a stream is a one-dimensional contiguous read that starts at a multiple of 64 KiB (04 R135). -/
def adoptable (desc : Nat) (base : Int) : Bool :=
  decide (base % 65536 = 0) && decide (sDims desc = 1) && (decide (sCount desc 0 = 1) || decide (sStride desc 0 = sElem desc))

/-- The physical address of a page of a mirror-to-be: local DRAM with R = 1, and W = 1 where the device writes there (04
R130). -/
def State.mirrorPage (s : State) (a : Int) (write : Bool) : Option Nat :=
  match s.translate false a, s.translate write a with
  | .ok (.local_ p), .ok _ => if p < dramEnd then some p else none
  | _, _ => none

/-- The pages of a mirror image of n bytes from a base; none where one of them breaks R130. -/
def State.mirrorPages (s : State) (base : Int) (n : Nat) (write : Bool) : Option (List Nat) :=
  let ps := (List.range (cdiv n 65536)).map (fun i => s.mirrorPage (base + (65536 * i : Nat)) write)
  if ps.all Option.isSome then some (ps.filterMap id) else none

/-- The physical ranges, as start and length, of an image of n bytes in pages. -/
def pageRanges (ps : List Nat) (n : Nat) : List (Nat × Nat) := ps.zipIdx.map (fun x => (x.1, min 65536 (n - 65536 * x.2)))

/-- Two lists of ranges share a byte. -/
def rangesMeet (a b : List (Nat × Nat)) : Bool :=
  a.any (fun x => b.any (fun y => decide (x.1 < y.1 + y.2) && decide (y.1 < x.1 + x.2)))

/-- Whether an image of region i would overlap the range kept for another region that is not Empty, or for the load of
one (04 R130). -/
def State.mirrorOverlaps (s : State) (i : Nat) (ps : List Nat) (n : Nat) : Bool :=
  s.regions.any (fun e => decide (e.1 ≠ i) && e.2.valid && decide (e.2.st ≠ .empty)
    && rangesMeet (pageRanges ps n) (pageRanges e.2.pages e.2.mirrorBytes ++ pageRanges e.2.pendingPages e.2.mirrorBytes))

/-- The digest message's prefix (04 R143). -/
def Region.digestPrefix (r : Region) : List Byte := leBytes 8 (1 + field 8 8 r.kind + field 16 8 r.format + field 24 8 r.T + field 32 8 r.G)

/-- Where an LDW's mirror begins: mirror_base, or the stream's source address (04 R135). -/
def State.loadBase (s : State) (o : Op) : Int :=
  if dMode o.desc then sRunBase (s.ctx (dStream o.desc)).desc (s.ctx (dStream o.desc)).runs
  else ((s.region (dRegion o.desc)).mirrorBase : Int)

/-- Whether an LDW may start now: its streams are armed, every op admitted before it that names the region has completed,
and no append of an open epoch stands on the region (05 Ops table 8, 04 R138). -/
def State.loadMayStart (s : State) (o : Op) : Bool :=
  decide (o.kind = .ldw) && decide (o.stage = .admitted) && o.ready && decide (o.armed ≠ []) && s.canSchedule
    && s.ops.all (fun p => decide (o.ordered ≤ p.ordered) || decide (p.stage = .completed) || decide (dRegion o.desc ∉ dRegions p.desc))
    && decide ((s.region (dRegion o.desc)).provAppends = []) && s.ringsReady (s.region (dRegion o.desc))

/-- The check that an LDW fails at its start, as status and detail; or its pages (04 R130, R135, R136, R147). -/
def State.loadCheck (s : State) (o : Op) : Except (Nat × Nat) (List Nat) :=
  let i := dRegion o.desc
  let r := s.region i
  let base := s.loadBase o
  if ¬ r.valid ∨ r.st = .loading then .error (0x04, i)
  else if (r.kind = 0 ∧ dMark o.desc ≠ 0) ∨ (r.kind ≠ 0 ∧ r.capacity < dMark o.desc) then .error (0x01, 12)
  else if dMode o.desc ∧ ¬ adoptable (s.ctx (dStream o.desc)).desc base then .error (0x06, i)
  else match s.mirrorPages base r.mirrorBytes (!dMode o.desc || decide (r.kind ≠ 0)) with
    | none => .error (0x06, i)
    | some ps => if s.mirrorOverlaps i ps r.mirrorBytes then .error (0x06, i) else .ok ps

/-- The two digits of byte off of an image, as askDigits takes them (04 R124, R128). -/
def Region.byteDigits (r : Region) (off : Nat) (b : Byte) : List (Nat × Nat × Nat × Nat) :=
  let n := off / 1024
  let tile := 128 * (r.tFirst + n / r.G) + (r.gFirst + n % r.G)
  let k := off % 1024 / 32
  let l := 2 * (off % 32)
  [(tile, k, l, r.codeAt tile k (b.toNat % 16)), (tile, k, l + 1, r.codeAt tile k (b.toNat / 16))]

/-- A started LDW writes the bytes that its stream has delivered and it has not yet written: the rings, in copy mode the
mirror, and the digest message (04 R135, R144, 06 Streams table 10); the rings take their digits from the tiles' writers (R133). A failed stack under the mirror ends it (17 R565). -/
def State.loadStep (s : State) (q n : Nat) : State :=
  match s.op q n with
  | none => s
  | some o =>
    if o.kind ≠ .ldw ∨ o.stage ≠ .started then s
    else match (s.ctx (dStream o.desc)).run with
      | none => s
      | some run =>
        let i := dRegion o.desc
        let r := s.region i
        let new := run.data.drop o.pos
        let at_ := fun off => r.pendingPages.getD (off / 65536) 0 + off % 65536
        if !dMode o.desc && (List.range new.length).any (fun j => decide (stackOf (at_ (o.pos + j)) ∈ s.mem.failed)) then
          s.failRun o 0x10 (dStream o.desc)
        else
          let s := if dMode o.desc then s else new.zipIdx.foldl (fun s x => { s with mem := s.mem.write (at_ (o.pos + x.2)) x.1 }) s
          let s := s.askDigits 3 (q, n) (new.zipIdx.flatMap (fun x => r.byteDigits (o.pos + x.2) x.1))
          let s := { s with digests := s.digests.map (fun (d : Digest) => if d.region = i then { d with message := d.message ++ new } else d) }
          s.modOp q n (fun o => { o with pos := run.data.length })

/-- The Carousel calibration of a tile of a region that is to be loaded is abandoned, and a spare that serves the column under it is
mapped back at the next pass boundary: the load writes the column's new digits (04 R139). -/
def State.loadClears (s : State) (tile : Nat) : State :=
  let t := s.tile tile
  let serves := decide (t.why = .carousel) || (t.serves.isSome && t.calib.any (fun c => decide (t.serves = some c.p)))
  let s := s.abandonCalib tile
  if serves ∧ (s.tile tile).comingMap.col.isSome then s.queueMap tile [{}] else s

/-- LDW_START (04 R130, R135 to R139, R144, R145): the region goes to Loading, its marks and its digest begin anew, and the
calibrations of its tiles are abandoned. What 11rr:03 reads from here until the new digest is computed, or after a load that fails, the
spec does not say: zeros (DESIGN CHOICE, log 99). -/
def State.loadStart (s : State) (q slot : Nat) : State :=
  match s.slotOp q slot with
  | none => s
  | some o =>
    if ¬ s.loadMayStart o then s
    else match s.loadCheck o with
      | .error (st, det) => (s.complete q o.seq st det).settle
      | .ok ps =>
        let i := dRegion o.desc
        let s := (s.region i).tileList.foldl State.loadClears s
        let s := s.modRegion i (fun r => { r with
          st := .loading, pendingPages := ps, mirrorErrors := 0, digestState := 1, digest := []
          hwmC := dMark o.desc, hwmP := dMark o.desc, provAppends := [], kapLog := [] })
        let s := { s with digests := s.digests.filter (fun (d : Digest) => decide (d.region ≠ i))
                            ++ [({ region := i, message := (s.region i).digestPrefix } : Digest)] }
        (s.modOp q o.seq (fun x => { x with stage := .started, pos := 0 })).loadStep q o.seq

/-- LDW_COMPLETE (04 R129, R130, R140): every ring of the region holds its new digit. -/
def State.loadComplete (s : State) (q slot : Nat) : State :=
  match s.slotOp q slot with
  | none => s
  | some o =>
    let i := dRegion o.desc
    let r := s.region i
    if o.kind ≠ .ldw ∨ o.stage ≠ .started ∨ o.pos < r.mirrorBytes ∨ s.writing (q, o.seq) then s
    else
      let base := match (s.ctx (dStream o.desc)).run with
        | some run => if dMode o.desc then run.base.toNat else r.mirrorBase
        | none => r.mirrorBase
      let s := s.modRegion i (fun r => { r with
        st := .resident, activeMirror := base, pages := r.pendingPages, pendingPages := []
        badGranules := [], graceLeft := 0 })
      let s := if dMode o.desc then s
        else { s with mem := { s.mem with bad := s.mem.bad.filter (fun g => !((s.region i).mirrorHas g)) } }
      (s.complete q o.seq 0 0).settle

/-- The digest engine finishes its oldest computation, whose message its LDW has delivered whole (04 R143, R144). -/
def State.digestComplete (s : State) : State :=
  match s.digests with
  | [] => s
  | d :: ds =>
    if d.message.length < 8 + (s.region d.region).mirrorBytes ∨ (s.region d.region).st = .loading then s
    else
      { s with digests := ds }.modRegion d.region (fun r => { r with
        digest := sha384 d.message, digestState := if r.digestState = 1 then 2 else r.digestState })

/-! ### Appends (04 R151 to R156) -/

/-- The element of an append vector (04 R151). -/
def kapElem (format : Nat) (bs : List Byte) (i : Nat) : Int :=
  if format = 2 then sint 16 (leAt bs (2 * i) 2) else sint 8 (leAt bs i 1)

/-- Whether an element is in the weight range of its format (02 Arithmetic table 1, 04 R151). -/
def kapInRange (format : Nat) (v : Int) : Bool :=
  match format with
  | 0 => decide (-8 ≤ v) && decide (v ≤ 7)
  | 1 => true
  | _ => decide (-2048 ≤ v) && decide (v ≤ 2047)

/-- A KAP whose turn has not come (04 R154). -/
def State.kapHeld (s : State) (o : Op) : Bool :=
  s.ops.any (fun p => decide (p.kind = .kap) && decide (dRegion p.desc = dRegion o.desc) && decide (p.stage ≠ .completed)
    && decide (p.ordered ≠ o.ordered)
    && ((decide (p.ordered < o.ordered) && decide (p.epoch = o.epoch))
      || (match o.epoch, p.epoch with
        | some e, some f => decide (f < e)
        | some _, none => decide (p.stage = .started)
        | none, _ => false)))
  || (o.epoch.isNone && decide ((s.region (dRegion o.desc)).provAppends ≠ []))

/-- The append vector of a KAP, when it is held whole (04 R151, 06 Streams table 10). -/
def State.kapVector (s : State) (o : Op) : Option (List Byte) :=
  let n := dKapLen o.desc * (if (s.region (dRegion o.desc)).format = 2 then 2 else 1)
  if dMode o.desc then some (s.see o.epoch (stagingBase + dOff o.desc) n)
  else match (s.ctx (dStream o.desc)).run with
    | some run => if dStream o.desc ∈ o.armed ∧ run.need ≤ run.done then some run.data else none
    | none => none

/-- The checks of R153 that need no vector: status and detail. -/
def State.kapCheck (s : State) (o : Op) : Option (Nat × Nat) :=
  let i := dRegion o.desc
  let r := s.region i
  if ¬ r.valid ∨ r.kind = 0 ∨ r.st ≠ .resident then some (0x04, i)
  else if r.hwmP = r.capacity ∨ dKapLen o.desc ≠ (if r.kind = 1 then 64 * r.T else r.outputs) then some (0x07, i)
  else none

/-- The digits that a vector puts into the region at position p: tile, logical column, ring row and code (04 R152). -/
def Region.kapDigits (r : Region) (p : Nat) (xs : List Int) : List (Nat × Nat × Nat × Nat) :=
  xs.zipIdx.flatMap (fun x =>
    (digitsOf r.format x.1).zipIdx.map (fun d =>
      let (row, j) := if r.kind = 1 then (x.2, r.digits * p + d.2) else (p, r.digits * x.2 + d.2)
      (128 * (r.tFirst + row / 64) + (r.gFirst + j / 32), j % 32, row % 64, d.1)))

/-- One digit is written into the mirror, in its half byte (04 R128). -/
def State.writeMirror (s : State) (r : Region) (tile k l v : Nat) : State :=
  let a := r.mirrorPhys (r.mirrorByte (tile / 128) (tile % 128) k l)
  let b := (s.mem.read a).toNat
  { s with mem := s.mem.write a (BitVec.ofNat 8 (if l % 2 = 0 then b / 16 * 16 + v else v * 16 + b % 16)) }

/-- Another KAP on the same region could start now and comes first in the order of queue and slot: a tile's writers are granted in that
order (05 R181). -/
def State.kapBehind (s : State) (o : Op) : Bool :=
  s.ops.any (fun p => decide (p.kind = .kap) && decide (p.stage = .admitted) && p.ready && decide (dRegion p.desc = dRegion o.desc)
    && p.before o && !s.kapHeld p && (s.kapVector p).isSome)

/-- KAP_START (04 R152 to R154): the digits go to the mirror, and are asked of the writers, at the provisional mark. -/
def State.kapStart (s : State) (q slot : Nat) : State :=
  match s.slotOp q slot with
  | none => s
  | some o =>
    if o.kind ≠ .kap ∨ o.stage ≠ .admitted ∨ ¬ o.ready ∨ ¬ s.canSchedule ∨ s.kapHeld o ∨ s.kapBehind o then s
    else match s.kapCheck o with
      | some (st, det) => (s.complete q o.seq st det).settle
      | none =>
        if ¬ s.ringsReady (s.region (dRegion o.desc)) then s
        else match s.kapVector o with
          | none => s
          | some bs =>
            let i := dRegion o.desc
            let r := s.region i
            let xs := (List.range (dKapLen o.desc)).map (kapElem r.format bs)
            let ctx := if dMode o.desc then 0xFF else dStream o.desc
            if dMode o.desc ∧ s.mem.errs (stagingBase + dOff o.desc) bs.length then (s.complete q o.seq 0x10 0xFF).settle
            else if xs.any (fun v => !kapInRange r.format v) then (s.complete q o.seq 0x07 i).settle
            else
              let ds := r.kapDigits r.hwmP xs
              let hit := ((ds.map (fun d => r.granuleOf d.1 d.2.1)).dedup).filter (fun g => s.mem.errs (64 * g) 64)
              if hit ≠ [] then
                ((s.count 0x13 (hit.filter (fun g => decide (g ∈ s.mem.bad))).length).complete q o.seq 0x10 ctx).settle
              else
                let s := if dMode o.desc then s.noteRead o.epoch (stagingBase + dOff o.desc) bs.length else s
                let s := ds.foldl (fun s d => s.writeMirror r d.1 d.2.1 d.2.2.1 d.2.2.2) s
                let s := s.askDigits 2 (q, o.seq) ds
                (s.modRegion i (fun r => { r with kapBegan := r.kapBegan ++ o.epoch.toList })).modOp q o.seq (fun x => { x with stage := .started, pos := r.hwmP })

/-- KAP_COMPLETE (04 R144, R150, R152, R155): the ring writes are made, and the marks move past the position. -/
def State.kapComplete (s : State) (q slot : Nat) : State :=
  match s.slotOp q slot with
  | none => s
  | some o =>
    if o.kind ≠ .kap ∨ o.stage ≠ .started ∨ s.writing (q, o.seq) then s
    else
      let s := s.modRegion (dRegion o.desc) (fun r => { r with
        hwmP := o.pos + 1
        hwmC := if o.epoch.isNone then o.pos + 1 else r.hwmC
        provAppends := match o.epoch with
          | some e => mset 0 r.provAppends e (mget 0 r.provAppends e + 1)
          | none => r.provAppends
        kapLog := r.kapLog ++ [{ queue := o.queue, seq := o.seq, epoch := o.epoch }]
        digestState := if r.digestState = 1 ∨ r.digestState = 2 then 3 else r.digestState })
      (s.complete q o.seq 0 0).settle

/-! ### Refresh and damage (04 R132 to R134, R157 to R164, 06 R239, 17 R564, R565) -/

/-- The rings of some tiles of region i are rewritten from its active mirror. -/
def State.rewriteTiles (s : State) (i : Nat) (ts : List Nat) : State :=
  ts.foldl (fun s t => (List.range 16).foldl (fun s m => s.refreshGranule i t m) s) s

/-- Correctable errors that mirror reads of a region met are corrected and counted (04 R157, 06 R238). -/
def State.mirrorCorrected (s : State) (i : Nat) (gs : List Nat) : State :=
  let n := (gs.filter (fun g => (s.region i).mirrorHas g && decide (g ∉ s.mem.bad))).length
  (s.count 0x12 n).count 0x08 n

/-- REFRESH (04 R132): the rings of a region are to be rewritten from its active mirror, whose reads met correctable errors in some
granules. -/
def State.refresh (s : State) (i : Nat) (corrected : List Nat) : State :=
  let r := s.region i
  if ¬ r.refreshedSt then s
  else (s.mirrorCorrected i corrected).rewriteTiles i (r.tileList.filter (fun t => !(s.cluster (t / 256)).asleep))

/-- MIRROR_UNCORRECTABLE (04 R157): a mirror read meets an uncorrectable error in a granule of region i's active mirror. -/
def State.mirrorUncorrectable (s : State) (i g : Nat) : State :=
  if (s.region i).mirrorHas g then (s.becomeBad g).mirrorError i g else s

/-- GRACE_END (04 R159). -/
def State.graceEnd (s : State) (i : Nat) : State :=
  let r := s.region i
  if r.st = .mirrorDamaged ∧ r.graceStart + 8 * refreshPeriod ≤ s.time then
    (s.modRegion i (fun r => { r with st := .failed, graceLeft := 0 })).condition 0x010E 2 (field 0 8 i)
  else s

/-- The rings of a cluster's Resident and Mirror-damaged regions are to be rewritten from their mirrors (04 R162, R164). -/
def State.rewriteCluster (s : State) (c : Nat) : State :=
  let s := s.validRegions.foldl (fun s i =>
    if (s.region i).refreshedSt then s.rewriteTiles i ((s.region i).tileList.filter (fun t => decide (t / 256 = c))) else s) s
  (s.modCluster c (fun x => { x with rewriting := true })).endRewrites

/-- CLUSTER_RING_REWRITE (04 R162, R164): after a block reset, or in a wake, once the cluster's loops are locked. -/
def State.clusterRingRewrite (s : State) (c : Nat) : State :=
  let x := s.cluster c
  if x.needRewrite ∧ ¬ x.rewriting ∧ s.loopsLocked c ∧ ¬ x.asleep ∧ ¬ x.inReset then s.rewriteCluster c else s

/-- Every region with a byte of its active mirror in a stack goes to Mirror-damaged, as under R157, its grace from a given time (04
R163, 17 R565). -/
def State.stackMirrors (s : State) (k since : Nat) : State :=
  s.validRegions.foldl (fun s i =>
    let r := s.region i
    match (List.range (cdiv r.mirrorBytes 4096)).find? (fun j => decide (stackOf (r.mirrorPhys (4096 * j)) = k)) with
    | some j =>
      if r.st = .resident then
        let s := (s.count 0x09).modRegion i (fun x =>
          { x with st := .mirrorDamaged, graceStart := since, graceLeft := 8, mirrorErrors := satAdd 32 x.mirrorErrors 1 })
        s.condition 0x010D 2 (field 0 8 i + field 8 40 (r.mirrorPhys (4096 * j) / 64 * 64))
      else s
    | none => s) s

/-- STACK_RESET_OVERRUN (04 R163): the block reset of a stack has lasted two refresh periods; the grace begins at their end. -/
def State.stackResetOverrun (s : State) (k : Nat) : State :=
  match s.rst.blocks.find? (fun b => decide (b.kind = 4) && decide (b.num = k) && decide (b.since + 2 * refreshPeriod ≤ s.time)) with
  | some b => if k ∈ s.mem.inReset then s.stackMirrors k (b.since + 2 * refreshPeriod) else s
  | none => s

/-- STACK_FAIL (17 R564, R565). -/
def State.stackFail (s : State) (k : Nat) : State :=
  if k ∈ s.mem.failed then s
  else ({ s with mem := { s.mem with failed := s.mem.failed ++ [k] } }.condition 0x0202 2 (field 0 1 k)).stackMirrors k s.time

/-- The regions whose active mirror has a byte in a granule. -/
def State.mirrorsWith (s : State) (g : Nat) : List Nat := (s.regions.filter (fun e => e.2.mirrorHas g)).map (·.1)

/-- PATROL_SCRUB (06 R238 to R241, 04 R157): one granule is read, with what its ECC finds; a bad one outside any mirror raises
an event when it is found. A stack in block reset is not read (04 R163). -/
def State.patrolScrub (s : State) (g : Nat) (e : EccOutcome) : State :=
  if dramEnd ≤ 64 * g ∨ stackOf (64 * g) ∈ s.mem.inReset then s
  else if g ∈ s.mem.bad then (s.mirrorsWith g).foldl (fun s i => s.mirrorError i g) (s.meetBad (64 * g) 64)
  else match e with
    | .clean => s
    | .corrected => let s := s.count 0x12; if s.mirrorsWith g = [] then s else s.count 0x08
    | .uncorrectable =>
      let s := s.becomeBad g
      if s.mirrorsWith g = [] then s.condition 0x0201 1 (field 0 40 (64 * g))
      else (s.mirrorsWith g).foldl (fun s i => s.mirrorError i g) s

end Sys2Proof.Machine
end

