-- ==== Sys2Proof/Machine/Engine.lean ====
section
/-! DEFINITION. What memory answers to the stream engine, halts and resumes, the standstill, invalidations, and one engine
cycle of the engine (06 R217, R219, R231 to R236, R240, R241, R246 to R256, 15 R529). -/

namespace Sys2Proof.Machine

/-! ### What an answer brings about (05 Ops table 8, 06 Streams table 10) -/

/-- The need of an input vector, once its header has arrived: 64 bytes and the elements that it declares; 64 where R53
will refuse the header (02 R52, 06 Streams table 3). -/
def State.inputNeed (s : State) (o : Op) (h : Nat) : Nat :=
  let n := 64 * ((s.opRegions o).headD {}).T
  if (s.regionFault o).isSome ∨ !hClean h ∨ 4 ≤ hFormat h ∨ hCount h ≠ n then 64 else 64 + aBytes (hFormat h) n

/-- The header of an input vector has arrived: the need is known, and lines beyond its working set are given back; where the run is
shorter than the need, the op has not armed and none of its run counters advances (06 R221, R224). A resumed op's need is known already. -/
def State.headerArrived (s : State) (o : Op) (c : Nat) (run : Run) : State :=
  let need := s.inputNeed o (leAt run.data 0 64)
  if o.mvm.isSome ∨ need ≤ 64 then s
  else if sLength (s.ctx c).desc < need then
    ((o.armed.foldl (fun s x => s.endRun x false) s).modOp o.queue o.seq (fun x => { x with armed := [], used := [] })).complete o.queue o.seq 0x02 c
  else s.modCtx c (fun x => { x with
    lines := workingSet 0 need, run := x.run.map (fun r => { r with need := need }) })

/-- A staging-buffer run has copied every byte, or has met a granule of staging SRAM that fails: it ends (06 R217, R221, R241, R255). -/
def State.stagingDone (s : State) (c : Nat) : State :=
  match (s.ctx c).run with
  | some run =>
    if run.need ≤ run.done then s.endRun c true
    else if run.write ∧ run.done = run.data.length then
      -- nothing more could be handed over: the next byte of staging SRAM fails
      (s.endRun c true).condition 0x0203 1 (field 0 6 c + field 6 49 (toU 49 ((s.ctx c).addr run run.done)))
    else s
  | none => s

/-- Bytes have reached a context's target, or memory: what its op does then. -/
def State.onProgress (s : State) (c : Nat) (data : List Byte) : State :=
  match (s.ctx c).run with
  | none => s
  | some run =>
    match run.op with
    | none =>
      let s := if run.write ∨ data = [] then s
        else s.store (stagingBase + sStaging (s.ctx c).desc + (run.done - data.length)) data
      s.stagingDone c
    | some (q, n) =>
      match s.op q n with
      | none => s
      | some o =>
        match o.kind with
        | .mvm | .mvg =>
          if c ≠ dInStream o.desc ∨ run.write then s
          else
            let s := if run.done - data.length < 64 ∧ 64 ≤ run.done then s.headerArrived o c run else s
            s.rereadDone q n
        | .ldw => s.loadStep q n
        | .act => s.actMoved o
        | .xfr => if o.stage = .started then s.xfrGo o else s
        | _ => s

/-- A request's error reaches its run (06 R241, R255): the op completes with ERR_MEMORY, or with ERR_FABRIC for an XFR
whose source request to a peer failed; a staging-buffer run ends with an event. -/
def State.runError (s : State) (r : Req) : State :=
  let c := r.ctx
  match (s.ctx c).run with
  | none => s
  | some run =>
    match run.op with
    | none =>
      let src := if r.path < 2 then 0 else r.path - 1
      let va := toU 49 ((s.ctx c).addr run run.done)
      (s.endRun c true).condition 0x0203 1 (field 0 6 c + field 6 49 va + field 55 2 src)
    | some (q, n) =>
      match s.op q n with
      | none => s
      | some o =>
        let st := if o.kind = .xfr ∧ r.path = 3 then (0x11, r.failed.getD 0) else (0x10, c)
        s.failRun o st.1 st.2

/-- The answers that stand next in a context's run order are delivered, with fuel (06 R219). -/
def State.deliver (s : State) (c : Nat) : Nat → State
  | 0 => s
  | fuel + 1 =>
    match (s.ctx c).run with
    | none => s
    | some run =>
      match s.reqs.find? (fun r => decide (r.ctx = c) && decide (r.pos = run.done)) with
      | none => s
      | some r =>
        match r.arrived with
        | none => s
        | some data =>
          let n := if r.failed.isSome then data.length else r.len
          let s := { s with reqs := s.reqs.filter (fun x => decide (x ≠ r)) }
          let s := if n = 0 then s else (s.progress c (if r.write then [] else data) n).onProgress c (if r.write then [] else data)
          if r.failed.isSome then s.runError { r with arrived := some data } else s.deliver c fuel

/-- Whether a request in flight, dropped or not, issued among the first n, uses a translation in the range that a value of 2400:03 names
(06 R246). -/
def State.usesRange (s : State) (v n : Nat) : Bool :=
  s.reqs.any (fun r => r.arrived.isNone && decide (r.serial ≤ n) && (r.va.map (fun a => inInvalidRange v { page := a / 2 ^ 16, level := 3 })).getD false)

/-- A request is answered: with its bytes, those that its run's epoch sees provisionally in their place, and with an error after them
where failed says so. What stands next in run order is delivered; the answer of a dropped request is discarded (05 R199, 06 R219, R230,
R255, R256). -/
def State.arrive (s : State) (r : Req) (data : List Byte) (failed : Option Nat) : State :=
  if 64 ≤ r.ctx then ({ s with reqs := s.reqs.filter (fun x => decide (x ≠ r)) }).settle
  else
    let view := (s.ctx r.ctx).run.bind (·.epoch)
    let data := if r.write ∨ r.path < 2 then data else s.overlay view (r.path - 1) r.addr data
    let s := { s with
      poolProgress := s.time
      reqs := s.reqs.map (fun x => if x = r then { x with arrived := some data, failed := failed } else x) }
    ((s.deliver r.ctx (s.reqs.length + 1)).refill r.ctx).settle

/-! ### Local memory (06 R234, R240, R241) -/

/-- The oldest unanswered request of a context to local memory, a dropped one among them (06 R256). -/
def State.oldestLocal (s : State) (c : Nat) : Option Req :=
  s.reqs.find? (fun r => (decide (r.ctx = c) || (decide (r.ctx = 65) && decide (r.was = c))) && decide (r.path < 2) && r.arrived.isNone)

/-- A read request of a run is made: bytes before the first failing granule, then the error (06 R240, R241). -/
def State.localRead (s : State) (run : Run) (r : Req) : State :=
  let n := s.mem.goodBytes r.addr r.len (fun g => decide (g ∈ s.mem.bad))
  let data := s.see run.epoch r.addr n
  let s := s.noteRead run.epoch r.addr n
  let s := s.meetBad r.addr r.len
  s.arrive r data (if n = r.len then none else some 0)

/-- A write request of a run is made: bytes up to the first granule that fails, then the error (06 R240, R241). -/
def State.localWrite (s : State) (run : Run) (r : Req) : State :=
  let n := s.mem.goodBytes r.addr r.len (fun g => decide (g ∈ s.mem.bad) && !(decide (r.addr ≤ 64 * g) && decide (64 * g + 64 ≤ r.addr + r.len)))
  let data := (run.data.drop r.pos).take n
  let s := if n = r.len then s else s.meetBad r.addr r.len
  (s.store r.addr data).arrive r data (if n = r.len then none else some 0)

/-- A request to local memory is made; a dropped read is only counted where it meets an error (06 R240, R241, R256). -/
def State.localAccess (s : State) (c : Nat) (r : Req) : State :=
  if 64 ≤ r.ctx then (s.meetBad r.addr r.len).arrive r [] none
  else match (s.ctx c).run with
    | some run => if r.write then s.localWrite run r else s.localRead run r
    | none => s

/-- MEMORY_COMPLETION: the oldest request of a context to local memory completes; the granules that ECC corrects on the way are written
back and counted (06 R219, R238, R240, R241). -/
def State.memoryCompletion (s : State) (c : Nat) (corrected : List Nat) : State :=
  match s.oldestLocal c with
  | some r =>
    if stackOf r.addr ∈ s.mem.inReset ∧ r.addr < dramEnd then s
    else
      let fixed := (granules r.addr r.len).filter (fun g => decide (g ∈ corrected) && decide (g ∉ s.mem.bad) && !s.mem.lost g && decide (r.addr < dramEnd))
      (s.count 0x12 fixed.length).localAccess c r
  | none => s

/-- MEMORY_ERROR in staging SRAM: a granule of it is uncorrectable until it is written whole (06 R241). -/
def State.stagingBad (s : State) (i : Nat) : State :=
  let g := stagingBase / 64 + i
  if g ∈ s.mem.bad then s else { s with mem := { s.mem with bad := s.mem.bad ++ [g] } }

/-- MEMORY_ERROR: the oldest request of a context completes with an error (06 R255): a granule of it is found bad, or it is
a peer request that could not be sent. -/
def State.memoryError (s : State) (c : Nat) : State :=
  match s.reqs.find? (fun r => (decide (r.ctx = c) || (decide (r.ctx = 65) && decide (r.was = c) && decide (r.path < 2))) && r.arrived.isNone
      && (decide (r.path < 2) || decide (65536 ≤ r.tag))) with
  | some r =>
    if 2 ≤ r.path then s.arrive r [] r.failed
    else if dramEnd ≤ r.addr then s
    else (s.markBad (r.addr / 64)).localAccess c r
  | none => s

/-! ### Halts and resumes (06 R248 to R254) -/

/-- STREAM_HALT: a context stands at a position that does not translate; an XFR sends what its source has delivered (06 R248 to R251). -/
def State.streamHalt (s : State) (c : Nat) : State :=
  match s.standsAt c with
  | some (n, code) =>
    let op := ((s.ctx c).run.bind (·.op)).bind (fun x => s.op x.1 x.2)
    let s := s.halt c n code
    match op with
    | some o => if o.kind = .xfr ∧ o.stage = .started then (s.xfrGo o).settle else s
    | none => s
  | none => s

/-- A resume doorbell (06 R252, R253): the state and whether it was accepted. -/
def State.resume (s : State) (c seq : Nat) : State × Bool :=
  let x := s.ctx c
  match x.run with
  | some run =>
    if x.st ≠ .halted ∨ seq ≠ x.faultSeq then (s.count 0x11, false)
    else match s.translateFresh run.write (x.addr run run.issued) with
      | .error code => ((s.count 0x10).halt c run.issued code, true)
      | .ok _ => ((s.uncache (x.addr run run.issued).toNat).modCtx c (fun x => { x with st := .armed }), true)
  | none => (s.count 0x11, false)

/-- STANDSTILL (06 R235, R236). -/
def State.standstill (s : State) : State :=
  if s.standing then (match s.yielder with
    | some c => s.yieldLines c
    | none => s)
  else s

/-! ### Invalidation (06 R246) -/

/-- Cached leaves in a range are dropped. -/
def State.invalidate (s : State) (v : Nat) : State := { s with xcache := s.xcache.filter (fun e => !inInvalidRange v e) }

/-! ### One engine cycle (06 R231, 15 R529, 05 R200) -/

/-- DRAM request rate in percent at a ladder level (15 Power table 5). -/
def dramRate (l : Nat) : Nat := match l with
  | 0 => 100 | 1 => 100 | 2 => 80 | 3 => 60 | 4 => 40 | _ => 20

/-- Whether a path accepts a request in this cycle: a stack under reset takes none, nor does a host link that is not Up;
the ladder spreads a DRAM path's requests evenly (15 R529). -/
def State.pathOpen (s : State) (path : Nat) : Bool :=
  if path < 2 then
    decide (path ∉ s.mem.inReset) && decide (s.time * dramRate s.ladderLevel / 100 < (s.time + 1) * dramRate s.ladderLevel / 100)
  else if path = 2 then decide (s.hl.state = .up) else true

/-- A path takes its request of this cycle; a write of an epoch that finds no speculative line waits, or ends its op with
SPECFULL (05 R199, R200). -/
def State.serve (s : State) (path : Nat) : State :=
  if ¬ s.pathOpen path then s
  else match s.served path with
    | none => s
    | some i =>
      match s.nextRequest path i, (s.ctx i).run with
      | some (n, pl, len), some run =>
        match run.write, run.epoch with
        | true, some e =>
          let w : SpecWrite := { key := .local_ e, space := pl.addr.1, addr := pl.addr.2, data := (run.data.drop n).take len, block := some (((s.ctx i).addr run n).toNat / 4096) }
          if s.specFull w then
            if s.earlierLive e then s
            else match run.op.bind (fun x => s.op x.1 x.2) with
              | some o => s.failRun o 0x23 (dEpoch o.desc)
              | none => s
          else ((s.issue i n pl len).refill i).onProgress i []
        | _, _ => s.issue i n pl len
      | _, _ => s

/-- One engine cycle in which no command arrives: each path takes at most one request (06 R231), and time goes on. -/
def State.cycle (s : State) : State :=
  let s := [0, 1, 2, 3].foldl State.serve s
  { s with time := s.time + 1 }

end Sys2Proof.Machine
end

