-- ==== Sys2Proof/Machine/Epochs.lean ====
section
/-! DEFINITION. Retirement of epochs and the squashes that peers bring about (05 R201 to R205, R595, 09 R380). -/

namespace Sys2Proof.Machine

/-- Whether provisional data of a peer's epoch, by source and stamp, is still held (05 R203). -/
def State.peerPending (s : State) (source stamp : Nat) : Bool :=
  s.specWrites.any (fun w => decide (w.key = .peer source stamp)) || s.provTokens.any (fun p => decide (p.key = .peer source stamp))

/-- Whether a Committing epoch retires (05 R203, R205). -/
def State.mayRetire (s : State) (i : Nat) : Bool :=
  let e := s.epoch i
  decide (e.st = .committing) && !e.retired && !s.earlierLive e.serial
    && s.ops.all (fun o => decide (o.epoch ≠ some e.serial) || decide (o.stage = .completed))
    && e.readPeers.all (fun p => !s.peerPending p.1 p.2)

/-- The appends of an epoch are committed in every cache region (04 R155). -/
def State.commitAppends (s : State) (serial : Nat) : State :=
  { s with regions := s.regions.foldl (fun m e =>
      mset {} m e.1 { e.2 with
        hwmC := e.2.hwmC + mget 0 e.2.provAppends serial
        provAppends := mdel e.2.provAppends serial
        kapLog := e.2.kapLog.map (fun k => if k.epoch = some serial then { k with epoch := none } else k) }) s.regions }

/-- An epoch retires: every row of Ops table 11 takes its retirement effect (05 R205): its local writes reach memory in order of
production, those to the host and to peers are sent, and a commit message goes to each peer that received its traffic. An error in a
local write ends the SPC (log 94). -/
def State.retireEpoch (s : State) (i : Nat) : State :=
  if ¬ s.mayRetire i then s
  else
    let s := s.raiseHeld
    let e := s.epoch i
    let s := s.commitAppends e.serial
    let (s, bad) := s.commitKeys (fun k => decide (k = .local_ e.serial) || decide (k = .self e.serial)) e.serial
    let s := [0, 1].foldl (fun s k => if (s.set k).owner = some e.serial then s.modSet k (fun x => { x with owner := none }) else s) s
    let s := (s.addMessages e false i).modEpoch i (fun x => { x with
      retired := true, taken := [], firstSent := s.time, peers := [], readPeers := [] })
    (if bad then s.failSpc e.serial else s).settle

/-- The earliest live epoch that has read the provisional data of a peer's epoch (05 R204). -/
def State.earliestReader (s : State) (source stamp : Nat) : Option Nat :=
  ((s.liveFrom 0).filter (fun i => decide ((source, stamp) ∈ (s.epoch i).readPeers))).head?

/-- The provisional data of a peer's epoch is dropped; the earliest epoch that has read it is squashed, with every later
one, and an event is raised (05 R204). -/
def State.dropPeer (s : State) (source stamp : Nat) (timeout : Bool) : State :=
  let r := s.earliestReader source stamp
  let s := s.dropKey (.peer source stamp)
  let payload := field 0 3 (r.getD 0) + field 3 1 (b2n timeout) + field 4 17 source + field 21 16 stamp
  match r with
  | some i =>
    ((s.squashFrom (s.epoch i).serial 3 none).condition 0x0306 1 payload).settle
  | none => if timeout then s.condition 0x0306 1 payload else s

/-- PEER_EPOCH_TIMEOUT (05 R204): the data has waited ops.peer_epoch_timeout since its first part arrived. -/
def State.peerTimeout (s : State) (source stamp : Nat) : State :=
  let born := (s.specWrites.filter (fun w => decide (w.key = .peer source stamp))).map (·.born)
    ++ (s.provTokens.filter (fun p => decide (p.key = .peer source stamp))).map (·.born)
  if born ≠ [] ∧ born.foldl min (born.headD 0) + s.obj 0x1800 7 ≤ s.time then s.dropPeer source stamp true else s

/-- SMX_COMPLETE (03 R121, R122): the helper has had its time, its last byte is written, and the helper is free. -/
def State.smxComplete (s : State) : State :=
  match s.helper.bind (fun x => s.op x.1 x.2) with
  | none => s
  | some o =>
    if s.time < o.due then s
    else match s.opWrite o (stagingBase + dOutOff o.desc) o.bytes with
    | .done s => (s.completeRan o).settle
    | .wait => s
    | .fail s st det => (s.endAs o st det).settle

/-- Started ops that waited for a speculative line, or for their set, go on (03 R99, 05 R200). -/
def State.retryStarted (s : State) : State :=
  ((s.ops.filter (fun o => decide (o.stage = .started) && ((decide (o.kind = .xfr) && decide (dDest o.desc = s.ownDev))
      || (decide (o.kind = .act) && dVia o.desc)))).foldl
    (fun (s : State) o => match s.op o.queue o.seq with
      | some o => if o.stage ≠ .started then s else if o.kind = .xfr then s.xfrGo o else s.actMoved o
      | none => s) s)

/-- STREAM_ARM (06 R228): the first op in the order of R181 that waits to be armed is the one named. -/
def State.streamArm (s : State) (q slot : Nat) : State :=
  match s.nextToArm, s.slotOp q slot with
  | some o, some x =>
    if o.queue ≠ x.queue ∨ o.seq ≠ x.seq ∨ ¬ s.canSchedule ∨ s.blockReset 2 0 then s
    else if o.mvm.isSome then (s.rearmOp o).settle
    else
      let s := s.armOp o
      match s.op o.queue o.seq with
      | some o => if o.stage = .admitted ∧ o.armed ≠ [] then (s.start o).settle else s.settle
      | none => s
  | _, _ => s

end Sys2Proof.Machine
end

