-- ==== Sys2Proof/Machine/Loops.lean ====
section
/-! DEFINITION. The loop engines: dither, pilot error, inner and outer loops, locks, sweeps, line-identity checks, recovery,
thermal pauses and headroom (07 R258 to R301), with the monitor conversions that feed them (08 R307 to R310, R313 to
R315) and the heater DACs (08 R319 to R323). -/

namespace Sys2Proof.Machine

/-! ### Coefficients and powers (07 R278, R288, Loops tables 3 and 4) -/

/-- Tile class: 0 A, 1 B, 2 C (07, Tile classes). -/
def tileClass (tile : Nat) : Nat :=
  let t := tile / 128
  let g := tile % 128
  if t = 97 ∨ t = 98 then 2 else if t = 0 ∨ t = 195 ∨ g = 0 ∨ g = 127 then 1 else 0

/-- Field n of the coefficient block of a tile's class: 16-bit fields, in the order of Loops table 3. -/
def State.coeff (s : State) (tile n : Nat) : Int := sint 16 (bits (s.obj 0x4010 (1 + tileClass tile)) (16 * n) 16)

/-- The nearest integer, halves up (07 R278, R279). -/
def halfUp (x : Rat) : Int := (x + 1 / 2).floor

/-- Saturation to 16 bits (07 R278). -/
def satQ15 (x : Int) : Int := clampI (-32768) 32767 x

/-- One Q15 step in the units of a loop's states: 2^-47, half the finest mantissa step of block floating form, so that a state is
rounded once (07 R279). -/
def q15Unit : Int := 2 ^ 32

/-- A value returned to Q15 form (07 R278). -/
def toQ15 (x : Rat) : Rat := ((satQ15 (halfUp (x / (q15Unit : Rat))) * q15Unit : Int) : Rat)

/-- The DAC code for a Q15 power (07 Loops table 2, below): rne_int(16,383 · sqrt(P)). -/
def dacCode (p : Int) : Nat := (isqrt (4 * 16383 * 16383 * p.toNat / 32768) + 1) / 2

/-- The Q15 power of a DAC code. -/
def dacPower (n : Nat) : Int := halfUp (((n * n * 32768 : Nat) : Rat) / (16383 * 16383 : Nat))

/-- The parking code of heater h of a tile (08 R323). -/
def State.parkCode (s : State) (tile h : Nat) : Nat := mget 0 s.cal.parking (34 * tile + h)

/-! ### Dither (07 R266, R267) -/

/-- Entries 0 to 31 of the quarter-wave table (07 R267). -/
def sinePart0 : List Nat := [101, 302, 503, 704, 905, 1106, 1307, 1507, 1708, 1909, 2110, 2310, 2511, 2711, 2911, 3112, 3312, 3512, 3712, 3911, 4111, 4310, 4509, 4708, 4907, 5106, 5305, 5503, 5701, 5899, 6096, 6294]
/-- Entries 32 to 63 of the quarter-wave table (07 R267). -/
def sinePart1 : List Nat := [6491, 6688, 6885, 7081, 7277, 7473, 7669, 7864, 8059, 8254, 8448, 8642, 8836, 9030, 9223, 9416, 9608, 9800, 9992, 10183, 10374, 10564, 10754, 10944, 11133, 11322, 11511, 11699, 11886, 12074, 12260, 12446]
/-- Entries 64 to 95 of the quarter-wave table (07 R267). -/
def sinePart2 : List Nat := [12632, 12817, 13002, 13187, 13370, 13554, 13736, 13919, 14101, 14282, 14462, 14643, 14822, 15001, 15180, 15358, 15535, 15712, 15888, 16063, 16238, 16413, 16586, 16759, 16932, 17104, 17275, 17445, 17615, 17784, 17953, 18121]
/-- Entries 96 to 127 of the quarter-wave table (07 R267). -/
def sinePart3 : List Nat := [18288, 18454, 18620, 18785, 18950, 19113, 19276, 19438, 19600, 19761, 19921, 20080, 20238, 20396, 20553, 20709, 20865, 21019, 21173, 21326, 21479, 21630, 21781, 21930, 22079, 22227, 22375, 22521, 22667, 22812, 22956, 23099]
/-- Entries 128 to 159 of the quarter-wave table (07 R267). -/
def sinePart4 : List Nat := [23241, 23382, 23522, 23662, 23801, 23938, 24075, 24211, 24346, 24480, 24613, 24746, 24877, 25007, 25137, 25265, 25393, 25519, 25645, 25770, 25893, 26016, 26138, 26259, 26378, 26497, 26615, 26732, 26848, 26962, 27076, 27189]
/-- Entries 160 to 191 of the quarter-wave table (07 R267). -/
def sinePart5 : List Nat := [27300, 27411, 27521, 27629, 27737, 27843, 27949, 28053, 28157, 28259, 28360, 28460, 28560, 28658, 28755, 28850, 28945, 29039, 29131, 29223, 29313, 29403, 29491, 29578, 29664, 29749, 29832, 29915, 29997, 30077, 30156, 30234]
/-- Entries 192 to 223 of the quarter-wave table (07 R267). -/
def sinePart6 : List Nat := [30311, 30387, 30462, 30535, 30607, 30679, 30749, 30818, 30885, 30952, 31017, 31082, 31145, 31206, 31267, 31327, 31385, 31442, 31498, 31553, 31607, 31659, 31710, 31760, 31809, 31857, 31903, 31949, 31993, 32036, 32077, 32118]
/-- Entries 224 to 255 of the quarter-wave table (07 R267). -/
def sinePart7 : List Nat := [32157, 32195, 32232, 32267, 32302, 32335, 32367, 32397, 32427, 32455, 32482, 32508, 32533, 32556, 32578, 32599, 32619, 32637, 32655, 32671, 32685, 32699, 32711, 32722, 32732, 32741, 32748, 32755, 32759, 32763, 32766, 32767]

/-- The quarter-wave table. -/
def sineTable : List Nat := sinePart0 ++ sinePart1 ++ sinePart2 ++ sinePart3 ++ sinePart4 ++ sinePart5 ++ sinePart6 ++ sinePart7

/-- The wave function S of a 10-bit phase. -/
def wave (ph : Nat) : Int :=
  let i := ph % 256
  match ph / 256 % 4 with
  | 0 => (sineTable.getD i 0 : Int)
  | 1 => (sineTable.getD (255 - i) 0 : Int)
  | 2 => -(sineTable.getD i 0 : Int)
  | _ => -(sineTable.getD (255 - i) 0 : Int)

/-- A cluster runs in low-rate mode in loop update n (07 R277, 08 R318). -/
def ClusterSt.lowAt (x : ClusterSt) (n : Nat) : Bool :=
  match x.lowFrom with
  | some f => decide (f ≤ n) && x.lowTo.all (fun e => decide (n < e))
  | none => false

/-- The dither increment of a cluster (07 R266, R277). -/
def ClusterSt.inc (x : ClusterSt) (n : Nat) : Nat := if x.lowAt n then 0x02000000 else 0x08000000

/-- The accumulator of a cluster's dither generators at the start of loop update n: 8 clocks an update (07 R266). -/
def ClusterSt.phaseOf (x : ClusterSt) (n : Nat) : Nat := toU 32 ((x.phase : Int) + ((n : Int) - x.phaseAt) * (8 * x.inc n : Nat))

/-- What a tile's dither generator adds to its pilot rings' biases, in bias codes, at an accumulator (07 R266). -/
def ditherCodes (amp acc : Nat) : Int := ((amp : Int) * wave (bits acc 22 10)) / 32768

/-! ### Sweeps, attempts and recovery (07 R290 to R296) -/

/-- A loop changes to Q15 form: its states are converted, and its power does not move (07 R280). -/
def ColSt.inQ15 (c : ColSt) : ColSt :=
  { c with bfp := false
           i := (toQ15 c.i).floor, d := (toQ15 c.d).floor, e := (toQ15 c.e).floor, ePrev := (toQ15 c.ePrev).floor
           v1 := (toQ15 c.v1).floor, v2 := (toQ15 c.v2).floor, y1 := (toQ15 c.y1).floor, y2 := (toQ15 c.y2).floor }

/-- A column's loop opens in Q15 form and sweeps from the parking code (07 R280, R292). -/
def State.startSweep (s : State) (tile p : Nat) : State :=
  s.modCol tile p (fun c => { c.inQ15 with loop := .sweeping, clean := 0, sweep := some {}, plaus := 0 })

/-- A failed attempt (07 R295): after as many as 4000:0B says in a row the column is retired, else it sweeps again. -/
def State.attemptFailed (s : State) (tile p : Nat) : State :=
  let s := (s.count 0x19).modCol tile p (fun c => { c with failed := c.failed + 1, sweep := none })
  if s.obj 0x4000 0x0B ≤ (s.col tile p).failed then s.retireColumn tile p else s.startSweep tile p

/-- The converters that remain in a bank (08 R316). -/
def ClusterSt.remaining (x : ClusterSt) : List Nat := (List.range 16).filter (fun m => m ∉ x.monFailed)

/-- The converter on which the injected sequences of a tile of a failed converter run: the host of the pilot of the tile's column 0 (08
R316). -/
def ClusterSt.hostOf (x : ClusterSt) (conv i : Nat) : Nat :=
  if conv ∈ x.monFailed then x.remaining.getD ((36 * i + 1) % max 1 x.remaining.length) 0 else conv

/-- Half engine cycles from the start of a cluster's loops: a monitor slot lasts 15, or 60 in low-rate mode (08, Monitor converter
banks, R318). -/
def State.halfNow (s : State) (c : Nat) : Nat := 2 * (s.time - (s.cluster c).loopStart)

/-- The end of the injected work of a converter, in half engine cycles from the start of the loops (08 R312). -/
def ClusterSt.injectedEnd (x : ClusterSt) (conv : Nat) : Nat :=
  (x.injected.filter (fun y => decide (y.1 = conv))).foldl (fun e y => max e y.2.2) 0

/-- A trigger with the channels it asks for arrives at a converter: up to 4 wait while a sequence runs there, besides the one that is
next to run (08 R311, R312). -/
def State.trigger (s : State) (tile kind : Nat) (chans : List Nat) : State :=
  let c := tile / 256
  let x := s.cluster c
  let m := x.hostOf (convOf tile) (tile % 16)
  let waiting := (x.queued.filter (fun t => decide (t.conv = m))).length
  let room := if s.halfNow c < x.injectedEnd m then 4 else 5
  if waiting < room then
    s.modCluster c (fun x => { x with queued := x.queued ++ [({ conv := m, kind := kind, chans := chans, since := s.time } : Trigger)] })
  else s.count 0x1B

/-- Channel numbers (08 Converters table 2) of the pilot of a column, the sensor and a heater sense of a tile. -/
def pilotChan (tile p : Nat) : Nat := 33 * (tile % 256) + p
/-- The temperature sensor's channel. -/
def tempChan (tile : Nat) : Nat := 8448 + tile % 256
/-- A heater sense's channel. -/
def senseChan (tile h : Nat) : Nat := 8704 + 34 * (tile % 256) + h
/-- A converter's bank reference. -/
def refChan (conv : Nat) : Nat := 17408 + conv
/-- The cluster tile index that a channel of a tile belongs to. -/
def chanTile (ch : Nat) : Nat := if ch < 8448 then ch / 33 else if ch < 8704 then ch - 8448 else (ch - 8704) / 34

/-- The trigger of a pilot loss on a column (08 Converters table 4). -/
def State.pilotLoss (s : State) (tile p : Nat) : State :=
  s.trigger tile 3 (List.replicate 8 (pilotChan tile p) ++ [senseChan tile p])

/-- A column enters the recovery procedure (07 R290, R291): cause 0 a flag in a lit slot, 1 a flag outside lit slots, 2
plausibility, 3 missed deadlines. -/
def State.enterRecovery (s : State) (tile p cause : Nat) : State :=
  let t := s.tile tile
  if p ∈ t.recovs ∨ (s.col tile p).retired then s
  else
    let s := s.count (if cause = 0 ∨ cause = 2 then 0x17 else 0x18)
    let s := (s.condition 0x0110 1 (field 0 15 tile + field 15 6 p + field 21 2 cause)).startFault 0x0110 tile
    let s := s.modTile tile (fun t => { t with recovs := t.recovs ++ [p] })
    let s := s.modCluster (tile / 256) (fun x => { x with lastAct := s.time })
    let s := s.modCol tile p (fun c => { c with failed := 0, missedRun := 0 })
    (s.startSweep tile p).columnOut tile p .recovery

/-! ### Heater DACs (08 R319, R320) -/

/-- The code that a heater word's option stands for. -/
def State.codeOr (s : State) (tile h : Nat) (x : Option Nat) : Nat := x.getD (s.parkCode tile h)

/-- The output current of a heater DAC at a code, in nA (08 R319). -/
def heaterCurrent (range2 : Bool) (code : Nat) : Rat := ((if range2 then 8000000 else 4000000 : Nat) * code : Rat) / (16383 : Nat)

/-- A sense of a heater is taken: it is low when it reads below half the current that applied implies, at an applied code of 2,048 or
more (08 R321). -/
def State.noteSense (s : State) (tile h : Nat) (v : Int) : State :=
  let x := s.heater tile h
  let a := s.codeOr tile h x.applied
  let low := decide (2048 ≤ a) && decide (((2 * Config.senseCurrent v : Int) : Rat) < heaterCurrent x.range2 a)
  s.modHeater tile h (fun x => { x with lowSenses := if low then x.lowSenses + 1 else 0 })

/-- The loop engine writes a target; a faulted DAC keeps its parking code (08 R322). -/
def State.setTarget (s : State) (tile h code : Nat) : State :=
  s.modHeater tile h (fun x => if x.short ∨ x.open_ then x else { x with target := if code = s.parkCode tile h then none else some code })

/-- The tile's load strobe: each of the 34 DACs moves towards its target by at most htr.slew codes (08 R320). -/
def State.strobe (s : State) (tile : Nat) : State :=
  let slew := s.obj 0x4800 4
  (List.range 34).foldl (fun s h =>
    let x := s.heater tile h
    if x.target = x.applied then s
    else
      let a := s.codeOr tile h x.applied
      let g := s.codeOr tile h x.target
      if g ≤ a + slew ∧ a ≤ g + slew then s.modHeater tile h (fun x => { x with applied := x.target })
      else (s.count 0x1D).modHeater tile h (fun x => { x with applied := some (if a < g then a + slew else a - slew) })) s

/-- Every heater of a tile takes its parking code at once (08 R322, R323). -/
def State.parkTile (s : State) (tile : Nat) : State :=
  (List.range 34).foldl (fun s h => s.modHeater tile h (fun x => { x with target := none, applied := none })) s

/-! ### Monitor conversions (08 R307 to R310, R313 to R316) -/

/-- The corrected value of a raw code (08 R313). -/
def ClusterSt.corrected (x : ClusterSt) (chan raw : Nat) : Int :=
  let k := mget (0, 2 ^ 14) x.chanCal chan
  clampI (-32768) 32767 (rneInt ((((16 * raw : Nat) : Int) - k.1 : Int) * (k.2 : Nat) / (2 ^ 14 : Nat)))

/-- The failed converters whose entries are dealt in loop update n (08 R316): from the update after the failure is detected. -/
def ClusterSt.dealt (x : ClusterSt) (n : Nat) : List Nat :=
  x.monFailed.filter (fun m => !x.failing.any (fun f => decide (f.1 = m) && decide (n ≤ f.2)))

/-- The converter that converts entry k of block i of a converter in loop update n, and its slot without injected work (08 Converters
table 3, R316): a dealt entry stands directly after its host's block of the same index, the reference after slot 576. The heater senses
are dropped once two converters have failed (17 R562). None: no converter takes it in this update. -/
def ClusterSt.place (x : ClusterSt) (n conv i k : Nat) : Option (Nat × Nat) :=
  let dealt := x.dealt n
  let rest := (List.range 16).filter (fun m => m ∉ dealt)
  let e := 36 * i + k
  if 2 ≤ dealt.length ∧ (k = 34 ∨ k = 35) then none
  else if conv ∈ dealt then
    let host := rest.getD (e % max 1 rest.length) 0
    if host ∈ x.monFailed then none
    else some (host, (if e = 576 then 577 else 36 * i + 36) + e / max 1 rest.length)
  else if conv ∈ x.monFailed then none
  else
    let rank := ((List.range conv).filter (fun m => m ∉ dealt)).length
    let before := if e = 576 then 576 else 36 * i
    some (conv, e + dealt.length * ((before + 14 - min 14 rank) / 15))

/-- Length of a monitor slot in loop update n, in half engine cycles (08 R318). -/
def ClusterSt.slotLen (x : ClusterSt) (n : Nat) : Nat := if x.lowAt n then 60 else 15

/-- The start of the regular sequence that loop update n ends, in half engine cycles from the start of the loops: in low-rate mode the
sequence spans 4 loop updates (08 R307, R318). -/
def ClusterSt.origin (x : ClusterSt) (n : Nat) : Nat := 9600 * (if x.lowAt n then n - 3 else n)

/-- The slot of a conversion that stands at a position of the regular sequence, with the injected conversions that run before it: those
that are left of a sequence begun in an earlier update too (08 R309, R312). -/
def ClusterSt.slotOf (x : ClusterSt) (n conv pos : Nat) : Nat :=
  (x.injected.filter (fun y => decide (y.1 = conv) && decide (x.origin n < y.2.2))).foldl (fun pos y =>
    let a := cdiv (y.2.1 - x.origin n) (x.slotLen n)
    let b := cdiv (y.2.2 - x.origin n) (x.slotLen n)
    if a ≤ pos then pos + (b - a) else pos) pos

/-- The dither phase latched at a moment, in half engine cycles from the start of the loops: the accumulator is clocked at 2 MHz (07
R266). -/
def ClusterSt.phaseAtHalf (x : ClusterSt) (h : Nat) : Nat :=
  let n := h / 9600
  bits (x.phaseOf n + h % 9600 / 1200 * x.inc n) 22 10

/-- A record written into a circular buffer (08 R315): the buffer, and where the record goes unless it is dropped. -/
def MonBuf.push (b : MonBuf) : MonBuf × Option Nat :=
  let full := decide (2 ^ b.size ≤ (b.wr + 2 ^ 32 - b.rd) % 2 ^ 32)
  if full && b.mode == 1 then ({ b with overrun := true, dropped := satAdd 32 b.dropped 1 }, none)
  else ({ b with wr := (b.wr + 1) % 2 ^ 32, wrapped := b.wrapped || full }, some (b.wr % 2 ^ b.size))

/-- A monitor record is written by DMA (08 R314, R315). -/
def State.record (s : State) (c : Nat) (injected : Bool) (rec : Nat) : State :=
  let x := s.cluster c
  let (b, at_) := if injected then x.injBuf.push else x.regBuf.push
  let s := if at_.isNone then s.count 0x1C else s
  s.modCluster c (fun x => { x with
    injBuf := if injected then b else x.injBuf, regBuf := if injected then x.regBuf else b
    sram := match at_ with
      | some k => mset 0 x.sram (k + (if injected then 2 ^ 16 else 0)) (BitVec.ofNat 64 rec)
      | none => x.sram })

/-- The record of a conversion (08 Converters table 5). -/
def monRecord (raw conv : Nat) (v : Int) (chan : Nat) (late injected : Bool) (phase trigger : Nat) : Nat :=
  field 0 12 raw + field 12 4 conv + field 16 16 (toU 16 v) + field 32 15 chan + field 47 1 (b2n late)
    + field 48 1 (b2n injected) + field 49 10 phase + field 59 4 trigger

/-! ### One inner loop (07 R272, R273, R277, R278, R283) -/

/-- The coefficients and inputs of an inner loop at an update: 14-fraction-bit coefficients, Q15 b_t and o_c, the bypass of
the notch in low-rate mode. -/
structure LoopIn where
  kp : Int
  ki : Int
  kd : Int
  ad : Int
  nb0 : Int
  nb1 : Int
  nb2 : Int
  na1 : Int
  na2 : Int
  bt : Int
  low : Bool

/-- The states of a loop before they are narrowed, in units of 2^-47. -/
structure LoopRaw where
  e : Rat
  i : Rat
  d : Rat
  v : Rat
  y : Rat

/-- The integrator's clamp (07 R273). -/
def iClamp (x : Rat) : Rat := max (-(2 ^ 47 : Nat) : Rat) (min x ((2 ^ 47 - 2 ^ 32 : Nat) : Rat))

/-- One update of a closed loop with pilot error x: r narrows a value to the loop's form as it goes (07 R272, R273). -/
def pidStep (k : LoopIn) (c : ColSt) (x : Rat) (r : Rat → Rat) : LoopRaw :=
  let e := r (x - ((c.rc * q15Unit : Int) : Rat))
  let p := r (k.kp * e / 2 ^ 14)
  let hold : Bool := (c.clampLo && decide (k.ki * e < 0)) || (c.clampHi && decide (0 < k.ki * e))
  let i := if hold then (c.i : Rat) else iClamp (r (c.i + k.ki * e / 2 ^ 14))
  let d := r ((k.ad * c.d * 2 ^ 14 + k.kd * (2 ^ 14 - k.ad) * (e - c.ePrev)) / 2 ^ 28)
  let v := r (p + i + d)
  let y := if k.low then v else r ((k.nb0 * v + k.nb1 * c.v1 + k.nb2 * c.v2 - k.na1 * c.y1 - k.na2 * c.y2) / 2 ^ 14)
  { e := e, i := i, d := d, v := v, y := y }

/-- The column heater power (07 R272): Q15, clamped to 0 to 1. -/
def heaterPower (bt oc : Int) (y : Rat) : Int := clampI 0 32767 (bt + oc + halfUp (y / (q15Unit : Rat)))

/-- The state after an update, the states as they stand. -/
def ColSt.stepped (c : ColSt) (k : LoopIn) (r : LoopRaw) : ColSt :=
  let want := k.bt + c.oc + halfUp (r.y / (q15Unit : Rat))
  { c with
    e := r.e.floor, ePrev := r.e.floor, i := r.i.floor, d := r.d.floor
    v2 := c.v1, v1 := r.v.floor, y2 := c.y1, y1 := r.y.floor
    pc := heaterPower k.bt c.oc r.y
    clampLo := decide (want ≤ 0), clampHi := decide (32767 ≤ want)
    clampRun := if want ≤ 0 ∨ 32767 ≤ want then c.clampRun + 1 else 0 }

/-- A loop closes so that its power does not move (07 R283); none where its integrator would pass the clamp of R273. -/
def ColSt.close (c : ColSt) (k : LoopIn) (x : Rat) : Option ColSt :=
  let e := toQ15 (x - ((c.rc * q15Unit : Int) : Rat))
  let hold : Rat := (((c.pc - k.bt - c.oc) * q15Unit : Int) : Rat)
  let v : Rat := if k.low then hold
    else if k.nb0 = 0 then hold * 2 ^ 40
    else toQ15 (hold * (2 ^ 14 - k.nb1 - k.nb2 + k.na1 + k.na2) / k.nb0)
  let i := v - toQ15 (k.kp * e / 2 ^ 14)
  if iClamp i ≠ i ∨ hold ≠ toQ15 hold then none
  else some { c with
    loop := .closed, d := 0, e := e.floor, ePrev := e.floor, i := i.floor, v1 := v.floor, v2 := hold.floor
    y1 := hold.floor, y2 := hold.floor, clean := 0, clampRun := 0, clampLo := false, clampHi := false }

/-- The band of a detuning (07 R269): 4 GHz is 2^47. -/
def bandOf (x : Rat) : Band :=
  let a := |x|
  if 10 * a ≤ 2 ^ 47 then .clean else if 5 * a ≤ 2 ^ 47 then .hold else .out

/-- The pilot error of a column (07 R268): k_c · Σ / 2^30 with 14 fraction bits of k_c, in units of 2^-47. -/
def ColSt.pilotError (c : ColSt) : Rat := ((c.kc * c.slots.sum * 8 : Int) : Rat)

/-- A pilot level within the comparator's window of a column (07 R289). -/
def ColSt.inWindow (c : ColSt) (v : Int) : Bool :=
  decide (7 * (c.pilotLevel : Int) ≤ 10 * v) && decide (10 * v ≤ 14 * (c.pilotLevel : Int))

/-- A sample goes into the slot of its phase quadrant (07 R268). -/
def ColSt.sample (c : ColSt) (v : Int) (ph : Nat) : ColSt :=
  let sl := if c.slots = [] then [0, 0, 0, 0] else c.slots
  { c with slots := sl.set (ph / 256 % 4) (v * wave ph) }

/-- One step of a sweep (07 R292): the level of the last step is noted, and the next step's power is applied. -/
def ColSt.sweepStep (c : ColSt) (park : Int) (level : Option Int) : ColSt :=
  match c.sweep with
  | none => c
  | some w =>
    if 66 ≤ w.step then c
    else
      let w := match level with
        | some v => if 0 < w.step then
              let w := { w with found := w.found || c.inWindow v }
              if w.level < v then { w with best := w.step - 1, level := v } else w
            else w
        | none => w
      let pc := if w.step < 65 then clampI 0 32767 (park - 8192 + 256 * w.step) else c.pc
      { c with sweep := some { w with step := w.step + 1 }, pc := pc }

/-- The power of step k of a sweep. -/
def sweepPower (park : Int) (k : Nat) : Int := clampI 0 32767 (park - 8192 + 256 * k)

/-! ### Block floating form (07 R279) -/

/-- The stages of a loop's states. -/
def ColSt.stage (c : ColSt) : Nat → List Int
  | 0 => [c.e, c.ePrev]
  | 1 => [c.i]
  | 2 => [c.d]
  | 3 => [c.v1, c.v2]
  | _ => [c.y1, c.y2]

/-- A value rounded half up to a mantissa under exponent x, which stands for multiples of 2^(x + 1) units. -/
def roundTo (x : Nat) (v : Int) : Int := (v + 2 ^ x) / 2 ^ (x + 1) * 2 ^ (x + 1)

/-- Whether a value's mantissa fits 16 bits under an exponent. -/
def fits16 (x : Nat) (v : Int) : Bool := decide (-32768 ≤ roundTo x v / 2 ^ (x + 1)) && decide (roundTo x v / 2 ^ (x + 1) ≤ 32767)

/-- The smallest exponent under which every value of a stage fits. -/
def stageExp (vs : List Int) : Nat := ((List.range 64).find? (fun x => vs.all (fits16 x))).getD 63

/-- A loop's states under the exponents of its lane group. -/
def ColSt.narrowed (c : ColSt) (xs : List Nat) : ColSt :=
  let f := fun n v => roundTo (xs.getD n 31) v
  { c with e := f 0 c.e, ePrev := f 0 c.ePrev, i := f 1 c.i, d := f 2 c.d, v1 := f 3 c.v1, v2 := f 3 c.v2, y1 := f 4 c.y1, y2 := f 4 c.y2 }

/-- After an update of a tile's inner loops, its lane group takes its exponents. -/
def State.normalise (s : State) (tile : Nat) : State :=
  let group := columns.filter (fun p => (s.col tile p).bfp)
  if group = [] then s
  else
    let xs := (List.range 5).map (fun n => stageExp (group.flatMap (fun p => (s.col tile p).stage n)))
    let s := s.modTileLoop tile (fun l => { l with expo := xs })
    group.foldl (fun s p => s.modCol tile p (fun c => c.narrowed xs)) s

/-! ### One loop update of a tile (07 R268 to R283, 08 R307 to R310) -/

/-- The band of a column's last detuning. -/
def State.detOf (s : State) (tile p : Nat) : Band :=
  (s.col tile p).det.getD (if s.loopOf tile p = .locked then .clean else .out)

/-- A tile's columns take up what the rest of the cluster's loops are. -/
def State.materialise (s : State) (tile : Nat) : State :=
  let b := (s.cluster (tile / 256)).base
  columns.foldl (fun s p => s.modCol tile p (fun c =>
    if c.loop = .base then
      { c with loop := b, det := if b = .locked then some .clean else c.det
               sweep := if b = .sweeping then some {} else c.sweep }
    else c)) s

/-- The physical columns that serve the tile's logical columns (01 R11). -/
def State.serving (s : State) (tile : Nat) : List Nat := (List.range 32).map (fun k => (s.tile tile).phys k)

/-- The thermal model of a tile at an update (07 R274, R276). -/
def TileLoop.model (l : TileLoop) (inSlew ffStep ffLeak baseLeak temp : Int) : TileLoop :=
  let q := fun (x : Int) => halfUp ((x : Rat) / (2 ^ 15 : Nat))
  let qf := satQ15 (l.qf + q (baseLeak * (l.qapp - l.qf)))
  let target := if l.gCol = 0 then l.bt else halfUp ((((l.tRef - temp) * 2 ^ 15 - l.gTile * qf : Int) : Rat) / l.gCol)
  let bt := satQ15 (l.bt + clampI (-inSlew) inSlew (target - l.bt))
  let k : Int := (min 15 (16 * l.activity / 800) : Nat)
  let ff := satQ15 (l.ff + q (ffLeak * (ffStep * k - l.ff)))
  { l with qf := qf, bt := bt, ff := ff, qapp := clampI 0 32767 (l.qt - ff), activity := 0 }

/-- What a loop update takes from a reading of its tile: the converter that made the conversion, its slot, and whether it comes late
(08 R309, R310, R316). -/
structure Arrived where
  entry : Nat
  code : Nat
  conv : Nat
  pos : Nat
  late : Bool

/-- The conversions that a loop update's readings stand for: what no converter takes, a pair in a capture would take, or a slot past
the update's last would hold is not converted (08 R310, R316, R317). -/
def State.arrivals (s : State) (tile n : Nat) (rs : List MonReading) : List Arrived :=
  let x := s.cluster (tile / 256)
  let i := tile % 16
  rs.filterMap (fun r =>
    match x.place n (convOf tile) i r.entry with
    | none => none
    | some (m, at_) =>
      let pos := x.slotOf n m at_
      if s.capturingPair (tile / 256) m ∨ 640 ≤ pos ∨ (r.entry.val = 36 ∧ i ≠ 15) then none
      else some { entry := r.entry, code := r.code, conv := m, pos := pos, late := decide (36 * i + 100 < pos + 1) })

/-- The channel of a regular entry (08 Converters table 3): the heater senses follow the update count modulo 17. -/
def entryChan (tile n k : Nat) : Nat :=
  if k = 0 then tempChan tile else if k ≤ 33 then pilotChan tile (k - 1)
  else if k = 36 then refChan (convOf tile) else senseChan tile (2 * (n % 17) + (k - 34))

/-- The kind of a regular entry, as bit of mon.regular_mask (08 R315). -/
def entryKind (k : Nat) : Nat := if k = 0 then 1 else if k ≤ 33 then 0 else if k = 36 then 3 else 2

/-- The phase latched at the start of the conversion in a slot. -/
def ClusterSt.phaseAtSlot (x : ClusterSt) (n pos : Nat) : Nat := x.phaseAtHalf (x.origin n + x.slotLen n * pos)

/-- A physical column is under Carousel calibration (08 R326). -/
def TileSt.tested (t : TileSt) (p : Nat) : Bool := t.calib.any (fun c => decide (c.p = p) && !c.ended)

/-- A loop's form at an update (07 R280): block floating once it is locked, Q15 while it acquires, is open, or is tested by the
Carousel. -/
def ColSt.inForm (c : ColSt) (tested : Bool) : ColSt :=
  if c.loop = .locked ∧ ¬ tested then { c with bfp := true } else if c.bfp then c.inQ15 else c

/-- One inner loop at its tile's update, with the on-time sample's corrected value; without one the loop misses its deadline, and
nothing of it advances (07 R281). -/
def State.updateColumn (s : State) (tile p : Nat) (k : LoopIn) (level : Option Int) : State :=
  match level with
  | none => ((s.count 0x14).modCluster (tile / 256) (fun x => { x with missed := true })).modCol tile p (fun c => { c with missedRun := c.missedRun + 1 })
  | some v =>
    let c := { (s.col tile p).inForm ((s.tile tile).tested p) with missedRun := 0 }
    let b := bandOf c.pilotError
    match c.loop with
    | .sweeping => s.modCol tile p (fun _ => c.sweepStep (dacPower (s.parkCode tile p)) (some v))
    | .closing =>
      match c.close k c.pilotError with
      | some c => s.modCol tile p (fun _ => { c with det := some b })
      | none => s.attemptFailed tile p
    | .closed | .locked =>
      s.modCol tile p (fun _ => { c.stepped k (pidStep k c c.pilotError (if c.bfp then id else toQ15)) with
        det := some b, clean := if b = .clean then c.clean + 1 else 0 })
    | .opened | .held => s.modCol tile p (fun _ => { c with det := some b })
    | .base => s.modCol tile p (fun _ => c)

/-- The loops of a tile at loop update n with its conversions. -/
def State.runLoops (s : State) (tile n : Nat) (as : List Arrived) : State :=
  let x := s.cluster (tile / 256)
  let val := fun (a : Arrived) => x.corrected (entryChan tile n a.entry) a.code
  let ontime := as.filter (fun a => !a.late)
  -- the temperature: a late one is used at the next update
  let newTemp := (as.find? (fun a => decide (a.entry = 0))).map (fun a => (Config.sensorTemp (val a), a.late))
  let l := s.tileLoop tile
  let temp := match newTemp with
    | some (t, false) => t
    | _ => l.tTile
  let l := l.model (s.coeff tile 9) (s.coeff tile 20) (s.coeff tile 21) (s.coeff tile 22) temp
  let s := s.modTileLoop tile (fun _ => { l with tTile := (newTemp.map (·.1)).getD l.tTile, inner := l.inner + 1, at_ := some s.time })
  -- the heater senses, used when they arrive
  let s := as.foldl (fun s a => if a.entry = 34 ∨ a.entry = 35 then s.noteSense tile (2 * (n % 17) + (a.entry - 34)) (val a) else s) s
  -- the pilots
  let pilots := fun (bs : List Arrived) (s : State) => bs.foldl (fun s a =>
    if 1 ≤ a.entry ∧ a.entry ≤ 33 then s.modCol tile (a.entry - 1) (fun c => c.sample (val a) (x.phaseAtSlot n a.pos)) else s) s
  let s := pilots ontime s
  let k : LoopIn :=
    { kp := s.coeff tile 0, ki := s.coeff tile 1, kd := s.coeff tile 2, ad := s.coeff tile 3, nb0 := s.coeff tile 4
      nb1 := s.coeff tile 5, nb2 := s.coeff tile 6, na1 := s.coeff tile 7, na2 := s.coeff tile 8, bt := l.bt, low := x.lowAt n }
  let s := columns.foldl (fun s p =>
    s.updateColumn tile p k ((ontime.find? (fun a => decide (a.entry = p + 1))).map val)) s
  let s := pilots (as.filter (·.late)) s
  let s := s.normalise tile
  -- the powers go to the heaters
  let s := columns.foldl (fun s p =>
    match (s.col tile p).loop with
    | .closed | .locked | .sweeping | .closing => s.setTarget tile p (dacCode (s.col tile p).pc)
    | _ => s) s
  let s := if s.light.compute = .lost then s.modHeater tile 33 (fun h => { h with target := none }) else s.setTarget tile 33 (dacCode l.qapp)
  let m := ((s.serving tile).map (fun p => (s.col tile p).pc)).sum
  s.modTileLoop tile (fun l => { l with means := (m :: l.means).take 8 })

/-- The records of a tile's conversions go to the regular buffer (08 R314, R315). -/
def State.recordAll (s : State) (tile n : Nat) (as : List Arrived) : State :=
  let c := tile / 256
  let x := s.cluster c
  as.foldl (fun s a =>
    if bit (s.obj 0x4800 3) (entryKind a.entry) then
      let ch := entryChan tile n a.entry
      s.record c false (monRecord a.code a.conv (x.corrected ch a.code) ch a.late false (x.phaseAtSlot n a.pos) 0)
    else s) s

/-- Whether the loops of a cluster that runs update in loop update n: each one, or one in four in low-rate mode (07 R277). -/
def ClusterSt.updatesAt (x : ClusterSt) (n : Nat) : Bool := !x.lowAt n || decide ((n - x.lowFrom.getD 0) % 4 = 3)

/-! ### The calibration of a window, at its loop updates (08 R326 to R330) -/

/-- The number of a trim field lies at neither end of its range (08 R328). -/
def trimOk (w : Nat) (x : Nat) : Bool := decide (sint w x ≠ -(2 ^ (w - 1) : Nat)) && decide (sint w x ≠ (2 ^ (w - 1) - 1 : Nat))

/-- Level entries rise strictly with the digit's value (08 R328): high digits are signed (02 R46). -/
def levelsRise (high : Bool) (l : List Nat) : Bool :=
  let order := if high then [8, 9, 10, 11, 12, 13, 14, 15, 0, 1, 2, 3, 4, 5, 6, 7] else List.range 16
  let vs := order.map (fun i => l.getD i 0)
  decide (l.length = 16) && (vs.zip vs.tail).all (fun p => decide (p.1 < p.2))

/-- What a calibration has fitted passes, the line-identity check aside, which it makes before (08 R328): a static error within ±1.0
code and a noise of at most 0.3 code rms at every setting. -/
def calPasses (f : CalFit) : Bool :=
  trimOk 8 (bits f.trim.toNat 0 8) && trimOk 8 (bits f.trim.toNat 8 8) && trimOk 10 (bits f.trim.toNat 16 10)
    && levelsRise true (f.levelHi.map (fun x => (x : Nat))) && levelsRise false (f.levelLo.map (fun x => (x : Nat)))
    && f.offsets.all (fun o => decide (-31 ≤ o) && decide (o ≤ 30)) && decide (f.offsets.length = 64)
    && decide (f.errors.length = 16) && f.errors.all (fun e => decide (|e.1| ≤ 1000) && decide (e.2 ≤ 300))

/-- Fitted values become the committed ones (08 R326 step 9); reserved trim bits stay zero. The lock temperature is fitted with them (07,
How a column is tuned); o_c, which only an open loop may change (R283), follows at the next baseline calibration. -/
def ColSt.commit (c : ColSt) (f : CalFit) (time : Nat) : ColSt :=
  { c with trim := BitVec.ofNat 32 (bits f.trim.toNat 0 26), levelHi := f.levelHi.map (fun x => (x : Nat)), levelLo := f.levelLo.map (fun x => (x : Nat))
           offsets := f.offsets, tLock := f.tLock, calFails := 0, lastCal := time, trimAt := some time }

/-- A calibration fails (08 R329): the column keeps its values and stays covered by the spare, to be calibrated again in place; the
second failure in a row retires it. -/
def State.calFailed (s : State) (tile : Nat) (c : Calib) : State :=
  let s := (s.count 0x1F).modCol tile c.p (fun x => { x with calFails := x.calFails + 1 })
  if 2 ≤ (s.col tile c.p).calFails then s.retireColumn tile c.p
  else
    let s := s.modTile tile (fun t => { t with
      calib := none, awaiting := if c.p ∈ t.awaiting then t.awaiting else t.awaiting ++ [c.p]
      relieved := if c.k.isSome then some c.p else t.relieved, why := if c.k.isSome ∧ t.why = SpareUse.carousel then .relieved else t.why })
    if c.p = 32 then s.fillColumn tile 32 0 else s

/-- Step 9 of a window (08 R326, R328, R329): the values are committed, or the calibration fails. A column that passed is rewritten and
mapped back, the spare is written with digit 0. -/
def State.calEnds (s : State) (tile : Nat) (c : Calib) (f : CalFit) : State :=
  if calPasses f then
    let s := (s.modCol tile c.p (fun x => x.commit f s.time)).modTile tile (fun t => { t with
      warned := t.warned.filter (· ≠ c.p), awaiting := t.awaiting.filter (· ≠ c.p)
      relieved := if t.relieved = some c.p then none else t.relieved, modelSuspect := false
      calib := if c.p = 32 then none else some { c with ended := true } })
    if c.p = 32 then s.fillColumn tile 32 0 else s.mapBack tile c.p
  else s.calFailed tile c

/-- No pass of an op lights a tier: pattern and check slots may drive its row modulators (01 R40, 07 R294, 08 R327). -/
def State.tierFree (s : State) (tier : Nat) : Bool :=
  s.litOps.all (fun o => !(s.opRegions o).any (fun r => decide (r.tFirst ≤ tier) && decide (tier ≤ r.tLast)))

/-- A recovery check waits for a tier's row modulators (07 R294). -/
def State.recoveryCheckIn (s : State) (tier : Nat) : Bool := s.cal.checks.any (fun k => decide (k.tile / 128 = tier) && !k.carousel)

/-- A loop update has brought a tile's calibration readings that count (08 R327): in pass slots of an op that lights the tier, or in
pattern slots of an unlit tier whose row modulators nothing else drives, recovery checks first; with the column's detuning clean, and
not within 1 µs of a trim change (R304). -/
def State.stimulated (s : State) (tile p : Nat) (stim : Stimulus) : Bool :=
  let tier := tile / 128
  decide (s.detOf tile p = .clean) && (s.col tile p).trimAt.all (fun t => decide (t + 1200 ≤ s.time))
    && match stim with
      | .none => false
      | .lit => !s.tierFree tier || s.tileLoops.any (fun e => decide (e.1 / 128 = tier) && decide (0 < e.2.activity))
      | .pattern => s.tierFree tier && !s.recoveryCheckIn tier && decide (mget 0 s.cal.driven tier ≤ s.time)

/-- Loop updates that a step of a calibration takes (08 Converters table 9). -/
def stepUpdates (step : Nat) : Nat := match step with
  | 3 => 4 | 4 => 4 | 5 => 32 | 6 => 4 | _ => 1

/-- The ring writes with which an update of a step begins (08 Converters table 9): the high-kind digit 0, each digit of each kind in
turn, mixed digits, and for the line-identity check the low-kind digit 1 (07 R293). -/
def State.stepWrites (s : State) (tile : Nat) (c : Calib) : State :=
  match c.step with
  | 4 => if c.made = 0 then s.fillColumn tile c.p 0 else s
  | 5 => s.fillColumn tile c.p (c.made % 16) (decide (c.made < 16))
  | 6 => if c.made = 0 then s.askColumn 4 tile c.p true (fun l => (Config.mixedDigit l).toNat) else s
  | 8 => { s.fillColumn tile c.p 1 false with
      cal := { s.cal with checks := s.cal.checks ++ [({ tile := tile, p := c.p, since := s.time, carousel := true } : Check)] } }
  | _ => s

/-- A calibration goes on (08 R326, R327, R330, R332): an update of steps 3 to 7 counts once the spare covers the column and readings
count; trims change at the end of steps 3 and 4; step 9 takes what has been fitted. How many readings one slot gives, and so how many
updates a step with few slots takes, the spec leaves open: an update with such a slot is enough (DESIGN CHOICE, log 102). -/
def State.calStep (s : State) (tile n : Nat) (stim : Stimulus) (fit : Option CalFit) : State :=
  let t := s.tile tile
  match t.calib with
  | none => s
  | some c =>
    let covered := decide (t.pendingMap = []) && (if c.p = 32 then t.serves.isNone else decide (t.serves = some c.p))
    if c.ended ∨ n ≤ c.start ∨ ¬ covered ∨ ¬ s.runs (procCluster (tile / 256)) then s
    else if c.step = 9 then
      match fit with
      | some f => s.calEnds tile c f
      | none => s
    else if c.step = 8 ∨ ¬ s.stimulated tile c.p stim then s
    else
      let c' := if c.made + 1 < stepUpdates c.step then { c with made := c.made + 1 } else { c with step := c.step + 1, made := 0 }
      let s := s.modTile tile (fun t => { t with calib := some c' })
      let s := if c'.step ≠ c.step ∧ c.step ≤ 4 then s.modCol tile c.p (fun x => { x with trimAt := some s.time }) else s
      s.stepWrites tile c'

/-! ### Stops of a cluster's loops, converter failures (07 R284, 08 R316, 17 R562, R563) -/

/-- A cluster's loops stop: every loop opens and holds, in Q15 form (07 R280, R284). -/
def State.stopLoops (s : State) (c : Nat) : State :=
  let s := s.modCluster c (fun x => { x with
    loopsOn := false, goingToSleep := false, base := if x.base = .locked then .held else if x.base = .held then .held else .opened })
  { s with cols := mmap {} s.cols (fun k (x : ColSt) =>
      if k / 33 / 256 = c ∧ x.loop ≠ .base then
        { x.inQ15 with loop := if x.loop = .locked ∨ x.loop = .held then .held else .opened, sweep := none, clean := 0 }
      else x) }

/-- MONITOR_FAIL: the converter's entries are dealt, and what waits for it moves to its tiles' hosts, at the next loop update; a third
failure in a bank makes every tile of the cluster unusable and stops its loops. -/
def State.monitorFail (s : State) (c conv : Nat) : State :=
  let x := s.cluster c
  if conv ∈ x.monFailed then s
  else
    let n := s.updateNow c
    let x' : ClusterSt := { x with monFailed := x.monFailed ++ [conv], failing := x.failing.filter (fun (f : Nat × Nat) => decide (n ≤ f.2)) ++ [(conv, n)] }
    let s := s.modCluster c (fun _ => { x' with
      queued := x'.queued.map (fun (t : Trigger) =>
        if t.conv = conv then { t with conv := x'.hostOf conv (chanTile (t.chans.headD 0) % 16) } else t) })
    let k := x.monFailed.length + 1
    let s := s.condition 0x010C 1 (field 0 7 c + field 7 4 conv + field 11 2 (min k 3))
    let s := if k = 1 then s.interruption 0x010C (x.loopStart + 4800 * (n + 1) - s.time) else s
    if k = 3 then ((List.range 256).foldl (fun s j => s.makeUnusable (256 * c + j) true) s).stopLoops c else s

/-- The bank references among a tile's conversions are held against their calibrated values: more than 16 raw codes away, the converter
has failed (08 R316). -/
def State.checkRefs (s : State) (tile : Nat) (as : List Arrived) : State :=
  as.foldl (fun s a =>
    let c := tile / 256
    match mget 0 (s.cluster c).refs (convOf tile) with
    | 0 => s
    | r + 1 => if a.entry = 36 ∧ (r + 16 < a.code ∨ a.code + 16 < r) then s.monitorFail c (convOf tile) else s) s

/-- LOOP_UPDATE (07 R262, R266 to R283, R292, 08 R307 to R310, R316, R320, R326): the update slot of a tile. Its conversions arrive as
readings; a pilot without one has not arrived. Of a stopped cluster, the strobe alone goes on while the compute comb is lost. -/
def State.loopUpdate (s : State) (tile : Nat) (rs : List MonReading) (stim : Stimulus) (fit : Option CalFit) : State :=
  let c := tile / 256
  let x := s.cluster c
  let n := s.updateNow c
  if x.asleep ∨ x.inReset then s
  else if ¬ x.loopsOn then
    if s.light.compute = .lost ∧ (s.tileLoop tile).at_.all (fun t => decide (t + 4800 ≤ s.time)) then
      (s.strobe tile).modTileLoop tile (fun l => { l with at_ := some s.time })
    else s
  else if n < (s.tileLoop tile).updated ∨ ¬ x.updatesAt n then s
  else
    let s := (s.materialise tile).modCluster c (fun x => { x with dither := ditherCodes (s.obj 0x4000 0x0C) (x.phaseOf n) })
    let as := s.arrivals tile n rs
    let s := (s.runLoops tile n as).recordAll tile n as
    let s := (s.strobe tile).modTileLoop tile (fun l => { l with updated := n + 1 })
    (s.checkRefs tile as).calStep tile n stim fit

/-! ### Outer updates (07 R275, R286, R301) -/

/-- The outer loop's states, as those of a loop. -/
def TileLoop.core (l : TileLoop) : ColSt :=
  { e := l.oe, ePrev := l.oePrev, i := l.oi, d := l.od, v1 := l.ov1, v2 := l.ov2, y1 := l.oy1, y2 := l.oy2
    clampLo := l.oclampLo, clampHi := l.oclampHi, bfp := l.obfp }

/-- The outer loop takes a loop's states. -/
def TileLoop.withCore (l : TileLoop) (c : ColSt) : TileLoop :=
  { l with oe := c.e, oePrev := c.ePrev, oi := c.i, od := c.d, ov1 := c.v1, ov2 := c.v2, oy1 := c.y1, oy2 := c.y2
           oclampLo := c.clampLo, oclampHi := c.clampHi, obfp := c.bfp }

/-- The outer PID and notch (07 R272, R275, R279): m_t over the last 8 inner updates, and q_t moved by at most out_slew. -/
def TileLoop.outerStep (l : TileLoop) (k : LoopIn) (slew : Int) : TileLoop :=
  let m : Rat := if l.means = [] then 16384 else (l.means.sum : Rat) / (32 * l.means.length : Nat)
  let r : Rat → Rat := if l.obfp then id else toQ15
  let raw := pidStep k l.core (r ((m - 16384) * q15Unit)) r
  let q := heaterPower 0 0 raw.y
  { l.withCore (l.core.stepped k raw) with qt := l.qt + clampI (-slew) slew (q - l.qt), outer := l.outer + 1 }

/-- The tiles of the lane group of a tile's outer loop: 32 tiles of its tier (07 R279). -/
def outerGroup (tile : Nat) : List Nat := (List.range 32).map (fun j => tile / 32 * 32 + j)

/-- After an outer update, the lane group takes its exponents (07 R279). -/
def State.normaliseOuter (s : State) (tile : Nat) : State :=
  let group := (outerGroup tile).filter (fun t => (s.tileLoop t).obfp)
  if group = [] then s
  else
    let xs := (List.range 5).map (fun n => stageExp (group.flatMap (fun t => (s.tileLoop t).core.stage n)))
    group.foldl (fun s t => s.modTileLoop t (fun l => { l.withCore (l.core.narrowed xs) with oexpo := xs })) s

/-- An outer loop counts as locked, and runs in block floating form, while the loops of all its tile's serving columns are locked: R270
and R280 speak of column loops alone (DESIGN CHOICE, log 101). -/
def State.outerForm (s : State) (tile : Nat) : State :=
  let locked := (s.serving tile).all (fun p => decide (s.loopOf tile p = .locked))
  s.modTileLoop tile (fun l => if locked then { l with obfp := true } else if l.obfp then l.withCore l.core.inQ15 else l)

/-- The lift error of a column, with its tile's g_col (R274), exceeds loop.plaus_window (07 R286). -/
def State.liftWrong (s : State) (tile p : Nat) : Bool :=
  let c := s.col tile p
  let l := s.tileLoop tile
  decide (f32Val (s.obj 0x4000 5) < ((l.gCol * |c.pc - (l.bt + c.oc)| : Int) : Rat) / ((256 * 32768 : Nat) : Rat))

/-- The lift of a column in °C (07, How a column is tuned): the tile heater's share and the column heater's. -/
def State.lift (s : State) (tile p : Nat) : Rat :=
  let l := s.tileLoop tile
  let c := s.col tile p
  ((l.gTile * l.qapp + c.gain * c.pc : Int) : Rat) / ((256 * 32768 : Nat) : Rat)

/-- The lift range of a column in °C (07 R265). -/
def State.liftMax (s : State) (tile p : Nat) : Rat := (((s.tileLoop tile).gTile + (s.col tile p).gain : Int) : Rat) / 256

/-- The lifts of the serving columns of the tiles whose loops have run. -/
def State.lifts (s : State) : List Rat :=
  s.tileLoops.flatMap (fun e => if e.2.updated = 0 then [] else (s.serving e.1).map (s.lift e.1))

/-- OUTER_UPDATE: outer update m falls on inner update 8m + 7 (07 R271), in low-rate mode too (R277). -/
def State.outerUpdate (s : State) (tile : Nat) : State :=
  let c := tile / 256
  let x := s.cluster c
  let n := s.updateNow c
  if ¬ x.loopsOn ∨ x.asleep ∨ x.inReset ∨ s.light.compute = .lost ∨ (s.tileLoop tile).updated ≠ n + 1 ∨ (s.tileLoop tile).inner ≠ 8 * ((s.tileLoop tile).outer + 1) then s
  else
    let k : LoopIn :=
      { kp := s.coeff tile 10, ki := s.coeff tile 11, kd := s.coeff tile 12, ad := s.coeff tile 13, nb0 := s.coeff tile 14
        nb1 := s.coeff tile 15, nb2 := s.coeff tile 16, na1 := s.coeff tile 17, na2 := s.coeff tile 18, bt := 0, low := x.lowAt n }
    let s := (((s.outerForm tile).modTileLoop tile (fun l => l.outerStep k (s.coeff tile 19)))).normaliseOuter tile
    let s := if (s.tile tile).modelSuspect then s
      else columns.foldl (fun s p =>
        match (s.col tile p).loop with
        | .closed | .locked => s.modCol tile p (fun k => { k with plaus := if s.liftWrong tile p then k.plaus + 1 else 0 })
        | _ => s) s
    let ls := s.lifts
    let s := match ls with
      | [] => s
      | a :: as => { s with light := { s.light with liftMin := f32Code (as.foldl min a), liftMax := f32Code (as.foldl max a) } }
    let bad := (s.serving tile).filterMap (fun p =>
      if s.lift tile p < 25 then some (p, 0) else if s.liftMax tile p - s.lift tile p < 20 then some (p, 1) else none)
    match bad, x.lastHeadroom with
    | (p, dir) :: _, h =>
      if (h.map (fun t => decide (s.time < t + 250000 * 4800))).getD false then s
      else (s.condition 0x0107 1 (field 0 15 tile + field 15 6 p + field 21 1 dir)).modCluster c (fun x => { x with lastHeadroom := some s.time })
    | [], _ => s

/-- PLAUSIBILITY_FAIL (07 R286, R287): the columns of a tile whose lift error exceeded the window at two consecutive outer
updates; four or more at once make the tile's thermal model suspect. -/
def State.plausibilityFail (s : State) (tile : Nat) : State :=
  let bad := columns.filter (fun p => decide (2 ≤ (s.col tile p).plaus) && decide ((s.col tile p).loop = .closed ∨ (s.col tile p).loop = .locked))
  if bad = [] ∨ (s.tile tile).modelSuspect then s
  else
    let s := bad.foldl (fun s p => (s.count 0x15).modCol tile p (fun c => { c with plaus := 0 })) s
    if 4 ≤ bad.length then
      ((s.modTile tile (fun t => { t with modelSuspect := true })).count 0x16).condition 0x0104 1 (field 0 15 tile)
    else bad.foldl (fun s p => s.enterRecovery tile p 2) s

/-! ### Locks, losses, flags, sweeps and checks (07 R270, R282, R289 to R295) -/

/-- LOOP_LOCK (07 R270, R280): 16 clean updates; a recovered column's rings are then to take the low-kind digit 1, and its
line-identity check is due (07 R293). -/
def State.loopLock (s : State) (tile p : Nat) : State :=
  let c := s.col tile p
  if c.loop ≠ .closed ∨ c.clean < 16 then s
  else
    let s := s.modCol tile p (fun c => { c with loop := .locked })
    if p ∈ (s.tile tile).recovs ∨ s.light.recheck then
      { s.fillColumn tile p 1 false with cal := { s.cal with checks := s.cal.checks ++ [({ tile := tile, p := p, since := s.time } : Check)] } }
    else s.modCol tile p (fun c => { c with failed := 0 })

/-- PILOT_DEADLINE_LOSS (07 R282, R290, 08 R311). -/
def State.deadlineLoss (s : State) (tile p : Nat) : State :=
  if (s.col tile p).missedRun < 16 ∨ p ∈ (s.tile tile).recovs then s
  else (s.pilotLoss tile p).enterRecovery tile p 3

/-- PILOT_COMPARATOR_FLAG (07 R289, R290): lit says that the flag falls in a pass slot of the running op, whose integer of
that column is then ambiguous. -/
def State.comparatorFlag (s : State) (tile p : Nat) (lit : Bool) : State :=
  let inPass := lit && (s.passOp.toList ++ s.issueOp.toList).any (fun o => s.lights o tile)
  let band := s.detOf tile p
  let s := s.modCol tile p (fun c => { c with clean := 0 })
  let s := if inPass then { s with basin := { s.basin with flagged := s.basin.flagged ++ [(tile, p)] } } else s
  let s := if inPass then s else s.pilotLoss tile p
  if band = .out then s else s.enterRecovery tile p (if inPass then 0 else 1)

/-- SWEEP_END (07 R292, R295): the step of greatest pilot power, if some step's lay within the comparator's window, else a failed
attempt. -/
def State.sweepEnd (s : State) (tile p : Nat) : State :=
  let c := s.col tile p
  match c.loop, c.sweep with
  | .sweeping, some w =>
    if w.step < 66 then s
    else if w.found then
      let pc := sweepPower (dacPower (s.parkCode tile p)) w.best
      (s.modCol tile p (fun c => { c with loop := .closing, sweep := none, pc := pc })).setTarget tile p (dacCode pc)
    else s.attemptFailed tile p
  | _, _ => s

/-- The integers that the 8 check slots must give (07 R293). -/
def checkWants : List Int := [32, 32, 32, 32, 32, 32, 64, 0]

/-- A recovered column returns to service (07 R293): its digits are rewritten from the mirror and it is mapped back. -/
def State.columnBack (s : State) (tile p : Nat) : State :=
  let s := (s.modTile tile (fun t => { t with recovs := t.recovs.filter (· ≠ p) })).modCluster (tile / 256) (fun x => { x with lastAct := s.time })
  let s := s.modCol tile p (fun c => { c with failed := 0 })
  let t := s.tile tile
  if p = 32 then
    let s := match t.serves with
      | some k => s.copyColumn 4 tile k 32
      | none => s
    match t.suspended with
    | some 32 => s.modTile tile (fun t => { t with suspended := none })
    | some k =>
      if t.serves = none ∧ t.pendingMap = [] then
        s.queueMap tile [{ col := some k, why := if (s.col tile k).retired then .retired else .recovery }]
      else s
    | none => if t.serves = none ∧ t.pendingMap = [] then s.fillColumn tile 32 0 else s
  else if t.serves = some p ∧ t.why = .recovery then s.mapBack tile p
  else
    (s.modTile tile (fun t => { t with suspended := if t.suspended = some p then none else t.suspended
                                       pendingMap := t.pendingMap.filter (fun m => decide (m ≠ { col := some p, why := .recovery }))
                                       loading := if t.loading = some p then none else t.loading })).copyColumn 4 tile p p

/-- The 8 integers of a line-identity check are right and clean (07 R293). -/
def identityOk (codes : List (Fin 8192)) : Bool :=
  let got := codes.map (fun (c : Fin 8192) => convert false ((c : Nat) : Int))
  decide (got.map (·.1) = checkWants) && got.all (fun x => decide (x.2 = .clean))

/-- A check may run now (07 R293, R294): its column holds the test digits, no op lights the tier, nothing else drives the tier's row
modulators, recovery checks go first, and the cluster core, which evaluates it, runs. -/
def State.checkReady (s : State) (k : Check) : Bool :=
  let tier := k.tile / 128
  s.tierFree tier && !s.copying k.tile k.p && decide (mget 0 s.cal.driven tier ≤ s.time) && (!k.carousel || !s.recoveryCheckIn tier)
    && s.runs (procCluster (k.tile / 256))

/-- LINE_IDENTITY_CHECK (07 R293 to R295, 08 Converters table 9 step 8): the check of a column runs, with the codes of its 8 slots of 5
ns. Its warn and ambiguous integers count as any others (02 R61, R68). -/
def State.identityCheck (s : State) (tile p : Nat) (codes : List (Fin 8192)) : State :=
  match s.cal.checks.find? (fun k => decide (k.tile = tile) && decide (k.p = p)) with
  | none => s
  | some k =>
    if ¬ s.checkReady k then s
    else
      let s := { s with
        cal := { s.cal with checks := s.cal.checks.filter (· ≠ k), driven := mset 0 s.cal.driven (tile / 128) (s.time + 48) }
        basin := { s.basin with slot := s.basin.slot + (if k.forced then 8 else 0) } }
      let cls := codes.map (fun (c : Fin 8192) => (convert false ((c : Nat) : Int)).2)
      let warns := (cls.filter (fun x => decide (x = .warn))).length
      let s := (s.count 0x00 warns).count 0x01 (cls.filter (fun x => decide (x = .ambiguous))).length
      let s := if warns = 0 then s else s.modTile tile (fun t => { t with warned := if p ∈ t.warned then t.warned else t.warned ++ [p] })
      if k.carousel then
        match (s.tile tile).calib with
        | some c =>
          if c.p ≠ p ∨ c.ended then s
          else if identityOk codes then s.modTile tile (fun t => { t with calib := some { c with step := 9, made := 0 } })
          else s.calFailed tile c
        | none => s
      else if identityOk codes then s.columnBack tile p
      else s.attemptFailed tile p

/-- CHECK_FORCE_INSERT (07 R294): a check has waited 250 µs, and the Basin inserts its slots between two ops. -/
def State.forceCheck (s : State) (tile p : Nat) : State :=
  { s with cal := { s.cal with checks := s.cal.checks.map (fun k =>
      if k.tile = tile ∧ k.p = p ∧ k.since + 300000 ≤ s.time then { k with forced := true } else k) } }

/-! ### Thermal pauses (07 R298, R299) -/

/-- A column calls for a pause (07 R298). -/
def State.columnHot (s : State) (tile p : Nat) : Bool := decide (s.detOf tile p = .out) || decide (2 ≤ (s.col tile p).clampRun)

/-- The op next to reach op start (07 R298): the first, in the order of R181, of those that wait for it and would not fail there, behind
a preempted op of its own queue or a lower one. -/
def State.nextOp (s : State) : Option Op :=
  let waits := fun (o : Op) => o.waitsStart && s.canSchedule && (match s.atStart o with | .err _ _ => false | _ => true)
  match firstOp (s.ops.filter waits), s.preemptedOp with
  | some o, some p => if p.queue ≤ o.queue then some p else some o
  | none, some p => some p
  | r, none => r

/-- The tiles whose loops may hold the Basin: those that the running op lights and those of the op next to reach op start. -/
def State.pauseTiles (s : State) : List Nat :=
  ([s.finishingOp, s.runningOp, s.nextOp].filterMap id).flatMap (fun o => (s.opRegions o).flatMap Region.tileList)

/-- A thermal pause is requested, and the Basin does not pause yet (07 R298). -/
def State.pauseDue (s : State) : Bool :=
  decide (s.basin.state = .running) && s.pauseTiles.any (fun t => (s.serving t).any (s.columnHot t))

/-- THERMAL_PAUSE: the Basin pauses at the next pass boundary, after the map changes that are due there (01 R20). -/
def State.thermalPause (s : State) : State :=
  if ¬ s.pauseDue ∨ s.mapsDue then s
  else { s with basin := { s.basin with state := .paused }, light := { s.light with pausing := true, pauseStart := s.time, alerted := false } }

/-- A pass boundary's actions in the order of R20: a map change that is due and a pause that is requested come before a preemption. -/
def State.atBoundary (s : State) (act : State → State) : State := if s.mapsDue ∨ s.pauseDue then s else act s

/-- THERMAL_PAUSE_END: a loop update of every one of those tiles since the pause began has found every serving column clean. -/
def State.thermalPauseEnd (s : State) : State :=
  if s.basin.state ≠ .paused ∨ ¬ s.pauseTiles.all (fun t =>
      (s.tileLoop t).at_.any (fun a => decide (s.light.pauseStart < a)) && (s.serving t).all (fun p => decide (s.detOf t p = .clean))) then s
  else { s with basin := { s.basin with state := .running } }.tellPause

/-- PAUSE_ALARM. -/
def State.pauseAlarm (s : State) : State :=
  let n := (s.time - s.light.pauseStart) / 4800
  if s.basin.state ≠ .paused ∨ s.light.alerted ∨ n ≤ s.obj 0x4000 8 then s
  else { s with light := { s.light with alerted := true } }.condition 0x0106 1 (field 0 32 n)

/-! ### Stop, restart and rate of a cluster's loops (07 R266, R277, R284, R285, 08 R318) -/

/-- A cluster's loops start, their generators at phase 0 (07 R266): loops that were locked when they stopped close, the others acquire by
a sweep (07 R283, R284). While the compute comb is lost they are open, until it returns (R262); before it is lit, none starts. -/
def State.startLoops (s : State) (c : Nat) : State :=
  let restart := fun (l : LoopSt) => match l with
    | .held => if s.light.compute = .lost then LoopSt.opened else LoopSt.closing
    | .base => .base
    | _ => if s.light.compute = .lost then .opened else .sweeping
  if s.light.compute = .dark then s
  else
  let s := s.modCluster c (fun x => { x with
    loopsOn := true, loopStart := s.time, phase := 0, phaseAt := 0, lowFrom := none, lowTo := none, lastAct := s.time, announced := false
    base := restart x.base, failing := [], injected := [] })
  let s := { s with tileLoops := mmap {} s.tileLoops (fun t (l : TileLoop) =>
    if t / 256 = c then { l with updated := 0, outer := 0, inner := 0, lastWindow := none } else l) }
  { s with cols := mmap {} s.cols (fun k (x : ColSt) =>
      if k / 33 / 256 = c ∧ ¬ x.retired then
        { x with loop := restart x.loop, bfp := false, clean := 0, clampRun := 0
                 sweep := if restart x.loop = .sweeping then some {} else none }
      else x) }

/-- Columns of a cluster in the recovery procedure (41cc:05). -/
def State.recovering (s : State) (c : Nat) : Nat :=
  ((s.tiles.filter (fun e => decide (e.1 / 256 = c))).map (fun e => e.2.recovs.length)).sum

/-- The moment is a loop update boundary of a cluster. -/
def State.atUpdateBoundary (s : State) (c : Nat) : Bool := decide ((s.time - (s.cluster c).loopStart) % 4800 = 0)

/-- LOW_RATE_ENTRY (08 R318): at a loop update boundary after an idle stretch. -/
def State.lowRateEntry (s : State) (c : Nat) : State :=
  let x := s.cluster c
  let n := s.updateNow c
  if ¬ x.loopsOn ∨ x.asleep ∨ x.lowAt n ∨ ¬ s.atUpdateBoundary c ∨ s.recovering c ≠ 0 ∨ x.capture.isSome
    ∨ s.time < x.lastAct + 4800 * s.obj 0x4800 1 then s
  else s.modCluster c (fun x => { x with lowFrom := some n, lowTo := none, phase := x.phaseOf n, phaseAt := n, announced := false })

/-- LOW_RATE_EXIT (07 R277): the cluster is back at the full rate from the next loop update. -/
def State.lowRateExit (s : State) (c : Nat) : State :=
  let x := s.cluster c
  let n := s.updateNow c
  if ¬ x.lowAt n ∨ x.lowTo.isSome ∨ ¬ x.announced then s
  else s.modCluster c (fun x => { x with lowTo := some (n + 1), phase := x.phaseOf (n + 1), phaseAt := n + 1 })

end Sys2Proof.Machine
end

