-- ==== Sys2Proof/Machine/Carousel.lean ====
section
/-! DEFINITION. Monitor banks, heater faults, captures and the Carousel (08 R311 to R333, 17 R562, R563). -/

namespace Sys2Proof.Machine

/-! ### Heater faults (08 R321, R322) -/

/-- A heater fault latches: HEATER_FAULT is raised, the DAC takes its parking code, a column heater's column is retired at
once, and a tile heater's tile becomes unusable. -/
def State.heaterFault (s : State) (tile h : Nat) (short : Bool) : State :=
  let x := s.heater tile h
  if x.short ∨ x.open_ then s
  else
    let s := s.modHeater tile h (fun x => { x with short := short, open_ := !short, target := none, applied := none })
    let s := (s.count 0x1E).condition 0x0108 2 (field 0 15 tile + field 15 6 h + field 21 1 (b2n short) + field 22 1 (b2n (!short)))
    let s := s.startFault 0x0108 tile
    let s := if short then s.trigger tile 1 ((List.range 34).map (senseChan tile)) else s
    if h = 33 then (s.parkTile tile).makeUnusable tile true
    else if (s.col tile h).retired then s
    else (s.columnOut tile h .retired).retireColumn tile h

/-- HEATER_SHORT (08 R321). -/
def State.heaterShort (s : State) (tile h : Nat) : State := s.heaterFault tile h true

/-- HEATER_OPEN (08 R321): two senses in a row were low at an applied code of 2,048 or more; not detected once two converters of the
bank have failed (17 R562). -/
def State.heaterOpen (s : State) (tile h : Nat) : State :=
  if (s.heater tile h).lowSenses < 2 ∨ 2 ≤ (s.cluster (tile / 256)).monFailed.length then s
  else s.heaterFault tile h false

/-! ### Injected work (08 R311, R312) -/

/-- TEMP_ALARM: a tile's sensor has read above mon.temp_alarm. -/
def State.tempAlarm (s : State) (tile : Nat) : State :=
  if (((s.tileLoop tile).tTile : Int) : Rat) / 256 ≤ f32Val (s.obj 0x4800 2) then s
  else s.trigger tile 2 (List.replicate 4 (tempChan tile))

/-- The converter that serves a channel (08 Converters table 2). -/
def chanConv (ch : Nat) : Nat :=
  if ch < 8448 then ch / 33 / 16 else if ch < 8704 then (ch - 8448) / 16 else if ch < 17408 then (ch - 8704) / 34 / 16 else ch - 17408

/-- INJECT_REQUEST: 1 to 32 channels of a converter's tiles, in the order listed. -/
def State.injectRequest (s : State) (c conv : Nat) (chans : List Nat) : State :=
  if chans = [] ∨ 32 < chans.length ∨ ¬ s.runs (procCluster c) ∨ ¬ chans.all (fun ch => decide (ch < 17408) && decide (chanConv ch = conv)) then s
  else s.trigger (256 * c + chanTile (chans.headD 0)) 4 chans

/-- INJECTED_SEQUENCE_START: the first trigger that waits for a converter runs from the first slot boundary after it, or after the
sequence before it, with the codes that its conversions give; every one of them is recorded, a pilot's goes to its quadrant slot, and a
heater sense is taken (07 R268, 08 R312 to R315, R318, R321). -/
def State.injectedStart (s : State) (c conv : Nat) (codes : List (Fin 4096)) : State :=
  let x := s.cluster c
  match x.queued.find? (fun t => decide (t.conv = conv)) with
  | none => s
  | some t =>
    let since := 2 * (t.since - x.loopStart)
    let len := x.slotLen (since / 9600)
    let start := max (cdiv since len * len) (x.injectedEnd conv)
    if s.halfNow c < start ∨ codes.length ≠ t.chans.length ∨ x.asleep ∨ x.inReset then s
    else
      let s := s.modCluster c (fun x => { x with
        queued := x.queued.erase t
        injected := x.injected.filter (fun y => decide (9600 * (s.updateNow c - 4) < y.2.2)) ++ [(conv, start, start + len * t.chans.length)] })
      (t.chans.zip codes).zipIdx.foldl (fun s e =>
        let ch := e.1.1
        let raw : Nat := e.1.2
        let v := x.corrected ch raw
        let ph := x.phaseAtHalf (start + len * e.2)
        let tile := 256 * c + chanTile ch
        let s := if ch < 8448 then s.modCol tile (ch % 33) (fun k => k.sample v ph)
          else if 8704 ≤ ch ∧ ch < 17408 then s.noteSense tile ((ch - 8704) % 34) v else s
        s.record c true (monRecord raw conv v ch false true ph t.kind)) s

/-! ### Captures (08 R317) -/

/-- Whether a capture request keeps Converters table 7. -/
def captureOk (v : Nat) : Bool :=
  decide (bits v 0 7 ≤ 97) && decide (1 ≤ bits v 25 13) && decide (bits v 25 13 ≤ 4096) && decide (v < 2 ^ 46)
    && decide (bits v 10 15 < 17408) && decide (chanConv (bits v 10 15) / 2 = bits v 7 3)

/-- A capture has been requested and has not ended. -/
def State.captureOn (s : State) : Option Nat := (s.clusters.find? (fun e => e.2.capture.isSome)).map (·.1)

/-- A capture request (4800:07): whether it is taken. One capture at a time: DESIGN CHOICE. -/
def State.requestCapture (s : State) (v : Nat) : State × Bool :=
  if captureOk v ∧ s.captureOn = none then
    ({ s with cal := { s.cal with captured := [] } }.modCluster (bits v 0 7) (fun x => { x with capture := some { req := v } }), true)
  else (s, false)

/-- CAPTURE_START: at a loop update boundary at which no running op lights a tile that the pair serves. -/
def State.captureStart (s : State) (c : Nat) : State :=
  match (s.cluster c).capture with
  | none => s
  | some q =>
    let lit := s.basinOps.any (fun o => (List.range 32).any (fun j => s.lights o (256 * c + 32 * bits q.req 7 3 + j)))
    if q.started ∨ lit ∨ ¬ s.atUpdateBoundary c then s
    else s.modCluster c (fun x => { x with capture := some { q with started := true, since := s.time }, lastAct := s.time })

/-- CAPTURE_COMPLETE: every pair of samples has been converted, at 320 million samples a second, and the codes are readable at
4800:08. -/
def State.captureComplete (s : State) (c : Nat) (codes : List (Fin 4096)) : State :=
  match (s.cluster c).capture with
  | none => s
  | some q =>
    if ¬ q.started ∨ 2 * s.time < 2 * q.since + 15 * bits q.req 25 13 ∨ codes.length ≠ 2 * bits q.req 25 13 then s
    else { s with cal := { s.cal with captured := codes.map (fun (k : Fin 4096) => (k : Nat)) } }.modCluster c
      (fun x => { x with capture := none, lastAct := s.time })

/-! ### The Carousel (08 R324 to R333) -/

/-- The conditions under which the power core puts a cluster to sleep (15 R522). -/
def State.sleepOk (s : State) (c : Nat) : Bool :=
  let x := s.cluster c
  decide (s.obj 0x5000 0x0A = 1) && !bit (s.obj 0x5000 0x0C) c
    && x.lowAt (s.updateNow c) && x.lowTo.isNone && decide (x.lowFrom.getD 0 + s.obj 0x5000 0x0B ≤ s.updateNow c)
    && s.validRegions.all (fun i =>
        let r := s.region i
        (decide (r.st ≠ .loading) && decide (r.st ≠ .mirrorDamaged)) || decide (c ∉ r.clusterList))
    && decide (s.recovering c = 0) && x.capture.isNone

/-- The Carousel skips a tile (08 R332). -/
def State.skipped (s : State) (tile : Nat) : Bool :=
  let t := s.tile tile
  let x := s.cluster (tile / 256)
  (match s.regionOfTile tile with
    | some i => decide ((s.region i).st = .loading)
    | none => false)
    || !t.recovs.isEmpty || t.retired.isSome || t.unusable || !x.loopsOn || x.asleep || (x.goingToSleep && s.sleepOk (tile / 256)) || x.inReset
    || !s.runs (procCluster (tile / 256))

/-- The column that a tile calibrates at a window's start, and whether the window is a priority window (08 R325, R331). A
column with a damaged granule is not calibrated, and the pointer moves past it (04 R158). While the spare serves a relieved column, that
one goes first, in place: another column that awaits has no spare to cover it (DESIGN CHOICE, log 103). -/
def State.carouselChoice (s : State) (tile : Nat) : Nat × Bool :=
  let t := s.tile tile
  let may := fun (p : Nat) => decide (p = 32) || !s.damaged tile p
  let low := fun (l : List Nat) => columns.find? (fun p => decide (p ∈ l) && may p)
  if t.why = .relieved then (t.serves.getD 32, false)
  else match low t.awaiting with
    | some p => (p, false)
    | none => match (if t.lastPriority then none else low t.warned) with
      | some p => (p, true)
      | none => ((((List.range 33).map (fun i => (t.pointer + i) % 33)).find? may).getD 32, false)

/-- CAROUSEL_WINDOW (08 R324 to R326): the window of every 50th loop update opens in a tile. The spare takes an active
column's digits, unless it covers that column already. -/
def State.carouselWindow (s : State) (tile : Nat) : State :=
  let n := s.updateNow (tile / 256)
  let t := s.tile tile
  if s.skipped tile ∨ s.obj 0x4C00 1 = 0 ∨ n % 50 ≠ 0 ∨ (s.tileLoop tile).lastWindow = some n ∨ t.calib.isSome
    ∨ (t.why ≠ .idle ∧ t.why ≠ .relieved) ∨ t.pendingMap ≠ []
    ∨ (t.why = .relieved ∧ (t.serves.map (s.damaged tile)).getD false) then s
  else
    let (p, pri) := s.carouselChoice tile
    let s := s.modTileLoop tile (fun l => { l with lastWindow := some n })
    let s := s.modTile tile (fun t => { t with
      calib := some { p := p, k := if p = 32 then none else some p, start := n }, lastPriority := pri
      pointer := if pri ∨ t.why = .relieved ∨ p ∈ t.awaiting then t.pointer else (p + 1) % 33 })
    if p = 32 ∨ t.serves = some p then s else s.spareTakes tile p .carousel

/-- CALIBRATION_ABANDON (08 R330): a calibration still runs after 250 loop updates; while the cluster core is stopped, nothing changes
(R332). -/
def State.calibrationAbandon (s : State) (tile : Nat) : State :=
  match (s.tile tile).calib with
  | none => s
  | some c =>
    if c.ended ∨ s.updateNow (tile / 256) < c.start + 250 ∨ ¬ s.runs (procCluster (tile / 256)) then s
    else
      let s := s.count 0x20
      if (s.tile tile).why = .relieved ∧ (s.tile tile).serves = some c.p then
        let s := (s.abandonCalib tile).modTile tile (fun t => { t with relieved := none })
        s.mapBack tile c.p
      else if c.p = 32 then (s.abandonCalib tile).fillColumn tile 32 0
      else s.carouselBack tile

/-- A cluster core has returned: calibrations that it had left restart at step 3 in a new window (08 R332). -/
def State.restartWindows (s : State) (c : Nat) : State :=
  let n := s.updateNow c
  { s with
    tiles := s.tiles.map (fun e =>
      if e.1 / 256 = c then (e.1, { e.2 with calib := e.2.calib.map (fun (k : Calib) =>
        if k.ended then k else { k with start := 50 * cdiv n 50, step := 3, made := 0 }) }) else e)
    cal := { s.cal with checks := s.cal.checks.filter (fun k => !(k.carousel && decide (k.tile / 256 = c))) } }

end Sys2Proof.Machine
end

