-- ==== Sys2Proof/Machine/Fabric.lean ====
section
/-! DEFINITION. The fabric's lanes, slots, link-level retry, retirement, tags and their uses (09 R342 to R373, R378 to R385). -/

namespace Sys2Proof.Machine

/-! ### Headers (09 R360, Fabric table 5) -/

/-- The fields of a header, with its payload. -/
def parsePacket (h : Nat) (data : List Byte) : Packet :=
  { ptype := bits h 0 4, vl := bits h 4 1, hops := bits h 5 2, dest := bits h 8 17, src := bits h 32 17, spec := bit h 49,
    tokenEn := bit h 50, tag := bits h 64 16, gen := bits h 80 4, level := bits h 84 4, token := bits h 88 8,
    stamp := bits h 96 16, addr := bits h 128 49, cause := bits h 184 8, subcode := bits h 192 8, count := bits h 200 16,
    data := data
    reservedSet := bit h 7 || decide (bits h 25 7 ≠ 0) || decide (bits h 122 6 ≠ 0) || decide (bits h 177 7 ≠ 0)
      || decide (bits h 216 8 ≠ 0) }

/-- The header of a packet on a lane, with its lane sequence number and CRC. -/
def Packet.header (p : Packet) (lseq : Nat) : Nat :=
  let h := field 0 4 p.ptype + field 4 1 p.vl + field 5 2 p.hops + field 8 17 p.dest + field 32 17 p.src + field 49 1 (b2n p.spec)
    + field 50 1 (b2n p.tokenEn) + field 51 13 p.data.length + field 64 16 p.tag + field 80 4 p.gen + field 84 4 p.level
    + field 88 8 p.token + field 96 16 p.stamp + field 112 10 lseq + field 128 49 p.addr + field 184 8 p.cause
    + field 192 8 p.subcode + field 200 16 p.count
  h + field 224 32 (crc32c (leBytes 28 h))

/-- Bytes of a packet: header, payload and payload CRC (09 R343). -/
def Packet.size (p : Packet) : Nat := 32 + p.data.length + (if p.data = [] then 0 else 4)

/-- Bytes of a packet on a lane, in whole blocks (09 R343). -/
def Packet.wire (p : Packet) : Nat := 32 * cdiv p.size 32

/-! ### Lanes in and out of service (09 R346 to R348, R366, R367, R384) -/

/-- All lane indices (09 R342). -/
def allLanes : List Nat := List.range 2304

/-- The dimension a lane belongs to. -/
def laneDim (lane : Nat) : Nat := fiberDim (lane / 128)

/-- An LCTL entry waits to be sent to a neighbour (09 R364). -/
def State.addEntry (s : State) (dev lane lseq flags : Nat) : State :=
  let e := field 0 5 (lane / 128) + field 5 7 (lane % 128) + field 12 10 lseq + field 22 4 flags
  { s with fab := { s.fab with entries := s.fab.entries ++ [(dev, BitVec.ofNat 32 e)] } }

/-- Entry flags (09 Fabric table 8). -/
def entNak : Nat := 1
/-- The packet after lseq was refused. -/
def entBusy : Nat := 2
/-- The lane is retired. -/
def entRetire : Nat := 4
/-- The sender asks for the final lseq. -/
def entRetireReq : Nat := 8

/-- Whether an outbound lane of a dimension is InService. -/
def State.dimUp (s : State) (d : Nat) : Bool := s.listedLanes.any (fun l => decide (laneDim l = d) && decide (s.outLane l = .inService))

/-- A dimension whose last outbound lane has left service is lost (09 R384). -/
def State.dimCheck (s : State) (d : Nat) : State :=
  if s.dimUp d ∨ bit s.fab.dimsLost d then s
  else ({ s with fab := { s.fab with dimsLost := s.fab.dimsLost + 2 ^ d } }).condition 0x0304 2 d

/-- A fiber on which no lane of a direction is InService any more is lost (17 R555). -/
def State.fiberCheck (s : State) (f : Nat) (inbound : Bool) (since : Nat) : State :=
  if s.listedLanes.any (fun l => decide (l / 128 = f) && decide ((if inbound then s.inLane l else s.outLane l) = .inService)) then s
  else
    let s := s.condition 0x0307 1 (field 0 5 f + field 5 1 (b2n inbound))
    if inbound then s else { s with flt := { s.flt with starts := s.flt.starts ++ [(0x0307, f, since)] } }

/-- The state a lane takes when it retires: Barred at its third retirement since bring-up (09 R348). -/
def retiredAs (n : Nat) : LaneSt := if 3 ≤ n then .barred else .retired

/-- An outbound lane of the device leaves service (09 R366, R367); its uncovered packets wait for the final lseq, which a
retire_req entry asks for unless it is known. -/
def State.retireOut (s : State) (lane : Nat) (ask : Bool) : State :=
  if s.outLane lane ≠ .inService then s
  else
    let n := (s.lane lane).retiresOut + 1
    let since := (s.lane lane).lastSent
    let s := s.modLane lane (fun l => { l with out := some (retiredAs n), retiresOut := n })
    let s := (s.count 0x25).condition 0x0301 1 (field 0 12 lane + field 13 1 (b2n (decide (3 ≤ n))))
    let s := { s with flt := { s.flt with starts := s.flt.starts ++ [(0x0301, lane, since)] } }
    let s := match ask, s.laneTo lane with
      | true, some dev => s.addEntry dev lane 0 entRetireReq
      | _, _ => s
    (s.fiberCheck (lane / 128) false since).dimCheck (laneDim lane)

/-- An inbound lane leaves service (09 R366, R367): its good bit clears and a retire entry carries its final lseq. -/
def State.retireIn (s : State) (lane : Nat) : State :=
  if s.inLane lane ≠ .inService then s
  else
    let n := (s.lane lane).retiresIn + 1
    let s := s.modLane lane (fun l => { l with inn := some (retiredAs n), retiresIn := n, goodIn := false, bits := 0 })
    let s := (s.count 0x25).condition 0x0301 1 (field 0 12 lane + field 12 1 1 + field 13 1 (b2n (decide (3 ≤ n))))
    let s := match s.laneFrom lane with
      | some dev => s.addEntry dev lane (s.lane lane).lseqRx entRetire
      | none => s
    s.fiberCheck (lane / 128) true 0

/-- The packets after a lane's final lseq return to the head of their peer queues, in lseq order (09 R367). -/
def State.returnPackets (s : State) (lane : Nat) : State :=
  let back := (s.lane lane).replay.map (fun e => { e.2 with returned := some lane })
  let s := s.modLane lane (fun l => { l with replay := [], replays := 0, busyAt := none })
  let s := { s with fab := { s.fab with queues := back ++ s.fab.queues } }
  -- with nothing to return, no interruption is measured
  if back = [] then { s with flt := { s.flt with starts := s.flt.starts.filter (fun x => ¬ (x.1 = 0x0301 ∧ x.2.1 = lane)) } } else s

/-- Whether this device has passed an inbound lane from a device in a dimension, on frames that carry the own level
(09 R347, R381). -/
def State.heardFrom (s : State) (dev d : Nat) : Bool :=
  s.listedLanes.any (fun l => decide (laneDim l = d) && decide (s.laneFrom l = some dev) && (s.lane l).goodIn
    && decide ((s.lane l).peerLevel = s.obj 0x3000 6))

/-- Whether the fabric's lanes carry light (09 R383, R385). -/
def State.fabLit (s : State) : Bool := decide (s.fab.state = .testing) || decide (s.fab.state = .running)

/-- An outbound lane enters InService when its conditions hold (09 R347). -/
def State.enterService (s : State) (lane : Nat) : State :=
  match s.laneTo lane with
  | none => s
  | some dev =>
    let st := s.outLane lane
    if s.fabLit ∧ (s.lane lane).goodOut ∧ s.heardFrom dev (laneDim lane) ∧ (s.lane lane).replay = []
        ∧ (st = .testing ∨ st = .excluded ∨ st = .retired) then
      let d := laneDim lane
      let s := s.modLane lane (fun l => { l with out := some .inService, lseqTx := 0, replays := 0, busyAt := none, lastSent := s.time })
      { s with fab := { s.fab with dimsLost := if bit s.fab.dimsLost d then s.fab.dimsLost - 2 ^ d else s.fab.dimsLost } }
    else s

/-- Every outbound lane to a device is looked at again. -/
def State.enterAll (s : State) (dev : Nat) : State :=
  (s.listedLanes.filter (fun l => decide (s.laneTo l = some dev))).foldl State.enterService s

/-- Step 9 ends when every lane that is not Unused is InService at both ends (09 R348). -/
def State.testDone (s : State) : State :=
  if s.fab.state = .testing ∧ allLanes.all (fun l =>
      (decide (s.outLane l = .unused) || decide (s.outLane l = .inService)) && (decide (s.inLane l = .unused) || decide (s.inLane l = .inService))) then
    { s with fab := { s.fab with state := .running, testEnd := none } }
  else s

/-- The measurement of a visit to an inbound lane (09 R346): bits counted with no error, and whether the eyes were open
enough at every measurement. A lane that has counted enough passes, and its good bit is sent from then on. -/
def State.lanePass (s : State) (lane n : Nat) (eyes : Bool) : State :=
  match s.laneFrom lane with
  | none => s
  | some dev =>
    let st := s.inLane lane
    if ¬ s.fabLit ∨ ¬ (st = .testing ∨ st = .excluded ∨ st = .retired) ∨ (s.lane lane).wiring then s
    else
      let s := s.modLane lane (fun l => { l with bits := if eyes then l.bits + n else 0 })
      if (s.lane lane).bits < 600000000 ∨ dev ∈ s.fab.mismatched then s
      else
        ((s.modLane lane (fun l => { l with goodIn := true, inn := some .inService, lseqRx := 1023, errors := [], lastFrame := s.time })).enterAll dev).testDone

/-- Errors of the last 1 ms on an inbound lane, with one more (09 R366). -/
def State.laneError (s : State) (lane : Nat) : State :=
  s.modLane lane (fun l => { l with errors := (l.errors.filter (fun t => decide (s.time < t + 1200000))) ++ [s.time] })

/-- A frame word arrives on a lane (09 R344, R346, R347, R366, R382). -/
def State.laneFrame (s : State) (lane w : Nat) : State :=
  match s.laneFrom lane with
  | none => s
  | some dev =>
    if ¬ s.fabLit then s
    else if bits w 0 16 ≠ 0x4F1B then s.laneError lane
    else
      let sender := bits w 16 17
      let lvl := bits w 41 4
      let s := s.modLane lane (fun l => { l with lastFrame := s.time, peerLevel := lvl })
      if sender ≠ dev then
        let first := !(s.lane lane).wiring
        let s := if s.inLane lane = .inService then s.retireIn lane
          else if s.inLane lane = .barred then s
          else s.modLane lane (fun l => { l with inn := some .excluded })
        let s := s.modLane lane (fun l => { l with wiring := true, goodIn := false, bits := 0 })
        if first then s.condition 0x0302 1 (field 0 12 lane + field 12 17 sender) else s
      else
        -- a neighbour of another level: one event, and its lanes stay Excluded
        let s := if lvl ≠ s.obj 0x3000 6 ∧ dev ∉ s.fab.mismatched then
            ({ s with fab := { s.fab with mismatched := s.fab.mismatched ++ [dev] } }).condition 0x0303 1 (field 0 17 dev + field 17 4 lvl)
          else if lvl = s.obj 0x3000 6 then { s with fab := { s.fab with mismatched := s.fab.mismatched.filter (· ≠ dev) } }
          else s
        let s := if lvl ≠ s.obj 0x3000 6 ∧ s.inLane lane = .testing then s.modLane lane (fun l => { l with inn := some .excluded }) else s
        -- the good bits of this device's lanes to the sender in the same plane
        let d := laneDim lane
        let n := routerSize d
        let off := (coord dev d + n - coord s.ownDev d) % n
        let s := (List.range (128 / n)).foldl (fun s m =>
          let out := 128 * (lane / 128) + off + n * m
          let good := bit w (33 + m)
          if good = (s.lane out).goodOut then s
          else
            let s := s.modLane out (fun l => { l with goodOut := good })
            if good then s else s.retireOut out true) s
        (s.enterAll dev).testDone

/-- The frame word that the device sends on an outbound lane (09 R344, Fabric table 3): good names its inbound lanes of the same plane
from the frame's receiver that have passed. -/
def State.frameWord (s : State) (lane : Nat) (test : Bool) : Nat :=
  let d := laneDim lane
  let n := routerSize d
  let good := match s.laneTo lane with
    | some dev =>
      let off := (coord s.ownDev d + n - coord dev d) % n
      ((List.range (128 / n)).map (fun m => field m 1 (b2n (s.lane (128 * (lane / 128) + off + n * m)).goodIn))).sum
    | none => 0
  field 0 16 0x4F1B + field 16 17 s.ownDev + field 33 4 good + field 37 4 s.barkerBundle.fabLevel + field 41 4 (s.obj 0x3000 6) + field 45 1 (b2n test)

/-- Frames go out on a lane (09 R343, R344). -/
def State.sendWord (s : State) (lane : Nat) (test : Bool) : State :=
  { s with fab := { s.fab with frames := s.fab.frames ++ [(lane, BitVec.ofNat 64 (s.frameWord lane test))] } }

/-- A slot goes to a line: after a retune, and in a visit, it sends a frame with test = 1 (09 R348, R349, R351). -/
def State.tune (s : State) (f slot line : Nat) (visit : Bool) : State :=
  let stays := decide (mget 0 s.fab.slots (24 * f + slot) = line + 1)
  let s := { s with fab := { s.fab with slots := mset 0 s.fab.slots (24 * f + slot) (line + 1) } }
  if stays && !visit then s else s.sendWord (128 * f + line) true

/-- MARGIN_TEST_ROUND (09 R345): the slots of each fiber go to the lines of the next round, with test frames. -/
def State.marginRound (s : State) : State :=
  match s.fab.state, s.fab.testEnd with
  | .testing, some e =>
    if s.time + 150 * s.obj 0x3000 0x0A < e + 2400000 * s.fab.round then s
    else
      let line := fun (j : Nat) => 24 * (s.fab.round % 6) + j
      let on := (List.range 432).filter (fun k => decide (line (k % 24) < 128))
      on.foldl (fun s k => s.sendWord (128 * (k / 24) + line (k % 24)) true) { s with fab := { s.fab with
          round := s.fab.round + 1
          slots := on.map (fun k => (k, line (k % 24) + 1)) } }
  | _, _ => s

/-- MARGIN_WAIT_EXPIRE (09 R348, R384): lanes that are not in service become Excluded; a dimension of more than one device that then has
no lane InService is lost. -/
def State.marginExpire (s : State) : State :=
  match s.fab.state, s.fab.testEnd with
  | .testing, some e =>
    if s.time < e then s
    else
      let drop := fun (x : Option LaneSt) => if x = some .testing then some LaneSt.excluded else x
      let s := { s with fab := { s.fab with
          state := .running
          testEnd := none
          base := .excluded
          lanes := mmap {} s.fab.lanes (fun _ l => { l with out := drop l.out, inn := drop l.inn }) } }
      ((List.range 3).filter (fun d => decide (1 < s.dimSize d))).foldl State.dimCheck s
  | _, _ => s

/-! ### Slots (09 R349 to R352) -/

/-- Slots per fiber at a ladder level (15 Power table 5). -/
def slotCap (l : Nat) : Nat := match l with
  | 0 => 24 | 1 => 20 | 2 => 16 | 3 => 12 | 4 => 8 | _ => 4

/-- Whether no other slot of a fiber holds a line (09 R349). -/
def State.lineFree (s : State) (f slot line : Nat) : Bool :=
  (List.range 24).all (fun j => decide (j = slot) || decide (mget 0 s.fab.slots (24 * f + j) ≠ line + 1))

/-- The lanes of a fiber to a device that a slot may use now; a numbered packet needs one with fewer than 512 unacknowledged (09 R350,
R364). -/
def State.sendLanes (s : State) (f slot dev : Nat) (numbered : Bool := true) : List Nat :=
  (s.lanesTo dev).filter (fun l => decide (l / 128 = f) && s.lineFree f slot (l % 128) && (!numbered || decide ((s.lane l).replay.length < 512)))

/-- The lane a slot takes to a device: its own line's if it is one of them, else the lowest-numbered (09 R350). -/
def State.takeLane (s : State) (f slot dev : Nat) (numbered : Bool := true) : Option Nat :=
  let ls := s.sendLanes f slot dev numbered
  let own := mget 0 s.fab.slots (24 * f + slot)
  if 0 < own ∧ 128 * f + (own - 1) ∈ ls then some (128 * f + (own - 1)) else ls.head?

/-- The queue of a dimension's peer in a virtual lane, head first. -/
def State.peerQueue (s : State) (d dev vl : Nat) : List Queued :=
  s.fab.queues.filter (fun q => decide (q.dim = d) && decide (q.hop = dev) && decide (q.pkt.vl = vl))

/-- Bytes queued to a peer in a virtual lane. -/
def State.peerBytes (s : State) (d dev vl : Nat) : Nat := ((s.peerQueue d dev vl).map (·.pkt.size)).sum

/-- The moment since which a peer's longest-waiting head waits. -/
def State.peerOldest (s : State) (d dev : Nat) : Nat :=
  ((([0, 1].filterMap (fun vl => (s.peerQueue d dev vl).head?)).map (·.born)).min?).getD s.time

/-- The offset of a device in a dimension (09 Fabric table 1). -/
def State.offset (s : State) (d dev : Nat) : Nat := (coord dev d + routerSize d - coord s.ownDev d) % routerSize d

/-- The first of a list under an order. -/
def firstBy (lt : Nat → Nat → Bool) : List Nat → Option Nat
  | [] => none
  | x :: xs => some (xs.foldl (fun b y => if lt y b then y else b) x)

/-- The peer a slot serves next (09 R350). -/
def State.nextPeer (s : State) (f slot : Nat) : Option Nat :=
  let d := fiberDim f
  let peers := (((s.fab.queues.filter (fun q => decide (q.dim = d))).map (·.hop)).dedup).filter (fun dev => decide (s.sendLanes f slot dev ≠ []))
  let near := fun (a b : Nat) => decide (s.offset d a < s.offset d b)
  let aged := peers.filter (fun dev => decide (s.peerOldest d dev + s.obj 0x3000 9 ≤ s.time))
  let v1 := peers.filter (fun dev => decide (0 < s.peerBytes d dev 1))
  if aged ≠ [] then
    firstBy (fun a b => decide (s.peerOldest d a < s.peerOldest d b) || (decide (s.peerOldest d a = s.peerOldest d b) && near a b)) aged
  else
    let vl := if v1 ≠ [] then 1 else 0
    firstBy (fun a b => decide (s.peerBytes d b vl < s.peerBytes d a vl) || (decide (s.peerBytes d b vl = s.peerBytes d a vl) && near a b))
      (if v1 ≠ [] then v1 else peers)

/-- A slot goes to a lane's line, and a packet is put on the lane. -/
def State.putOn (s : State) (f slot lane : Nat) (p : Packet) : State :=
  let s := (s.tune f slot (lane % 128) false).sendWord lane false
  let s := { s with fab := { s.fab with sent := s.fab.sent ++ [(lane, p)] } }
  s.modLane lane (fun l => { l with lastSent := s.time })

/-- The link control packet for a neighbour: up to 64 of its entries (09 R364, Fabric table 6). -/
def State.sendEntries (s : State) (f slot lane dev : Nat) : State :=
  let es := (s.fab.entries.filter (fun (e : Nat × BitVec 32) => decide (e.1 = dev))).take 64
  let p : Packet := { ptype := ptLCTL, vl := 1, dest := dev, src := s.ownDev, level := s.obj 0x3000 6,
                      data := es.flatMap (fun (e : Nat × BitVec 32) => leBytes 4 e.2.toNat) }
  let rest := (s.fab.entries.filter (fun (e : Nat × BitVec 32) => decide (e.1 = dev))).drop 64
  ({ s with fab := { s.fab with entries := s.fab.entries.filter (fun (e : Nat × BitVec 32) => decide (e.1 ≠ dev)) ++ rest } }).putOn f slot lane p

/-- A packet of a peer queue is put on a lane: it takes the next lseq and stays in the replay buffer (09 R364, R365); the
first packet back from a retired lane ends that lane's interruption, the last of a fiber the fiber's (17 R555). -/
def State.sendQueued (s : State) (f slot lane : Nat) (q : Queued) : State :=
  let s := { s with fab := { s.fab with queues := s.fab.queues.erase q } }
  let s := s.putOn f slot lane q.pkt
  let s := s.modLane lane (fun l =>
    { l with replay := l.replay ++ [(l.lseqTx, { q with returned := none })], lseqTx := (l.lseqTx + 1) % 1024
             lastEntry := if l.replay = [] then s.time else l.lastEntry })
  match q.returned with
  | none => s
  | some r =>
    let s := s.endFault 0x0301 r
    if s.fab.queues.any (fun x => decide (x.returned.map (· / 128) = some (r / 128))) then s else s.endFault 0x0307 (r / 128)

/-- A free slot visits the next Excluded or Retired lane of its fiber with test frames (09 R348). -/
def State.visit (s : State) (f slot : Nat) : State :=
  let own := mget 0 s.fab.slots (24 * f + slot)
  let ls := ((List.range 128).map (fun i => (own + i) % 128)).filter (fun k =>
    (decide (s.outLane (128 * f + k) = .excluded) || decide (s.outLane (128 * f + k) = .retired)) && s.lineFree f slot k)
  match ls.head? with
  | some k => s.tune f slot k true
  | none => s

/-- SLOT_SCHEDULE (09 R350, R352): a slot that is free takes its next packet. -/
def State.slotSchedule (s : State) (f slot : Nat) : State :=
  let d := fiberDim f
  if ¬ s.fabLit then s
  else if slotCap s.ladderLevel ≤ slot then { s with fab := { s.fab with slots := mset 0 s.fab.slots (24 * f + slot) 0 } }
  else match s.fab.entries.find? (fun (e : Nat × BitVec 32) => (s.takeLane f slot e.1 false).isSome) with
    | some e => (match s.takeLane f slot e.1 false with
      | some lane => s.sendEntries f slot lane e.1
      | none => s)
    | none =>
      match s.nextPeer f slot with
      | none => if s.fab.state = .running then s.visit f slot else s
      | some dev =>
        match s.takeLane f slot dev, (s.peerQueue d dev 1 ++ s.peerQueue d dev 0).head? with
        | some lane, some q => s.sendQueued f slot lane q
        | _, _ => s

/-- LANE_KEEPALIVE (09 R351): a free slot visits an InService lane that has carried no frame for 4 µs. -/
def State.keepalive (s : State) (lane slot : Nat) : State :=
  let f := lane / 128
  if ¬ s.fabLit ∨ s.outLane lane ≠ .inService ∨ s.time < (s.lane lane).lastSent + 4800 ∨ slotCap s.ladderLevel ≤ slot
      ∨ ¬ s.lineFree f slot (lane % 128) then s
  else
    (s.tune f slot (lane % 128) true).modLane lane (fun l => { l with lastSent := s.time })

/-! ### Retry (09 R364 to R368) -/

/-- Whether an lseq is covered by an entry's, counting modulo 1,024 with at most 512 uncovered. -/
def covered (entry lseq : Nat) : Bool := decide ((entry + 1024 - lseq) % 1024 < 512)

/-- Every uncovered packet of a lane is sent again (09 R365). -/
def State.replayLane (s : State) (lane : Nat) (counted : Bool) : State :=
  let l := s.lane lane
  if s.outLane lane ≠ .inService ∨ l.replay = [] then s
  else if counted ∧ 4 ≤ l.replays then s.retireOut lane true
  else
    let s := s.sendWord lane false
    let s := { s with fab := { s.fab with sent := s.fab.sent ++ l.replay.map (fun (e : Nat × Queued) => (lane, e.2.pkt)) } }
    (s.modLane lane (fun l =>
      { l with replays := (if counted then l.replays + 1 else l.replays), lastEntry := s.time, lastSent := s.time, busyAt := none })).count 0x24

/-- An LCTL entry arrives from a neighbour (09 R364, R365, R367). -/
def State.takeEntry (s : State) (src e : Nat) : State :=
  let lane := 128 * bits e 0 5 + bits e 5 7
  let lseq := bits e 12 10
  if 18 ≤ bits e 0 5 ∨ bits e 26 6 ≠ 0 then s
  else if bit e 25 then
    -- the lane's sender asks for the final lseq
    if s.laneFrom lane ≠ some src then s
    else if s.inLane lane = .inService then s.retireIn lane
    else s.addEntry src lane (s.lane lane).lseqRx entRetire
  else if s.laneTo lane ≠ some src ∨ (s.lane lane).out = none then s
  else
    let l := s.lane lane
    let left := l.replay.filter (fun x => !covered lseq x.1)
    let s := s.modLane lane (fun l =>
      { l with replay := left, lastEntry := s.time, replays := if left.length < l.replay.length then 0 else l.replays
               busyAt := if bit e 23 then some s.time else none })
    if bit e 24 then (s.retireOut lane false).returnPackets lane
    else if bit e 22 then s.replayLane lane true
    else s

/-- REPLAY_TIMEOUT (09 R365): 256 ns after a busy entry, or 1 µs without a new one. -/
def State.replayTimeout (s : State) (lane : Nat) : State :=
  let l := s.lane lane
  match l.busyAt with
  | some t => if s.time < t + 308 then s else s.replayLane lane false
  | none => if s.time < l.lastEntry + 1200 then s else s.replayLane lane true

/-- LANE_SILENCE_TIMEOUT (09 R366): no frame for 8 µs. -/
def State.laneSilence (s : State) (lane : Nat) : State :=
  if s.fabLit ∧ (s.lane lane).lastFrame + 9600 ≤ s.time then s.retireIn lane else s

/-- LANE_RETIRE (09 R366, R367): an inbound lane with more than 16 errors within 1 ms, or an outbound one after four
replays without progress. -/
def State.laneRetire (s : State) (lane : Nat) (inbound : Bool) : State :=
  if inbound then
    (if 16 < ((s.lane lane).errors.filter (fun t => decide (s.time < t + 1200000))).length then s.retireIn lane else s)
  else if 4 ≤ (s.lane lane).replays ∧ (s.lane lane).lastEntry + 1200 ≤ s.time then s.retireOut lane true
  else s

/-- Whether a packet's residence has reached its limit (09 R368). -/
def State.aged (s : State) (q : Queued) : Bool := decide (q.born + 18600 ≤ s.time)

/-- PACKET_AGED (09 R368): every packet whose residence has reached 15.5 µs is discarded. -/
def State.packetAged (s : State) : State :=
  let n := (s.fab.queues.filter s.aged).length + (s.fab.lanes.map (fun e => (e.2.replay.filter (fun x => s.aged x.2)).length)).sum
  if n = 0 then s
  else
    ({ s with fab := { s.fab with
        queues := s.fab.queues.filter (fun q => !s.aged q)
        lanes := mmap {} s.fab.lanes (fun _ l => { l with replay := l.replay.filter (fun x => !s.aged x.2) }) } }).count 0x26 n

/-! ### Uses and their end (09 R371 to R376, R378, R380, R383) -/

/-- A tag is no longer awaited by any epoch (05 R205). -/
def State.notAwaited (s : State) (t : Nat) : State :=
  { s with epochs := mmap {} s.epochs (fun _ e => { e with awaiting := e.awaiting.filter (· ≠ t) }) }

/-- The unanswered request of the stream engine that carries a fabric tag. -/
def State.tagReq (s : State) (t : Nat) : Option Req :=
  s.reqs.find? (fun r => decide (r.path = 3) && decide (r.tag = t) && r.arrived.isNone)

/-- A stream request's tag ends: its request is answered, with an error where one is given; a write of a retired epoch's line frees the
line, and a discarded request only ends (06 R255, R256, 05 R205). -/
def State.endStreamUse (s : State) (t : Nat) (data : List Byte) (failed : Option Nat) : State :=
  let s := (s.releaseTag t).landEnd false t failed.isSome
  match s.tagReq t with
  | none => s.settle
  | some r => if 64 ≤ r.ctx then ({ s with reqs := s.reqs.filter (fun x => decide (x ≠ r)) }).settle else s.arrive r data failed

/-- A use ends with an error: cause and subcode (09 R373, R375, R376, R378, R380). got: the bytes that the refusal
accounts for; none: no response is awaited any more. -/
def State.failUse (s : State) (t c sub : Nat) (got : Option Nat) : State :=
  let u := s.fabTag t
  match u.kind with
  | .xfr =>
    let s := s.modTag t (fun x => { x with expect := match got with
      | some n => x.expect - n
      | none => 0 })
    let s := s.modOp u.queue u.seq (fun (o : Op) => if t ∈ o.uses then { o with fabFail := some (o.fabFail.getD (c + 256 * sub)) } else o)
    let s := match s.op u.queue u.seq with
      | some o => if t ∈ o.uses ∧ o.stage ≠ Stage.completed then s.xfrFailed o else if got.isNone then s.releaseTag t else s
      | none => if got.isNone then s.releaseTag t else s
    s.settle
  | .stream => s.endStreamUse t [] (some (c + 256 * sub))
  | .doorbell => { (s.releaseTag t) with fab := { (s.releaseTag t).fab with db := 256 * c } }
  | .epoch =>
    -- an epoch message is sent again with a new tag (09 R380)
    if u.epoch < 8 ∧ t ∉ (s.epoch u.epoch).awaiting then s.releaseTag t
    else
      let s := (s.releaseTag t).notAwaited t
      let m : EpochMsg := { stamp := u.seq, squash := u.squash, dev := u.dest, for_ := u.epoch, since := u.since }
      { s with epochMsgs := s.epochMsgs ++ [m] }.pump
  | .probe => s.releaseTag t
  | .none => s

/-- XFR_TIMEOUT (09 R373). -/
def State.tagTimeout (s : State) (t : Nat) : State :=
  if (s.fabTag t).busy ∧ (s.fabTag t).lastFormed + s.obj 0x3000 8 ≤ s.time then s.failUse t causeTimeout 0 none else s

/-- EPOCH_MESSAGE_TIMEOUT (09 R380): the SPC or SPQ completes with ERR_FABRIC, and the identifier closes. -/
def State.epochTimeout (s : State) (i : Nat) : State :=
  let e := s.epoch i
  let late := e.awaiting.filter (fun t => (s.fabTag t).busy && decide ((s.fabTag t).kind = .epoch))
  if (late = [] ∧ s.acked i) ∨ s.time < e.firstSent + s.obj 0x1800 7 then s
  else
    let s := { s with epochMsgs := s.epochMsgs.filter (fun m => decide (m.for_ ≠ i)) }
    let s := late.foldl (fun s t => (s.releaseTag t).notAwaited t) s
    match e.spc, e.spq with
    | some (q, n), _ => ((s.finish q n 0x11 causeTimeout).modEpoch i (fun _ => {})).settle
    | none, some (q, n) => ((s.finish q n 0x11 causeTimeout).modEpoch i (fun _ => {})).settle
    | none, none => s.settle

/-- A doorbell packet takes its tag and is formed; the outcome is readable in 3000:11 (09 R378). -/
def State.formDoorbell (s : State) (v : Nat) : State :=
  let dev := bits v 0 17
  match s.freeTag? with
  | none => { s with fab := { s.fab with db := 1, dbWait := some v } }
  | some t =>
    let s := s.takeTag t { kind := .doorbell, dest := dev, expect := 8 }
    let p : Packet := { s.packet ptDBL dev t with data := leBytes 8 (field 0 6 (bits v 17 6) + field 16 16 (bits v 32 16)) }
    let s := { s with fab := { s.fab with db := 1, dbWait := none } }
    match s.queuePacket p false with
    | .ok s => s
    | .error (c, sub) => s.failUse t c sub none

/-! ### Stop, restart and the loss of the light (09 R338, R381, R383, R385) -/

/-- The fabric goes dark: every use ends with FABRIC_DOWN, every packet held is discarded, and the lanes keep what
counts until the next bring-up (09 R383, R385). -/
def State.fabricDown (s : State) (st : FabSt) : State :=
  let bar := fun (n : Nat) => if 3 ≤ n then some LaneSt.barred else none
  let s := { s with fab := { s.fab with
    state := st, base := .unused, queues := [], slots := [], entries := [], testEnd := none, dbWait := none
    db := if s.fab.dbWait.isSome then 256 * causeDown else s.fab.db
    lanes := mmap {} s.fab.lanes (fun _ l =>
      { out := bar l.retiresOut, inn := bar l.retiresIn, retiresOut := l.retiresOut, retiresIn := l.retiresIn }) } }
  ((s.fab.tags.filter (fun e => e.2.busy)).map (·.1)).foldl (fun s t => s.failUse t causeDown 0 none) s

/-- The objects that a restart of the fabric finds wrong (09 R338, R381). -/
def State.fabricFaults (s : State) : List (Nat × Nat) :=
  let n := s.obj 0x3000 3
  let sizes := decide (1 ≤ s.dimSize 0) && decide (s.dimSize 0 ≤ 32) && decide (1 ≤ s.dimSize 1) && decide (s.dimSize 1 ≤ 64)
    && decide (1 ≤ s.dimSize 2) && decide (s.dimSize 2 ≤ 64)
  (if n = 0xFFFFFFFF ∨ bits n 17 15 ≠ 0 ∨ (List.range 3).any (fun d => decide (s.dimSize d ≤ coord n d)) then [(0x3000, 3)] else [])
    ++ (if sizes ∧ s.obj 0x3000 4 = bits (s.obj 0x3000 4) 0 6 + field 8 7 (s.dimSize 1) + field 16 7 (s.dimSize 2) then [] else [(0x3000, 4)])
    ++ (if s.obj 0x3000 6 = s.barkerBundle.fabLevel ∨ s.obj 0x3000 6 + 1 = s.barkerBundle.fabLevel then [] else [(0x3000, 6)])

/-- The fabric restarts and its margin test begins (09 R345, R348, R385); without the link comb's light it reads
Faulted (09 R383). -/
def State.startFabric (s : State) : State :=
  if s.light.link ≠ .locked then { s with fab := { s.fab with state := .faulted } }
  else { s with fab := { s.fab with
    state := .testing, base := .testing, round := 0, mismatched := [], dimsLost := 0, testEnd := some (s.time + 150 * s.obj 0x3000 0x0A) } }

/-- The link comb has returned: every lane that is not Unused or Barred becomes Excluded and is tested in the background
(09 R383). -/
def State.fabricReturn (s : State) : State :=
  if s.fab.state = .faulted then { s with fab := { s.fab with state := .running, base := .excluded, mismatched := [] } } else s

end Sys2Proof.Machine
end

