-- ==== Sys2Proof/Machine/Cascade.lean ====
section
/-! DEFINITION. The cascade: group configuration, probes, supervision and its break (10 R388 to R394). -/

namespace Sys2Proof.Machine

/-- cascade.members and cascade.index. -/
def State.cascM (s : State) : Nat := s.obj 0x3400 5
/-- The own member index. -/
def State.cascI (s : State) : Nat := s.obj 0x3400 6

/-- Entry i of the member table, 17 bits (10 Cascades table 2). -/
def State.cascEntry (s : State) (i : Nat) : Nat := bits (s.obj 0x3400 9) (32 * i) 17

/-- fw.version, 6000:01: the version of the bundle that the Ringmaster's image comes from (13 R479). -/
def State.fwVersion (s : State) : Nat :=
  if s.fw.fromHost then (mget {} s.fw.bundles 2).version else if mget 0 s.fw.map procRingmaster = 0 then s.fw.version0 else s.fw.version1

/-- The physical addresses of the words of the cascade area: none where they do not translate to local DRAM with both
permissions (10 R389). -/
def State.cascArea (s : State) : Option (List Nat) :=
  (List.range (s.cascM + 1)).mapM (fun (i : Nat) =>
    match s.translate true ((s.obj 0x3400 7 + 64 * i : Nat) : Int), s.translate false ((s.obj 0x3400 7 + 64 * i : Nat) : Int) with
    | .ok (.local_ a), .ok (.local_ _) => some a
    | _, _ => none)

/-- The objects that a restart of the cascade finds wrong (10 R389). -/
def State.cascadeFaults (s : State) : List (Nat × Nat) :=
  let m := s.cascM
  let mOk := decide (1 ≤ m) && decide (m ≤ 4096)
  let es := (List.range (min m 4096)).map s.cascEntry
  (if mOk then [] else [(0x3400, 5)])
    ++ (if s.cascI < m then [] else [(0x3400, 6)])
    ++ (if s.cascEntry s.cascI = s.ownDev ∧ es.Nodup ∧ es.all (fun e => (List.range 3).all (fun d => decide (coord e d < s.dimSize d)))
          ∧ (s.obj 0x3400 9) >>> (32 * m) = 0 ∧ (List.range (min m 4096)).all (fun i => decide (bits (s.obj 0x3400 9) (32 * i + 17) 15 = 0))
        then [] else [(0x3400, 9)])
    ++ (if s.obj 0x3400 7 % 64 = 0 ∧ (!mOk ∨ s.cascArea.isSome) then [] else [(0x3400, 7)])
    ++ (if s.casc.prevGen = some (s.obj 0x3400 4) then [(0x3400, 4)] else [])

/-- A successful restart (10 R389, R392). -/
def State.startCascade (s : State) : State :=
  let s := (List.range 16).foldl (fun s i => s.setToken (0xF0 + i) 0) s
  { s with casc := {
      state := if s.cascM = 1 then .formed else .forming
      area := s.cascArea.getD []
      prevGen := some (s.obj 0x3400 4)
      seq := s.casc.seq
      lastProbe := s.time - s.obj 0x3400 8 } }

/-- CASCADE_STOP (10 R390). -/
def State.stopCascade (s : State) : State := { s with casc := { s.casc with state := .stopped, area := [] } }

/-- The cascade breaks: every WTK that waits on a cascade counter completes with MEMBER_LOST (10 R394). -/
def State.breakCascade (s : State) (lost : Nat) : State :=
  if s.casc.state ≠ .forming ∧ s.casc.state ≠ .formed then s
  else
    let s := { s with casc := { s.casc with state := .broken, lost := lost } }
    let s := (s.condition 0x0305 2 (field 0 12 lost)).count 0x2A
    ((s.ops.filter (fun (o : Op) => decide (o.kind = .wtk) && decide (o.stage = .admitted) && o.ready && decide (0xF0 ≤ dToken o.desc))).foldl
      (fun s o => s.startWtk o) s).settle

/-- Cascade states as coded (10 Cascades table 2). -/
def CascSt.code : CascSt → Nat
  | .stopped => 0 | .forming => 1 | .formed => 2 | .broken => 3

/-- The word a probe carries (10 Cascades table 3). -/
def State.cascWord (s : State) (seq : Nat) : Nat :=
  field 0 16 (s.obj 0x3400 3) + field 16 16 (s.obj 0x3400 4) + field 32 12 s.cascI + field 48 2 s.casc.state.code
    + field 52 12 s.casc.lost + field 64 13 s.cascM + field 80 4 (s.obj 0x3000 6) + field 96 32 seq + field 128 64 s.fwVersion

/-- One probe to a member: a WR of 64 bytes to its place in the member's area (10 R391). -/
def State.probe (s : State) (word i : Nat) : State :=
  match s.freeTag? with
  | none => s
  | some t =>
    let dev := s.cascEntry i
    let at_ := s.obj 0x3400 7 + (if s.cascI = 0 then 0 else 64 * (1 + s.cascI))
    let s := s.takeTag t { kind := .probe, dest := dev, ctx := i, expect := 64 }
    match s.queuePacket { s.packet ptWR dev t with addr := at_, data := leBytes 64 word } false with
    | .ok s => s
    | .error (c, sub) => s.failUse t c sub none

/-- PROBE_SEND (10 R391): the master's probes to every other member, or a member's to the master; they wait until each has a Free tag (09
R371). -/
def State.probeSend (s : State) : State :=
  let n := if s.cascI = 0 then s.cascM - 1 else 1
  if s.casc.state = .stopped ∨ s.time < s.casc.lastProbe + s.obj 0x3400 8 ∨ 65536 < (s.fab.tags.filter (fun e => e.2.busy)).length + n then s
  else
    let seq := (s.casc.seq + 1) % 2 ^ 32
    let word := s.cascWord seq
    let s := { s with casc := { s.casc with seq := seq, lastProbe := s.time } }
    if s.cascI = 0 then (List.range (s.cascM - 1)).foldl (fun s i => s.probe word (i + 1)) s else s.probe word 0

/-- A cascade word is accepted (10 R392, R394). -/
def State.acceptWord (s : State) (w : Nat) : State :=
  let i := bits w 32 12
  let s := { s with casc := { s.casc with lastWord := mset 0 s.casc.lastWord i (s.time + 1) } }
  if s.cascI = 0 then
    if s.casc.state = .forming then
      let joined := if i ∈ s.casc.joined then s.casc.joined else s.casc.joined ++ [i]
      let all := (List.range (s.cascM - 1)).all (fun k => decide (k + 1 ∈ joined))
      { s with casc := { s.casc with joined := joined, state := if all then .formed else .forming } }
    else s
  else if bits w 48 2 = 3 then s.breakCascade (bits w 52 12)
  else if bits w 48 2 = 2 ∧ s.casc.state = .forming then { s with casc := { s.casc with state := .formed } }
  else s

/-- Whether a word is one that R391 accepts, from a packet's source. -/
def State.wordOk (s : State) (src w : Nat) : Bool :=
  decide (bits w 0 16 = s.obj 0x3400 3) && decide (bits w 16 16 = s.obj 0x3400 4) && decide (bits w 64 13 = s.cascM)
    && decide (bits w 32 12 < s.cascM) && decide (s.cascEntry (bits w 32 12) = src)
    && (decide (s.cascI = 0) || decide (bits w 32 12 = 0))

/-- Bytes of a WR have landed at a local physical address: a word of the cascade area that R391 accepts is taken; anything
else that lands in the area is counted (10 R391). -/
def State.landWord (s : State) (src a : Nat) (data : List Byte) : State :=
  if s.casc.state = .stopped then s
  else if s.casc.area.all (fun w => decide (w + 64 ≤ a) || decide (a + data.length ≤ w)) then s
  else if a ∈ s.casc.area ∧ data.length = 64 ∧ s.wordOk src (leNat data) then s.acceptWord (leNat data)
  else s.count 0x29

/-- MEMBER_LOSS_TIMEOUT (10 R393). -/
def State.memberLost (s : State) (i : Nat) : State :=
  if s.casc.state = .formed ∧ (if s.cascI = 0 then 1 ≤ i ∧ i < s.cascM else i = 0)
      ∧ mget 0 s.casc.lastWord i + 239999 ≤ s.time then s.breakCascade i
  else s

end Sys2Proof.Machine
end

