-- ==== Sys2Proof/Machine/FabricRx.lean ====
section
/-! DEFINITION. Packets that arrive: acceptance on the lane, and what each type brings about (09 R356 to R368, R372 to
R380). -/

namespace Sys2Proof.Machine

/-! ### Acceptance on the lane (09 R361, R362, R364) -/

/-- The fields of a packet as it arrived. -/
def fpPacket (w : FabricPacket) : Packet := parsePacket w.header.toNat w.data

/-- The header CRC is right and the payload has the header's length (09 R362). -/
def headerOk (w : FabricPacket) : Bool :=
  decide (crc32c (leBytes 28 w.header.toNat) = bits w.header.toNat 224 32) && decide (w.data.length = bits w.header.toNat 51 13)

/-- The payload CRC is right; with no payload there is none (09 R343, R362). -/
def payloadOk (w : FabricPacket) : Bool := decide (w.data = []) || decide (w.crc.toNat = crc32c w.data)

/-- The payload CRC is the complement of the right one (09 R358). -/
def stomped (w : FabricPacket) : Bool := decide (w.data ≠ []) && decide (w.crc.toNat = crc32c w.data ^^^ 0xFFFFFFFF)

/-- Whether a packet is one that R361 discards. At level 1 there is no DBL packet (09 R381). -/
def State.badPacket (s : State) (p : Packet) : Bool :=
  match ptVL p.ptype with
  | none => true
  | some vl => decide (p.vl ≠ vl) || p.reservedSet || decide (p.level ≠ s.obj 0x3000 6) || (decide (p.ptype = ptLCTL) && decide (p.dest ≠ s.ownDev))
      || (decide (p.ptype = ptDBL) && decide (s.obj 0x3000 6 = 1))

/-- Whether the forwarding buffer of a virtual lane, 2 MiB, has room for a packet (09 R357). -/
def State.forwardRoom (s : State) (p : Packet) : Bool :=
  decide (((s.fab.queues.filter (fun q => q.fwd && decide (q.pkt.vl = p.vl))).map (·.pkt.wire)).sum + p.wire ≤ 2 ^ 21)

/-- A packet of a lane is reported to the lane's sender (09 R364). -/
def State.reportLane (s : State) (lane flags : Nat) : State :=
  match s.laneFrom lane with
  | some dev => s.addEntry dev lane (s.lane lane).lseqRx flags
  | none => s

/-- A packet arrives on a lane: the state, and the packet where it is accepted and whole. A packet whose CRC fails is
reported and replayed; one out of order is reported; one that finds no room is refused with a busy entry (09 R357, R358,
R361, R362, R364, R366). -/
def State.takePacket (s : State) (w : FabricPacket) : State × Option Packet :=
  let lane := w.lane.val
  let p := fpPacket w
  let lseq := bits w.header.toNat 112 10
  if ¬ s.fabLit ∨ s.inLane lane ≠ .inService then (s, none)
  else
    let s := s.modLane lane (fun l => { l with lastFrame := s.time })
    if ¬ headerOk w then ((s.laneError lane).reportLane lane entNak, none)
    else if p.ptype = ptLCTL then
      if ¬ payloadOk w then (s.laneError lane, none)
      else if s.badPacket p then (s.count 0x21, none)
      else (s, some p)
    else if lseq ≠ ((s.lane lane).lseqRx + 1) % 1024 then (s.reportLane lane 0, none)
    else if ¬ payloadOk w ∧ ¬ stomped w then ((s.laneError lane).reportLane lane entNak, none)
    else if payloadOk w ∧ ¬ s.badPacket p ∧ p.dest ≠ s.ownDev ∧ ¬ s.forwardRoom p then (s.reportLane lane entBusy, none)
    else
      let s := (s.modLane lane (fun l => { l with lseqRx := lseq })).reportLane lane 0
      if ¬ payloadOk w then (s.count 0x23, none)
      else if s.badPacket p then (s.count 0x21, none)
      else (s, some p)

/-! ### Requests (09 R375, R377 to R380) -/

/-- A response to a request: it copies the tag, the generation and the address (09 R360, R371). A response that cannot be
queued is discarded. -/
def State.respond (s : State) (p : Packet) (r : Packet) : State :=
  match s.queuePacket { r with vl := 1, dest := p.src, src := s.ownDev, tag := p.tag, gen := p.gen, addr := p.addr, level := s.obj 0x3000 6 } false with
  | .ok s => s
  | .error _ => s

/-- A request is refused with a NAK (09 R377). -/
def State.refuseRequest (s : State) (p : Packet) (c sub : Nat) : State :=
  (s.count 0x28).respond p { ptype := ptNAK, cause := c, subcode := sub }

/-- A WR (09 R374, R375, R377, R379): its bytes are written, or held for an epoch of the source; a token packet
increments its counter; and an ACK is sent. -/
def State.onWR (s : State) (p : Packet) : State :=
  let key := if p.spec then some (SpecKey.peer p.src p.stamp) else none
  match s.applyWR key none p.addr p.data with
  | .error (c, sub) => (if c = causeRemoteMemory ∨ c = causeRemoteFault then s.meetAt true p.addr p.data.length else s).refuseRequest p c sub
  | .ok s' =>
    let s' := if p.tokenEn then s'.applyToken key p.token else s'
    let s' := s'.respond p { ptype := ptACK, count := p.data.length }
    match p.spec, s.translate true (p.addr : Int) with
    | false, .ok (.local_ a) => s'.landWord p.src a p.data
    | _, _ => s'

/-- An RDQ (09 R377). -/
def State.onRDQ (s : State) (p : Packet) : State :=
  if ¬ bit (s.obj 0x3000 7) 1 then s.refuseRequest p causeDenied 1
  else match s.translate false (p.addr : Int) with
    | .error c => (s.meetAt false p.addr p.count).refuseRequest p causeRemoteFault c
    | .ok (.host _) => s.refuseRequest p causeNotLocal 1
    | .ok (.peer _ _) => s.refuseRequest p causeNotLocal 2
    | .ok (.local_ a) =>
      let s := s.cacheLeaf p.addr
      if s.mem.errs a p.count then (s.meetBad a p.count).refuseRequest p causeRemoteMemory 0
      else s.respond p { ptype := ptRDR, data := s.mem.readN a p.count }

/-- A DBL (09 R377, R378): the resume doorbell is applied, and an ACK is sent. -/
def State.onDBL (s : State) (p : Packet) : State :=
  if ¬ bit (s.obj 0x3000 7) 2 then s.refuseRequest p causeDenied 2
  else
    let v := leNat p.data
    (s.resume (bits v 0 6) (bits v 16 16)).1.settle.respond p { ptype := ptACK, count := p.data.length }

/-- An EPC (09 R380): what is held for the source and stamp becomes final, and an EPA is sent. -/
def State.onEPC (s : State) (p : Packet) : State :=
  ((s.commitKeys (fun k => decide (k = .peer p.src p.stamp)) 0).1.settle).respond p { ptype := ptEPA, stamp := p.stamp }

/-- An EPQ (09 R380, 05 R204): what is held is dropped, and an EPA is sent. -/
def State.onEPQ (s : State) (p : Packet) : State :=
  ((if s.peerPending p.src p.stamp ∨ (s.earliestReader p.src p.stamp).isSome then s.dropPeer p.src p.stamp false else s)).respond p
    { ptype := ptEPA, stamp := p.stamp }

/-! ### Responses (09 R372, R374 to R376, R378, R380) -/

/-- Whether a response is accepted: its tag is Busy with its generation (09 R372). -/
def State.fresh (s : State) (p : Packet) : Bool := (s.fabTag p.tag).busy && decide ((s.fabTag p.tag).gen = p.gen)

/-- The bytes of an XFR that the packet with a given target address carried (09 R363). -/
def State.pieceAt (s : State) (t addr : Nat) : Nat :=
  match s.op (s.fabTag t).queue (s.fabTag t).seq with
  | some o => ((o.pieces.find? (fun x => decide (x.1 = addr - dDestAddr o.desc))).map (·.2)).getD 0
  | none => (s.fabTag t).expect

/-- The device that acknowledged a packet of an epoch is one that an epoch message goes to (09 R380). -/
def State.notePeer (s : State) (o : Op) (dev : Nat) : State :=
  match o.epoch.bind s.epochOf with
  | some id => s.modEpoch id (fun e => { e with peers := if dev ∈ e.peers then e.peers else e.peers ++ [dev] })
  | none => s

/-- An ACK covers bytes of an XFR: its next packets are formed, or it completes (09 R374, R375). -/
def State.ackXfr (s : State) (t n : Nat) : State :=
  let u := s.fabTag t
  let s := s.modTag t (fun x => { x with expect := x.expect - n })
  match s.op u.queue u.seq with
  | none => if (s.fabTag t).expect = 0 then s.releaseTag t else s
  | some o =>
    if t ∉ o.uses ∨ o.stage = Stage.completed then (if (s.fabTag t).expect = 0 then s.releaseTag t else s)
    else
      let s := s.notePeer o u.dest
      if o.fabFail.isSome then s.xfrFailed o
      else if o.pos = dXfrLen o.desc ∧ (s.fabTag t).expect = 0 then (s.releaseTag t).complete o.queue o.seq 0 0
      else s.xfrStep o (s.xfrSource o)

/-- An ACK (09 R374 to R376, R378). -/
def State.onACK (s : State) (p : Packet) : State :=
  if ¬ s.fresh p then s.count 0x27
  else match (s.fabTag p.tag).kind with
    | .xfr => (s.ackXfr p.tag p.count).settle
    | .stream => if ((s.tagReq p.tag).map (·.write)).getD true then s.endStreamUse p.tag [] none else s.count 0x27
    | .doorbell => { (s.releaseTag p.tag) with fab := { (s.releaseTag p.tag).fab with db := 2 } }
    | .probe => s.releaseTag p.tag
    | _ => s.count 0x27

/-- An RDR (09 R376). -/
def State.onRDR (s : State) (p : Packet) : State :=
  if ¬ s.fresh p then s.count 0x27
  else match (s.fabTag p.tag).kind with
    | .stream => if ((s.tagReq p.tag).map (·.write)).getD true then s.count 0x27 else s.endStreamUse p.tag p.data none
    | _ => s.count 0x27

/-- A NAK ends its use with an error (09 R375, R376, R378); a Formed master whose probe meets one declares the member
lost (10 R393). -/
def State.onNAK (s : State) (p : Packet) : State :=
  if ¬ s.fresh p then s.count 0x27
  else
    let u := s.fabTag p.tag
    let got := if u.kind = .xfr then some (s.pieceAt p.tag p.addr) else none
    let s := s.failUse p.tag p.cause p.subcode got
    if u.kind = .probe ∧ s.casc.state = .formed ∧ s.cascI = 0 then s.breakCascade u.ctx else s

/-- An EPA (09 R380). -/
def State.onEPA (s : State) (p : Packet) : State :=
  if ¬ s.fresh p then s.count 0x27
  else match (s.fabTag p.tag).kind with
    | .epoch => ((s.releaseTag p.tag).notAwaited p.tag).settle
    | _ => s.count 0x27

/-- An LCTL (09 R364, R365, R367): its entries, in order. -/
def State.onLCTL (s : State) (p : Packet) : State :=
  (List.range (p.data.length / 4)).foldl (fun s i => s.takeEntry p.src (leAt p.data (4 * i) 4)) s

/-- What a packet for this device brings about (09 Fabric table 6). -/
def State.onPacket (s : State) (p : Packet) : State :=
  if p.ptype = ptWR then s.onWR p else if p.ptype = ptRDQ then s.onRDQ p else if p.ptype = ptRDR then s.onRDR p
  else if p.ptype = ptACK then s.onACK p else if p.ptype = ptNAK then s.onNAK p else if p.ptype = ptDBL then s.onDBL p
  else if p.ptype = ptEPC then s.onEPC p else if p.ptype = ptEPQ then s.onEPQ p else if p.ptype = ptEPA then s.onEPA p else s

/-! ### The rows -/

/-- A packet that a row of its own stands for arrives: it is of that type, or of a reserved type, and for this device. A
packet of another row has no effect here. -/
def State.packetRow (s : State) (w : FabricPacket) (t : Nat) (handle : State → Packet → State) : State :=
  let p := fpPacket w
  if headerOk w ∧ (p.dest ≠ s.ownDev ∧ p.ptype ≠ ptLCTL ∨ (p.ptype ≠ t ∧ (ptVL p.ptype).isSome)) then s
  else match s.takePacket w with
    | (s, some p) => handle s p
    | (s, none) => s

/-- A packet for another device goes on towards it, or is discarded (09 R356, R370). -/
def State.passOn (s : State) (p : Packet) : State :=
  if p.hops = 2 then s.count 0x22
  else match s.queuePacket { p with hops := p.hops + 1 } true with
    | .ok s => s
    | .error _ =>
      if p.vl = 0 then s.respond p { ptype := ptNAK, cause := causeUnreachable, subcode := (s.routeDim p.dest).getD 0 } else s

/-- FORWARD (09 R354 to R358, R370). cut: the packet's head had already gone onward when its payload CRC failed, so that
the outgoing packet ends stomped while a replay is requested. -/
def State.forward (s : State) (w : FabricPacket) (cut : Bool) : State :=
  let p := fpPacket w
  if headerOk w ∧ (p.dest = s.ownDev ∨ p.ptype = ptLCTL) then s
  else
    let inOrder := decide (bits w.header.toNat 112 10 = ((s.lane w.lane.val).lseqRx + 1) % 1024)
    let failing := cut && headerOk w && !payloadOk w && !stomped w && inOrder && !s.badPacket p && decide (p.hops ≠ 2)
    match s.takePacket w with
    | (s, some p) => s.passOn p
    | (s, none) =>
      if failing then (match s.queuePacket { p with hops := p.hops + 1, stomped := true } true with
        | .ok s => s
        | .error _ => s)
      else s

/-- A packet for the device itself, which no fiber carries, is delivered (09 R354). -/
def State.deliverOwn (s : State) : State :=
  match s.fab.queues.find? (fun q => decide (q.dim = 3)) with
  | some q => ({ s with fab := { s.fab with queues := s.fab.queues.erase q } }).onPacket q.pkt
  | none => s

/-- DOORBELL_SEND (09 R378, R381): whether a write of 3000:10 is refused; the reserved fields are the object's. -/
def State.doorbellBusy (s : State) : Bool := bit s.fab.db 0 || decide (s.obj 0x3000 6 = 1)

end Sys2Proof.Machine
end

