-- ==== Sys2Proof/Machine/Ecc.lean ====
section
/-! DEFINITION. ECDSA on brainpoolP384r1 with SHA-384, and the deterministic nonce of RFC 6979 (13 R478, 16 R536, R539, R551).
The spec names the curve and the algorithms; their constants and steps are those of RFC 5639, FIPS 186 and RFC 6979
(PRESUMED, log 28). -/

namespace Sys2Proof.Machine

/-- The field prime of brainpoolP384r1. -/
def eccP : Nat := 0x8CB91E82A3386D280F5D6F7E50E641DF152F7109ED5456B412B1DA197FB71123ACD3A729901D1A71874700133107EC53
/-- Curve coefficient a. -/
def eccA : Nat := 0x7BC382C63D8C150C3C72080ACE05AFA0C2BEA28E4FB22787139165EFBA91F90F8AA5814A503AD4EB04A8C7DD22CE2826
/-- Curve coefficient b. -/
def eccB : Nat := 0x04A8C7DD22CE28268B39B55416F0447C2FB77DE107DCD2A62E880EA53EEB62D57CB4390295DBC9943AB78696FA504C11
/-- Base point, x. -/
def eccGx : Nat := 0x1D1C64F068CF45FFA2A63A81B7C13F6B8847A3E77EF14FE3DB7FCAFE0CBD10E8E826E03436D646AAEF87B2E247D4AF1E
/-- Base point, y. -/
def eccGy : Nat := 0x8ABE1D7520F9C2A45CB1EB8E95CFD55262B70B29FEEC5864E19C054FF99129280E4646217791811142820341263C5315
/-- The order of the base point. -/
def eccN : Nat := 0x8CB91E82A3386D280F5D6F7E50E641DF152F7109ED5456B31F166E6CAC0425A7CF3AB6AF6B7FC3103B883202E9046565

/-- A power modulo m, by the bits of the exponent from bit k − 1 down. -/
def powMod (m b e : Nat) : Nat → Nat
  | 0 => 1 % m
  | k + 1 => let r := powMod m b (e / 2) k; if e % 2 = 1 then r * r % m * b % m else r * r % m

/-- The inverse modulo a prime of 384 bits. -/
def invMod (m x : Nat) : Nat := powMod m x (m - 2) 384

/-- A point in Jacobian coordinates (x / z², y / z³); z = 0 is the point at infinity. -/
abbrev JPoint := Nat × Nat × Nat

/-- A difference modulo the field prime. -/
def subP (a b : Nat) : Nat := (a + eccP - b % eccP) % eccP

/-- Twice a point. -/
def eccDouble (q : JPoint) : JPoint :=
  let (x, y, z) := q
  let yy := y * y % eccP
  let s := 4 * x * yy % eccP
  let zz := z * z % eccP
  let m := (3 * x * x + eccA * (zz * zz % eccP)) % eccP
  let x' := subP (m * m) (2 * s)
  (x', subP (m * subP s x') (8 * (yy * yy % eccP)), 2 * y * z % eccP)

/-- The sum of two points. -/
def eccAdd (q r : JPoint) : JPoint :=
  let (x1, y1, z1) := q
  let (x2, y2, z2) := r
  if z1 = 0 then r
  else if z2 = 0 then q
  else
    let a := z1 * z1 % eccP
    let b := z2 * z2 % eccP
    let u1 := x1 * b % eccP
    let u2 := x2 * a % eccP
    let s1 := y1 * z2 % eccP * b % eccP
    let s2 := y2 * z1 % eccP * a % eccP
    if u1 = u2 then (if s1 = s2 then eccDouble q else (1, 1, 0))
    else
      let h := subP u2 u1
      let v := subP s2 s1
      let hh := h * h % eccP
      let hhh := hh * h % eccP
      let w := u1 * hh % eccP
      let x := subP (v * v) (hhh + 2 * w)
      (x, subP (v * subP w x) (s1 * hhh), h * z1 % eccP * z2 % eccP)

/-- A multiple of a point, by the low k bits of the factor. -/
def eccMul (n : Nat) (q : JPoint) : Nat → JPoint
  | 0 => (1, 1, 0)
  | k + 1 => let r := eccDouble (eccMul (n / 2) q k); if n % 2 = 1 then eccAdd r q else r

/-- The affine coordinates of a point other than infinity. -/
def eccAffine (q : JPoint) : Nat × Nat :=
  let i := invMod eccP q.2.2
  (q.1 * (i * i % eccP) % eccP, q.2.1 * (i * i % eccP * i % eccP) % eccP)

/-- Whether coordinates lie on the curve. -/
def onCurve (x y : Nat) : Bool :=
  decide (x < eccP) && decide (y < eccP) && decide (y * y % eccP = (x * x * x + eccA * x + eccB) % eccP)

/-- An uncompressed point of 97 bytes: 0x04, X and Y, big-endian (16 R536). -/
def pointBytes (x y : Nat) : List Byte := 0x04#8 :: (beBytes 48 x ++ beBytes 48 y)

/-- The public key of a secret. -/
def publicKey (d : Nat) : List Byte :=
  let (x, y) := eccAffine (eccMul d (eccGx, eccGy, 1) 384)
  pointBytes x y

/-- ECDSA verification of a 96-byte signature, r then s, over a message, with an uncompressed public key. -/
def ecdsaVerify (key msg sig : List Byte) : Bool :=
  let x := beWord ((key.drop 1).take 48)
  let y := beWord ((key.drop 49).take 48)
  let r := beWord (sig.take 48)
  let t := beWord ((sig.drop 48).take 48)
  if key.length = 97 ∧ key.head? = some 0x04#8 ∧ onCurve x y ∧ sig.length = 96 ∧ 0 < r ∧ r < eccN ∧ 0 < t ∧ t < eccN then
    let e := beWord (sha384 msg)
    let w := invMod eccN t
    let q := eccAdd (eccMul (e * w % eccN) (eccGx, eccGy, 1) 384) (eccMul (r * w % eccN) (x, y, 1) 384)
    decide (q.2.2 ≠ 0) && decide ((eccAffine q).1 % eccN = r)
  else false

/-- HMAC-SHA-384. -/
def hmac384 (key msg : List Byte) : List Byte :=
  let k := key ++ List.replicate (128 - key.length) 0
  sha384 (k.map (· ^^^ 0x5C#8) ++ sha384 (k.map (· ^^^ 0x36#8) ++ msg))

/-- The candidates for the nonce of RFC 6979, section 3.2, step h, with fuel. -/
def rfc6979Loop (k v : List Byte) : Nat → Nat
  | 0 => 1
  | fuel + 1 =>
    let v := hmac384 k v
    let c := beWord v
    if 0 < c ∧ c < eccN then c
    else
      let k := hmac384 k (v ++ [0x00#8])
      rfc6979Loop k (hmac384 k v) fuel

/-- The nonce of RFC 6979 for a secret and a message. -/
def rfc6979 (d : Nat) (msg : List Byte) : Nat :=
  let h := beBytes 48 (beWord (sha384 msg) % eccN)
  let v := List.replicate 48 (0x01#8 : Byte)
  let k := hmac384 (List.replicate 48 0) (v ++ [0x00#8] ++ beBytes 48 d ++ h)
  let v := hmac384 k v
  let k := hmac384 k (v ++ [0x01#8] ++ beBytes 48 d ++ h)
  rfc6979Loop k (hmac384 k v) 64

/-- An ECDSA signature of 96 bytes, r then s, with the nonce of RFC 6979 (16 R551). -/
def ecdsaSign (d : Nat) (msg : List Byte) : List Byte :=
  let k := rfc6979 d msg
  let r := (eccAffine (eccMul k (eccGx, eccGy, 1) 384)).1 % eccN
  let s := invMod eccN k * ((beWord (sha384 msg) + r * d) % eccN) % eccN
  beBytes 48 r ++ beBytes 48 s

end Sys2Proof.Machine
end

