-- ==== Sys2Proof/Machine/Light.lean ====
section
/-! DEFINITION. The combs: pump failures, loss and return of light (07 R261 to R263, 09 R383, 15 Power table 7, 17 R557). -/

namespace Sys2Proof.Machine

/-- Every column loop of the clusters whose loops are not stopped, but those of retired columns, takes a state in Q15 form: open, or
sweeping (07 R262, R280, R292). -/
def State.allLoops (s : State) (st : LoopSt) : State :=
  let on := (List.range 98).filter (fun c => (s.cluster c).loopsOn)
  let s := on.foldl (fun s c => s.modCluster c (fun x => { x with base := st })) s
  { s with cols := mmap {} s.cols (fun k (x : ColSt) =>
      if x.retired ∨ k / 33 / 256 ∉ on then x
      else { x.inQ15 with loop := if x.loop = .base then .base else st, clean := 0, clampRun := 0, det := none
                          sweep := if st = .sweeping ∧ x.loop ≠ .base then some {} else none }) }

/-- The Basin is Faulted: the running op, and one whose passes are not all converted, end with BASIN_FAULT (07 R262, 17
R557). -/
def State.basinFault (s : State) (code : Nat) : State :=
  let s := (s.basinOps.foldl (fun s o => s.failRun o 0x13 (basinDetail code 0x7FFF)) s).tellPause
  { s with basin := { s.basin with state := .faulted } }

/-- The compute comb's light is gone: every loop opens, every heater moves to its parking code through its slew limiter,
and the Basin is Faulted (07 R262). -/
def State.computeGone (s : State) : State :=
  let s := s.allLoops .opened
  let s := { s with heaters := mmap {} s.heaters (fun _ (h : HeaterSt) => { h with target := none }) }
  s.basinFault 0x0102

/-- A comb is lost (07 R261 to R263); dead: until the next cold reset. -/
def State.combLost (s : State) (link dead : Bool) : State :=
  let s := if link then { s with light := { s.light with link := .lost, linkLostAt := some s.time, linkDead := dead } }
           else { s with light := { s.light with compute := .lost, computeLostAt := some s.time, computeDead := dead } }
  let s := s.condition 0x0102 2 (b2n link)
  if link then s.fabricDown .faulted else s.computeGone

/-- The state of a comb. -/
def State.comb (s : State) (link : Bool) : CombSt := if link then s.light.link else s.light.compute

/-- The pumps of a comb: bit 0 the one in service, bits 1 and 2 those that have failed (07 Loops table 5). -/
def State.pumps (s : State) (link : Bool) : Nat := if link then s.light.linkPumps else s.light.computePumps

/-- The pumps of a comb set. -/
def State.setPumps (s : State) (link : Bool) (v : Nat) : State :=
  if link then { s with light := { s.light with linkPumps := v } } else { s with light := { s.light with computePumps := v } }

/-- PUMP_FAIL (07 R261): the pump in service fails. The cold spare starts, unless it has failed too. -/
def State.pumpFail (s : State) (link : Bool) : State :=
  let v := s.pumps link
  let cur := bits v 0 1
  if s.comb link = .dark ∨ bit v (1 + cur) then s
  else
    let lost : Bool := decide (s.comb link = .lost)
    if bit v (2 - cur) then
      -- the second pump: lost until the next cold reset
      let s := s.setPumps link (v ||| 2 ^ (1 + cur))
      if lost then (if link then { s with light := { s.light with linkDead := true } } else { s with light := { s.light with computeDead := true } })
      else s.combLost link true
    else
      let s := s.setPumps link ((1 - cur) + 2 * (v / 2) ||| 2 ^ (1 + cur))
      let s := s.condition 0x0101 1 (b2n link + 2 * (1 - cur))
      if lost then s else s.combLost link false

/-- Whether a lost comb may still come back. -/
def State.combWaits (s : State) (link : Bool) : Option Nat :=
  if s.comb link ≠ .lost then none
  else if link then (if s.light.linkDead then none else s.light.linkLostAt)
  else if s.light.computeDead then none else s.light.computeLostAt

/-- COMB_RETURN (07 R261, R262, 09 R383): within 250 ms of the loss; later, the comb stays lost. -/
def State.combReturn (s : State) (link : Bool) : State :=
  match s.combWaits link with
  | none => s
  | some t =>
    if t + 300000000 < s.time then s
    else
    let s := if link then { s with light := { s.light with link := .locked, linkLostAt := none } }
             else { s with light := { s.light with compute := .locked, computeLostAt := none, recheck := true } }
    let s := s.condition 0x0103 0 (b2n link)
    if link then s.fabricReturn else s.allLoops .sweeping

/-- COMB_RETURN_TIMEOUT (07 R261): the comb has not returned within 250 ms. -/
def State.combTimeout (s : State) (link : Bool) : State :=
  match s.combWaits link with
  | none => s
  | some t =>
    if s.time < t + 300000000 then s
    else if link then { s with light := { s.light with linkDead := true } }
    else { s with light := { s.light with computeDead := true } }

/-- COMB_OVERTEMPERATURE (15 Power table 7): a module at 80 °C stops its pumps, and the comb is lost. -/
def State.combHot (s : State) (link : Bool) : State :=
  if s.comb link = .dark then s
  else if s.comb link = .lost then
    (if link then { s with light := { s.light with linkDead := true } } else { s with light := { s.light with computeDead := true } })
  else s.combLost link true

end Sys2Proof.Machine
end

