-- ==== Sys2Proof/Machine/Answer.lean ====
section
/-! DEFINITION. The two ports as a requester sees them: whether a request reaches the Barker, and how the device answers on
the host link and on the field port (11 R415, R426, R428, 12 R456 to R461, 13 R465, 14 R491, R506). -/

namespace Sys2Proof.Machine

/-! ### Frames of the field port (12 R457, R459) -/

/-- The 8-byte header of a frame (12 R459). -/
def fpHeader (tid status index sub len subcode : Nat) : List Byte :=
  [BitVec.ofNat 8 tid, BitVec.ofNat 8 status, BitVec.ofNat 8 index, BitVec.ofNat 8 (index / 256), BitVec.ofNat 8 sub,
   BitVec.ofNat 8 len, 0, BitVec.ofNat 8 subcode]

/-- Responses that the transmit queue holds (12 R457). -/
def fpRspDepth : Nat := 32

/-- A response joins the transmit queue of the field port, or is discarded where the queue is full (12 R457). -/
def State.fpRespond (s : State) (f : FpFrame) : State :=
  if s.fp.rsp.length < fpRspDepth then { s with fp := { s.fp with rsp := s.fp.rsp ++ [f] } } else s.count 0x30

/-- A response's status, subcode and data on the field port (12 Dictionary table 14). -/
def Ans.fp? : Ans → Nat × Nat × List Byte
  | .ok d => (0, 0, d)
  | .okIgnored => (0, 0, [])
  | .err c k => (c, k, [])
  | .retry => (0x24, 0, [])
  | .refused r => (errValue, r, [])
  | .fp st => (st, 0, [])

/-- Segment n of a segmented read, as a frame (12 R459, R461): 60 bytes, and the remainder in the last. -/
def Seg.frame (g : Seg) (n : Nat) : FpFrame :=
  let d := (g.data.drop (60 * n)).take 60
  { service := 7, node := g.node
    bytes := [BitVec.ofNat 8 g.tid, 0, BitVec.ofNat 8 n, if g.total ≤ 60 * (n + 1) then 1 else 0] ++ d }

/-- The answer to a field port request (12 R459 to R461): the response of the service named. A SEG_INIT_RSP with a value
opens the segmented read of it and sends its first segment; a SEG_ACK carries the status of the write that it ends. -/
def State.answerField (s : State) (node tid service index sub : Nat) (a : Ans) : State :=
  let (st, k, d) := a.fp?
  if service % 256 = 8 then
    let s := { s with fp := { s.fp with seg := s.fp.seg.map (fun (g : Seg) => if g.done then { g with status := st } else g) } }
    s.fpRespond { service := 8, node := node, bytes := [BitVec.ofNat 8 tid, BitVec.ofNat 8 st, BitVec.ofNat 8 (service / 256), 1] }
  else if service % 256 = 6 then
    let s := s.fpRespond { service := 6, node := node, bytes := fpHeader tid st index sub (if st = 0 then 4 else 0) k ++ (if st = 0 then leBytes 4 d.length else []) }
    if st = 0 then
      let g : Seg := { node := node, tid := tid, index := index, sub := sub, total := d.length, data := d, next := 1, last := s.time }
      ({ s with fp := { s.fp with seg := some g } }).fpRespond (g.frame 0)
    else s
  else if service % 256 = 2 ∧ 56 < d.length then
    s.fpRespond { service := 2, node := node, bytes := fpHeader tid 0x22 index sub 0 0 }
  else s.fpRespond { service := service % 256, node := node, bytes := fpHeader tid st index sub d.length k ++ d }

/-- The device answers a request for an object (11 R415, R426, 12 R459): a CPL on the host link, while it is Up, or a
response on the field port. A REFUSED answer is recorded in 0400:06, whatever drew it. -/
def State.answer (s : State) (p : Port) (index sub : Nat) (a : Ans) : State :=
  let s := match a with
    | .refused r => { s with hl := { s.hl with refusal := r } }
    | _ => s
  match p with
  | .field node tid service => s.answerField node tid service index sub a
  | .host tag =>
    if s.hl.state ≠ .up then s
    else match a with
      | .ok d => s.cpl tag 0 0 d
      | .okIgnored => s.cpl tag 0 1
      | .err c k => s.cpl tag 1 (c % 256 + 256 * (k % 256))
      | .retry => s.cpl tag 2 0
      | .refused r => s.cpl tag 3 r
      | .fp _ => s.cpl tag 1 errValue

/-! ### Who is served (11 R407, R428, 12 R450, R456, 13 R465, 14 R491, R506, 15 Power table 2) -/

/-- Requests arrive at a port: the device is not Dark and in the Run state, and the link is Up or the field port Active. -/
def State.portOpen (s : State) : Port → Bool
  | .host _ => !s.dark && decide (s.pwr.state = 3) && decide (s.hl.state = .up)
  | .field _ _ _ => !s.dark && decide (s.pwr.state = 3) && decide (s.fp.state = .active)

/-- The Barker serves the dictionary. -/
def State.barker (s : State) : Bool := s.runs procBarker

/-- In field-port recovery the Barker serves the pages of 14 R506 alone: 0x0000, 0x0100, 0x0200, 0x0400, 0x0500, 0x5800 and
0x6000. -/
def State.servedIndex (s : State) (index : Nat) : Bool :=
  !s.rst.fpRecovery || decide (index < 0x1000) || (decide (0x5800 ≤ index) && decide (index < 0x6800))

/-- Field-port writes are refused: FB_WINH reads 1, or the option byte denies them (12 R456). -/
def State.winh (s : State) : Bool := s.fp.winhPin || !bit s.rst.options 25

/-- Whether a request comes by the field port. -/
def isField : Port → Bool
  | .field _ _ _ => true
  | .host _ => false

/-- The processor that keeps the value of an object, other than the Barker (13 R465): the security core the option command
objects, the Ringmaster its bookkeeping, the power core the telemetry and the regulator latch. -/
def keeper (index sub : Nat) : Option Nat :=
  if index = 0x6800 ∧ 8 ≤ sub ∧ sub ≤ 0x0A then some procSecurity
  else if index = 0x1800 ∧ (4 ≤ sub ∧ sub ≤ 6 ∨ sub = 8) then some procRingmaster
  else if index = 0x5000 ∧ (sub = 0x0E ∨ sub = 0x0F) then some procPower
  else if 0x5101 ≤ index ∧ index ≤ 0x5108 ∧ 2 ≤ sub then some procPower
  else none

/-- An access waits for the processor that keeps the object's value (13 R465). -/
def State.mustWait (s : State) (index sub : Nat) : Option Nat :=
  match keeper index sub with
  | some p => if s.runs p then none else some p
  | none => none

/-- A field port request is held in the receive buffer of 16 frames while the Barker is away, or dropped (12 R457). -/
def State.holdFrame (s : State) (f : FpFrame) : State :=
  if s.fp.held.length < 16 then { s with fp := { s.fp with held := s.fp.held ++ [{ f with winh := s.winh }] } } else s.count 0x30

/-- A write by a port, held as the frame that carries it (12 R457, R459). -/
def State.holdWrite (s : State) (p : Port) (index sub : Nat) (data : List Byte) : State :=
  match p with
  | .field node tid _ => s.holdFrame { service := 3, node := node, bytes := fpHeader tid 0 index sub data.length 0 ++ data }
  | .host _ => s

/-- Room for the response to a field port request (12 R457). -/
def State.answerRoom (s : State) (p : Port) : Bool := !isField p || decide (s.fp.rsp.length < fpRspDepth)

end Sys2Proof.Machine
end

