-- ==== Sys2Proof/Machine/Restart.lean ====
section
/-! DEFINITION. Stop, change, restart: the ranges of objects, the checks that each owning function's restart makes, the
configuration failures, and the run objects (12 R432, R433, R439 to R442, 01 R38, 05 R214, 07 R284, R285, 09 R338, R381, R385,
10 R389, R390, 12 R450 to R452). -/

namespace Sys2Proof.Machine

/-! ### Ranges and sets (12 R433, 00 R6) -/

/-- Whether an FP32 code is finite and within bounds. -/
def f32In (lo hi : Rat) (n : Nat) : Bool := !f32Bad n && decide (lo ≤ f32Val n) && decide (f32Val n ≤ hi)

/-- Whether a scalar value has a reserved bit set (00 R6). 3000:03 holds 0xFFFFFFFF while it is unset (09 R338). -/
def reservedSet (index sub v : Nat) : Bool :=
  match index, sub with
  | 0x0000, 0x02 => decide (bits v 24 8 ≠ 0)
  | 0x0500, 0x0C => decide (bits v 17 15 ≠ 0)
  | 0x3000, 0x03 => decide (v ≠ 0xFFFFFFFF) && decide (bits v 17 15 ≠ 0)
  | 0x3000, 0x04 => decide (v ≠ bits v 0 6 + field 8 7 (bits v 8 7) + field 16 7 (bits v 16 7))
  | 0x4800, 0x05 => decide (bits v 23 9 ≠ 0)
  | 0x6800, 0x07 => decide (bits v 2 6 ≠ 0)
  | _, _ => false

/-- Whether a scalar value lies in the range or set that its object states (12 R433). -/
def inRange (index sub v : Nat) : Bool :=
  let table := match objRow index sub with
    | some (r, _) => (match r.range with
        | some (lo, hi) => decide (lo ≤ v) && decide (v ≤ hi)
        | none => true) && (decide (r.ty ≠ 0) || decide (v ≤ 1)) && (decide (r.ty ≠ 7) || !f32Bad v)
    | none => true
  table && (match index, sub with
    | 0x0400, 0x08 => decide (v % 64 = 0)
    | 0x0400, 0x09 => decide (v = 0) || (decide (64 ≤ v) && decide (v ≤ 65536) && decide (v = 2 ^ Nat.log2 v))
    | 0x0500, 0x05 => decide (v ∈ [125000, 250000, 500000, 1000000])
    | 0x0500, 0x06 => decide (v ∈ [0, 1000000, 2000000, 4000000, 5000000])
    | 0x0500, 0x0C => decide (60 ≤ bits v 0 8) && decide (bits v 0 8 ≤ 90) && decide (60 ≤ bits v 8 8) && decide (bits v 8 8 ≤ 90)
    | 0x1000, 0x02 => decide (v % 1000000 = 0)
    | 0x2400, 0x01 => decide (v % 8192 = 0) && decide (v + 8192 ≤ dramEnd)
    | 0x4000, 0x05 => f32In 1 7 v
    | 0x4800, 0x02 => f32In 60 104 v
    | 0x4800, 0x05 => decide (bits v 0 15 < 25088) && decide (bits v 15 6 ≤ 33)
    | 0x4C00, 0x05 => decide (v < 25088)
    | 0x5000, 0x03 => f32In 400 850 v
    | 0x5000, 0x0C => decide (v < 2 ^ 98)
    | 0x5010, 0x01 => f32In 70 90 v
    | _, _ =>
      if 0x1810 ≤ index ∧ index ≤ 0x1813 ∧ sub = 1 then decide (v = offNone) || (decide (v % 65536 = 0) && decide (v + 65536 ≤ stagingSize))
      else if 0x1810 ≤ index ∧ index ≤ 0x1813 ∧ sub = 2 then decide (v = offNone) || (decide (v % 32768 = 0) && decide (v + 32768 ≤ stagingSize))
      else true)

/-- Objects whose range is checked at the restart of their function, and not at the write (01 R38, 05 Ops table 15, 06 Streams
table 11). -/
def lateRange (index sub : Nat) : Bool :=
  decide ((index, sub) ∈ [(0x1000, 0x02), (0x1800, 0x07), (0x2400, 0x01)])

/-! ### Which functions run (12 R432, R439) -/

/-- The Basin is stopping: basin.run is 0 and a started op remains (12 R439). -/
def State.basinStopping (s : State) : Bool := !s.basin.run && s.ops.any Op.isStarted

/-- Whether an owning function is stopped, so that its RWS objects may be written (12 R432, Dictionary table 3). The objects
of the loops are common to the clusters: every cluster's loops must be stopped. -/
def State.fnStopped (s : State) (fn : Nat) : Bool :=
  match fn with
  | 1 => (decide (s.basin.state = .stopped) || !s.basin.run) && !s.ops.any Op.isStarted
  | 2 => decide (s.fab.state = .stopped)
  | 3 => (List.range 98).all (fun c => !(s.cluster c).loopsOn && !(s.cluster c).asleep && (s.cluster c).waking.isNone)
  | 4 => decide (s.obj 0x0500 2 = 0)
  | 5 => decide (s.casc.state = .stopped)
  | _ => true

/-! ### Configuration failures (12 R441, R442) -/

/-- The order of 12 R442. -/
def Fail.key (f : Fail) : Nat := ((f.index * 256 + f.sub) * 8 + f.fn) * 128 + f.cluster

/-- A failure entered in order; one object has one entry for each function and cluster. -/
def insertFail (f : Fail) : List Fail → List Fail
  | [] => [f]
  | g :: gs => if f.key < g.key then f :: g :: gs else if f.key = g.key then f :: gs else g :: insertFail f gs

/-- Dictionary table 4. -/
def Fail.word (f : Fail) : Nat :=
  field 0 16 f.index + field 16 8 f.sub + field 24 3 f.fn + field 32 7 f.cluster + field 40 8 f.reason

/-- Objects by index, subindex and reason are entered for a function and cluster. -/
def State.enterFails (s : State) (fn c : Nat) (l : List (Nat × Nat × Nat)) : State :=
  { s with dict := { s.dict with fails := l.foldl (fun fs (x : Nat × Nat × Nat) =>
      insertFail { index := x.1, sub := x.2.1, fn := fn, cluster := c, reason := x.2.2 } fs) s.dict.fails } }

/-- NV objects whose stored copy could not be read are entered at their function's next restart, with reason 5 (13 R488). -/
def State.enterUnreadable (s : State) (fn c : Nat) : State :=
  let mine := s.fw.unreadable.filter (fun k => decide (((objRow (k / 256) (k % 256)).map (·.1.owner)) = some fn))
  let s := s.enterFails fn c (mine.map (fun k => (k / 256, k % 256, 5)))
  { s with fw := { s.fw with unreadable := s.fw.unreadable.filter (fun k => decide (k ∉ mine)) } }

/-- A restart of a function passes or fails its checks (12 R440, R441): the failing objects are entered and a CONFIG_FAIL
event is raised, or the function's earlier entries are removed. -/
def State.checked (s : State) (fn c : Nat) (faults : List (Nat × Nat × Nat)) : State :=
  if faults = [] then
    ({ s with dict := { s.dict with fails := s.dict.fails.filter (fun f => !(decide (f.fn = fn) && decide (f.cluster = c))) } }).enterUnreadable fn c
  else
    let s := (s.enterFails fn c faults).enterUnreadable fn c
    s.event 4 2 1 (field 0 3 fn + field 3 7 c + field 10 8 (min faults.length 255))

/-- The answer to a restart (12 R440). -/
def restartAns (faults : List (Nat × Nat × Nat)) (runs : Bool) : Ans :=
  if faults = [] ∧ runs then .ok [] else .err errValue (min faults.length 255)

/-! ### Function 1: the Basin (01 R38, 05 R214, 12 R439, R440) -/

/-- Objects of a list that are outside their range, with reason 1. -/
def State.rangeFaults (s : State) (l : List (Nat × Nat)) : List (Nat × Nat × Nat) :=
  (l.filter (fun x => !inRange x.1 x.2 (s.obj x.1 x.2))).map (fun x => (x.1, x.2, 1))

/-- A queue's offset has changed while the queue holds an op submitted and not retired (05 R214). -/
def State.queueFaults (s : State) (q : Nat) : List (Nat × Nat × Nat) :=
  let u := s.queue q
  let busy := decide (u.done < u.submitted)
  (if busy ∧ s.obj (0x1810 + q) 1 ≠ u.confRing then [(0x1810 + q, 1, 3)] else s.rangeFaults [(0x1810 + q, 1)])
    ++ (if busy ∧ s.obj (0x1810 + q) 2 ≠ u.confCpl then [(0x1810 + q, 2, 3)] else s.rangeFaults [(0x1810 + q, 2)])

/-- What a restart of the Basin finds wrong. -/
def State.basinFaults (s : State) : List (Nat × Nat × Nat) :=
  s.rangeFaults [(0x1000, 2), (0x1800, 1), (0x1800, 2), (0x1800, 3), (0x1800, 7)]
    ++ (List.range 4).flatMap s.queueFaults ++ s.rangeFaults [(0x2400, 1), (0x2410, 1)]

/-- The queues take their new offsets; one whose offsets have changed starts again from zero (05 R214). -/
def State.takeOffsets (s : State) : State :=
  (List.range 4).foldl (fun s q =>
    let r := s.obj (0x1810 + q) 1
    let k := s.obj (0x1810 + q) 2
    s.modQueue q (fun u => if u.confRing = r ∧ u.confCpl = k then u else { confRing := r, confCpl := k })) s

/-- The Basin restarts once it is stopped (12 R440, R441). Without the compute comb's light it stays Faulted (07 R262). -/
def State.restartBasin (s : State) : State × Ans :=
  let fs := s.basinFaults
  let s := s.checked 1 127 fs
  if fs ≠ [] then
    ({ s with basin := { s.basin with run := false, state := if s.basin.state = .faulted then .faulted else .stopped } }, restartAns fs false)
  else
    let s := s.takeOffsets
    if s.light.compute = .locked ∧ (s.proc procRingmaster).state ≠ .held then
      ({ s with basin := { s.basin with run := true, state := .running } }, restartAns fs true)
    else ({ s with basin := { s.basin with run := true, state := .faulted } }, restartAns fs false)

/-- A write of 1 to basin.run (12 R440): nothing where the Basin runs; at the end of the stop where it is stopping. -/
def State.basinStart (s : State) (p : Port) : State × Option Ans :=
  if s.basin.run ∧ (s.basin.state = .running ∨ s.basin.state = .paused) then (s, some (.ok []))
  else if s.basinStopping then ({ s with basin := { s.basin with restartDue := s.basin.restartDue ++ [p] } }, none)
  else let (s, a) := s.restartBasin; (s, some a)

/-- A write of 0 to basin.run (12 R439). -/
def State.basinStop (s : State) : State := ({ s with basin := { s.basin with run := false } }).settle

/-- The restarts that waited for the stop of the Basin are applied once it is complete (12 R440). -/
def State.dueRestart (s : State) : State :=
  if s.basin.restartDue = [] ∨ s.basinStopping then s
  else
    let ps := s.basin.restartDue
    let s := { s with basin := { s.basin with restartDue := [] } }
    let (s, a) := s.restartBasin
    ps.foldl (fun s p => s.answer p 0x1000 0x0B a) s

/-! ### Function 2: the fabric (09 R338, R381, R385) -/

/-- What a restart of the fabric finds wrong, with reasons. -/
def State.fabricReasons (s : State) : List (Nat × Nat × Nat) :=
  s.fabricFaults.map (fun x => (x.1, x.2,
    if reservedSet x.1 x.2 (s.obj x.1 x.2) then 2 else if x.2 = 3 ∧ bits (s.obj 0x3000 3) 17 15 = 0 then 3 else 1))
    ++ s.rangeFaults [(0x3000, 7), (0x3000, 8), (0x3000, 9), (0x3000, 0x0A)]

/-- The fabric restarts after validation (09 R385). -/
def State.restartFabric (s : State) : State × Ans :=
  let fs := s.fabricReasons
  let s := s.checked 2 127 fs
  if fs = [] then ((s.setObj 0x3000 2 1).startFabric, .ok []) else (s.setObj 0x3000 2 0, restartAns fs false)

/-- A write of 1 to fab.run. -/
def State.fabricStart (s : State) : State × Ans := if s.fab.state ≠ .stopped then (s, .ok []) else s.restartFabric

/-- A write of 0 to fab.run (09 R385). -/
def State.fabricStop (s : State) : State :=
  let s := s.setObj 0x3000 2 0
  if s.fab.state = .stopped then s else (s.fabricDown .stopped).settle

/-! ### Function 3: the loops of a cluster (07 R284, R285) -/

/-- A coefficient block breaks a rule of 07 R285: reason 2 for a reserved field, 4 for its contents. -/
def blockFault (v : Nat) : Option Nat :=
  let k := fun (n : Nat) => sint 16 (bits v (16 * n) 16)
  let adBad := fun (n : Nat) => decide (k n < 0) || decide (0x3FFF < k n)
  let notchBad := fun (a b : Nat) => decide (16384 ≤ (k b).natAbs) || decide (16384 + k b ≤ ((k a).natAbs : Int))
  if v >>> 368 ≠ 0 then some 2
  else if adBad 3 ∨ adBad 13 ∨ notchBad 7 8 ∨ notchBad 17 18 ∨ [9, 19, 21, 22].any (fun n => decide (k n = 0))
      ∨ [0, 1, 2, 10, 11, 12].any (fun n => decide (k n < 0)) then some 4
  else none

/-- The tile classes that a cluster contains. -/
def clusterClasses (c : Nat) : List Nat :=
  [0, 1, 2].filter (fun k => (List.range 256).any (fun i => decide (tileClass (256 * c + i) = k)))

/-- What a restart of cluster c's loops finds wrong. -/
def State.loopFaults (s : State) (c : Nat) : List (Nat × Nat × Nat) :=
  s.rangeFaults [(0x4000, 5), (0x4000, 0x0B), (0x4000, 0x0C)]
    ++ (clusterClasses c).filterMap (fun k => (blockFault (s.obj 0x4010 (1 + k))).map (fun r => (0x4010, 1 + k, r)))
    ++ s.rangeFaults [(0x4800, 1), (0x4800, 2), (0x4800, 4), (0x4C00, 1)]

/-- The run object of a cluster's loops, 41cc:02. -/
def State.loopsRun (s : State) (c : Nat) : Bool := !mget false s.dict.loops c

/-- The run object of a cluster's loops set. -/
def State.setLoopsRun (s : State) (c : Nat) (on : Bool) : State :=
  { s with dict := { s.dict with loops := mset false s.dict.loops c !on } }

/-- Whether a cluster is in a state in which its loops may run: not asleep and not in a block reset, with the compute comb's
light and the cluster cores started (14 R499, R509, 15 R523). -/
def State.loopsAble (s : State) (c : Nat) : Bool :=
  !(s.cluster c).asleep && !(s.cluster c).inReset && decide (7 ≤ s.rst.step)

/-- A write of 1 to 41cc:02 (07 R284). -/
def State.loopsStart (s : State) (c : Nat) : State × Ans :=
  if s.loopsRun c then (s, .ok [])
  else
    let fs := s.loopFaults c
    let s := s.checked 3 c fs
    if fs ≠ [] then (s, restartAns fs false)
    else
      let s := s.setLoopsRun c true
      (if s.loopsAble c then s.startLoops c else s, .ok [])

/-- A write of 0 to 41cc:02 (07 R284). -/
def State.loopsStop (s : State) (c : Nat) : State := (s.setLoopsRun c false).stopLoops c

/-! ### Function 4: the field port (12 R450 to R452) -/

/-- A field port state as coded (12 Dictionary table 10). -/
def FpSt.code : FpSt → Nat
  | .silent => 0 | .active => 1 | .busOff => 2 | .pinned => 3 | .flagLimit => 4

/-- The field port enters a state: an FP_STATE event is raised, and in every state but Active an open segmented transfer is
aborted without a frame (12 R461, Dictionary table 7). -/
def State.fpEnter (s : State) (st : FpSt) : State :=
  if s.fp.state = st then s
  else ({ s with fp := { s.fp with state := st, seg := if st = FpSt.active then s.fp.seg else none, pinnedWait := false } }).event 4 0 4 st.code

/-- What a restart of the field port finds wrong. -/
def State.fpFaults (s : State) : List (Nat × Nat × Nat) :=
  let ok6 := inRange 0x0500 6 (s.obj 0x0500 6)
  s.rangeFaults [(0x0500, 3), (0x0500, 4), (0x0500, 5)]
    ++ (if !ok6 then [(0x0500, 6, 1)]
        else if s.obj 0x0500 6 ≠ 0 ∧ s.obj 0x0500 6 < s.obj 0x0500 5 then [(0x0500, 6, 3)] else [])
    ++ s.rangeFaults [(0x0500, 7), (0x0500, 8), (0x0500, 9), (0x0500, 0x0A), (0x0500, 0x0B)]
    ++ (if reservedSet 0x0500 0x0C (s.obj 0x0500 0x0C) then [(0x0500, 0x0C, 2)] else s.rangeFaults [(0x0500, 0x0C)])
    ++ s.rangeFaults [(0x0500, 0x10)]

/-- A write of 1 to fp.enable (12 R440, R450 to R452): the port is Active, or Pinned while FB_SILENT reads 1; from BusOff it
first completes the bus-off recovery, and so it does from Silent where the transmit error count still exceeds 255. The token bucket
is full. -/
def State.fpStart (s : State) : State × Ans :=
  if s.obj 0x0500 2 = 1 then (s, .ok [])
  else
    let fs := s.fpFaults
    let s := s.checked 4 127 fs
    if fs ≠ [] then (s.fpEnter .silent, restartAns fs false)
    else
      let s := s.setObj 0x0500 2 1
      let s := { s with fp := { s.fp with tokens := s.obj 0x0500 9, refillAt := none } }
      if s.fp.state = .busOff ∨ 255 < s.fp.txErr then ({ s with fp := { s.fp with recovering := true } }, .ok [])
      else (s.fpEnter (if s.fp.silentPin then .pinned else .active), .ok [])

/-- A write of 0 to fp.enable (12 R450). -/
def State.fpStop (s : State) : State := (({ s with fp := { s.fp with recovering := false } }).setObj 0x0500 2 0).fpEnter .silent

/-! ### Function 5: the cascade (10 R389, R390) -/

/-- What a restart of the cascade finds wrong, with reasons. -/
def State.cascadeReasons (s : State) : List (Nat × Nat × Nat) :=
  (s.cascadeFaults.map (fun x => (x.1, x.2, if x.2 = 5 then 1 else if x.2 = 9 then 4 else if x.2 = 7 ∧ s.obj 0x3400 7 % 64 ≠ 0 then 1 else 3)))
    ++ s.rangeFaults [(0x3400, 8)]

/-- A write of 1 to cascade.run. -/
def State.cascadeStart (s : State) : State × Ans :=
  if s.casc.state ≠ .stopped then (s, .ok [])
  else
    let fs := s.cascadeReasons
    let s := s.checked 5 127 fs
    if fs = [] then ((s.setObj 0x3400 2 1).startCascade, .ok []) else (s, restartAns fs false)

/-- A write of 0 to cascade.run (10 R390). -/
def State.cascadeStop (s : State) : State := (s.setObj 0x3400 2 0).stopCascade

end Sys2Proof.Machine
end

