-- ==== Sys2Proof/Machine/Resets.lean ====
section
/-! DEFINITION. Resets: what each level clears and keeps, the causes and backup registers, the assertion and release of cold and
warm resets, and block resets (14 R490 to R501, 04 R162, R163, 06 R257, 09 R355). -/

namespace Sys2Proof.Machine

/-! ### Causes and backup registers (14 R491, R500, Reset table 5) -/

/-- A reset's cause and level are written to backup register 1 and to 5800:03 and 5800:04 (14 R491). -/
def State.pushCause (s : State) (level cause : Nat) : State :=
  let old := mget 0 s.rst.backup 1
  { s with rst := { s.rst with
      lastCause := cause, lastLevel := level
      backup := mset 0 s.rst.backup 1 (field 0 8 cause + field 8 24 (bits old 0 24) + field 32 8 level) } }

/-- A saturating field of a backup register is raised by one. -/
def State.raiseBackup (s : State) (n lo w : Nat) : State :=
  let v := mget 0 s.rst.backup n
  { s with rst := { s.rst with backup := mset 0 s.rst.backup n (setBits v lo w (satAdd w (bits v lo w) 1)) } }

/-- A field of a backup register set. -/
def State.setBackup (s : State) (n lo w v : Nat) : State :=
  { s with rst := { s.rst with backup := mset 0 s.rst.backup n (setBits (mget 0 s.rst.backup n) lo w v) } }

/-! ### What a cold or warm reset leaves (14 R490, Reset table 1) -/

/-- The NV store after a reset: of each commit not yet made, either the old value or the new one is there (12 R435), a free
choice. -/
def State.settleNv (s : State) : State :=
  s.dict.nvDue.foldl (fun s (e : Nat × Nat) =>
    let (i, s) := s.draw
    if (Config.free i).toNat % 2 = 1 then
      { s with dict := { s.dict with nv := match objRow (e.1 / 256) (e.1 % 256) with
          | some (r, k) => mset (rowDefault r k) s.dict.nv e.1 (s.obj (e.1 / 256) (e.1 % 256))
          | none => s.dict.nv } }
    else s) s

/-- Memory whose contents a reset leaves undefined: each byte that was written holds a free value (14 Reset table 1). -/
def scrambleBytes (m : SMap Byte) (i : Nat) : SMap Byte :=
  m.zipIdx.foldl (fun acc e => mset 0 acc e.1.1 (BitVec.ofNat 8 (Config.free (i + e.2)).toNat)) []

/-- Ring charges after a reset: free values where a digit was written (14 Reset table 1). -/
def scrambleRings (m : SMap Nat) (i : Nat) : SMap Nat :=
  m.zipIdx.foldl (fun acc e => mset 0 acc e.1.1 ((Config.free (i + e.2)).toNat % 16)) []

/-- The machine that a cold reset, or a warm one, leaves: the state after reset, with what Reset table 1 keeps. The history of
what has left the ports is kept too. -/
def State.cleared (s : State) (cold : Bool) : State :=
  let s := s.settleNv
  let i := s.freeCtr
  let j := i + s.mem.bytes.length
  let z : State := State.reset
  { z with
    freeCtr := j + s.rings.length
    mem := { bytes := scrambleBytes s.mem.bytes i }
    rings := scrambleRings s.rings j
    calNv := s.calNv
    tileNv := s.tileNv
    fab := { sent := s.fab.sent, frames := s.fab.frames }
    hl := { tx := s.hl.tx }
    fp := { silentPin := s.fp.silentPin, winhPin := s.fp.winhPin, sent := s.fp.sent }
    procs := if cold then [] else mmap {} s.procs (fun _ (p : Proc) => { restarts := p.restarts, crash := p.crash, activated := p.activated })
    fw := {
      bankState0 := s.fw.bankState0, bankState1 := s.fw.bankState1, recSeq := s.fw.recSeq, version0 := s.fw.version0, version1 := s.fw.version1
      compat0 := s.fw.compat0, compat1 := s.fw.compat1, map := s.fw.map, bundles := s.fw.bundles.filter (fun e => decide (e.1 < 2))
      data0 := s.fw.data0, data1 := s.fw.data1, crashLog := if cold then [] else s.fw.crashLog }
    rst := {
      backup := if cold then [] else s.rst.backup
      rstnIgnored := if cold then 0 else s.rst.rstnIgnored
      lastCause := if cold then 0 else s.rst.lastCause
      lastLevel := if cold then 0 else s.rst.lastLevel
      untrimmed := if cold then false else s.rst.untrimmed
      rails := s.rst.rails, pwrGood := s.rst.pwrGood, refLost := s.rst.refLost }
    pwr := {
      trip := s.pwr.trip, tripAt := s.pwr.tripAt, vrAlert := s.pwr.vrAlert, seqOff := !cold && s.pwr.seqOff, pmbus := s.pwr.pmbus
      state := if s.pwr.seqOff ∧ ¬ cold then 1 else 3, lastWake := if cold then 0 else s.pwr.lastWake }
    sec := {
      keys := s.sec.keys, revoked := s.sec.revoked, revoked2 := s.sec.revoked2, debugLock := s.sec.debugLock, debugLock2 := s.sec.debugLock2
      floorOtp := s.sec.floorOtp, floorOtp2 := s.sec.floorOtp2, floorSteps := s.sec.floorSteps, floorNv := s.sec.floorNv
      violations := s.sec.violations }
    light := {
      computePumps := s.light.computePumps, linkPumps := s.light.linkPumps
      computeDead := !cold && s.light.computeDead, linkDead := !cold && s.light.linkDead }
    cal := { parking := s.cal.parking }
    heaters := if cold then [] else mmap {} s.heaters (fun _ (h : HeaterSt) => { short := h.short, open_ := h.open_ })
    dict := { objs := s.dict.nv, nv := s.dict.nv }
    pending := s.pending }

/-- A cold reset (level 1) or a warm one (level 2) is asserted, with its cause (14 R491, R494, R497): step_at_reset and
time_at_reset are kept through a warm one. While another is asserted, the higher level applies. -/
def State.assertReset (s : State) (level cause : Nat) : State :=
  match s.rst.asserted with
  | some l =>
    if level < l then
      let t := s.cleared (decide (level = 1))
      { t with time := s.time, rst := { t.rst with asserted := some level, record := some (level, cause), clearAt := s.rst.clearAt } }
    else s
  | none =>
    let t := s.cleared (decide (level = 1))
    let t := { t with rst := { t.rst with asserted := some level, record := some (level, cause) } }
    if level = 1 then t
    else
      let step := if s.rst.step < 10 then s.rst.step else 10
      { t with rst := { t.rst with backup := mset 0 (mset 0 t.rst.backup 2 step) 3 (s.time % 2 ^ 64) } }

/-- A condition still holds the reset: a rail below its threshold, PWR_GOOD low, a thermal trip, or the sequencer of Deep standby
(14 R492, 15 R519, R532). -/
def State.resetHeld (s : State) : Bool :=
  decide (s.rst.rails ≠ 255) || !s.rst.pwrGood || s.pwr.trip || s.pwr.seqOff

/-- The release may begin 8 always-on cycles from now (14 R492, R493). -/
def State.holdEnds (s : State) : State := { s with rst := { s.rst with clearAt := s.time + 1200 } }

/-- RESET_RELEASE (14 R492, R498): bring-up step 1 begins, and dev.time counts from here. -/
def State.resetRelease (s : State) : State :=
  if s.dark ∧ ¬ s.resetHeld ∧ s.rst.clearAt ≤ s.time then
    { s with time := 0, rst := { s.rst with asserted := none, clearAt := 0, group := 1, step := 1, bringupStart := 0 },
             pwr := { s.pwr with state := 3 } }
  else s

/-! ### Sources of cold and warm resets (14 R492, R493, Reset table 2) -/

/-- SUPPLY_MONITOR: a rail, 0 to 7 for VDD_CORE to VDD_IO, falls below its monitor threshold or rises above it. The rails that
the sequencer holds off record no cause (15 R519). -/
def State.supplyMonitor (s : State) (rail : Nat) (below : Bool) : State :=
  if below then
    let s := { s with rst := { s.rst with rails := BitVec.ofNat 8 (setBits s.rst.rails.toNat rail 1 0) } }
    if rail = 6 then s.assertReset 1 0x01
    else if s.pwr.seqOff ∧ rail ≠ 7 then s
    else s.assertReset 2 0x02
  else
    let s := { s with rst := { s.rst with rails := BitVec.ofNat 8 (setBits s.rst.rails.toNat rail 1 1) } }
    if s.dark ∧ ¬ s.resetHeld then s.holdEnds else s

/-- PWR_GOOD_LOW: PWR_GOOD goes low or returns (14 R492, 18 R578). -/
def State.pwrGoodLow (s : State) (low : Bool) : State :=
  if low then
    let s := { s with rst := { s.rst with pwrGood := false } }
    if s.pwr.seqOff then s else s.assertReset 2 0x03
  else
    let s := { s with rst := { s.rst with pwrGood := true } }
    if s.dark ∧ ¬ s.resetHeld then s.holdEnds else s

/-- A PMBus write of OPERATION to the regulator of rail n, 1 to 8 (15 R519). -/
def State.operation (s : State) (n data : Nat) : State :=
  { s with pwr := { s.pwr with pmbus := s.pwr.pmbus ++ [(s.obj (0x5100 + n) 1, 1, data)] } }

/-- The rails that the sequencer switches, in power-up order: VDD_CORE, VDD_MEM, VDD_CNV, VDD_PHX, VDD_HTR, VDD_LAS (18 R576). -/
def sequence : List Nat := [1, 6, 2, 3, 4, 5]

/-- The device leaves Deep standby (15 R519, R520): the sequencer switches the rails on, and the warm reset has a cause. -/
def State.leaveDeep (s : State) (wake cause : Nat) : State :=
  let s := sequence.foldl (fun s n => s.operation n 0x80) s
  { s with pwr := { s.pwr with seqOff := false, lastWake := wake }, rst := { s.rst with record := some (2, cause) } }.holdEnds

/-- RST_N_PULSE (14 R493): a low pulse of a length in always-on cycles has ended. -/
def State.rstNPulse (s : State) (cycles : Nat) (honoured : Bool) : State :=
  if bit s.rst.rails.toNat 6 = false then s
  else if cycles < 40 ∨ (cycles < 80 ∧ ¬ honoured) then
    { s with rst := { s.rst with rstnIgnored := satAdd 16 s.rst.rstnIgnored 1 } }
  else if s.pwr.seqOff then s.leaveDeep 3 0x04
  else
    let woke := decide (s.pwr.state ≠ 3)
    let s := s.assertReset 2 0x04
    let s := if woke then { s with pwr := { s.pwr with lastWake := 3 } } else s
    s.holdEnds

/-! ### Processor restarts (13 R467 to R472, 14 R494, R495) -/

/-- The bank of a processor's image. -/
def State.bankOf (s : State) (p : Nat) : Nat := mget 0 s.fw.map p
/-- The state of a bank (13 Firmware table 8). -/
def State.bankState (s : State) (b : Nat) : Nat := if b = 0 then s.fw.bankState0 else s.fw.bankState1
/-- The bundle version in a bank. -/
def State.bankVersion (s : State) (b : Nat) : Nat := if b = 0 then s.fw.version0 else s.fw.version1
/-- The compat number of a bank. -/
def State.bankCompat (s : State) (b : Nat) : Nat := if b = 0 then s.fw.compat0 else s.fw.compat1
/-- The commit record is rewritten (13 Firmware table 8). -/
def State.rewriteRecord (s : State) : State := { s with fw := { s.fw with recSeq := (s.fw.recSeq + 1) % 2 ^ 16 } }
/-- A processor is mapped to a bank. -/
def State.mapTo (s : State) (p b : Nat) : State := { s with fw := { s.fw with map := mset 0 s.fw.map p b } }
/-- The other bank is Valid with the same compat number (13 R472, 14 R510). -/
def State.canFallBack (s : State) (p : Nat) : Bool :=
  decide (s.bankState (1 - s.bankOf p) = 2) && decide (s.bankCompat (1 - s.bankOf p) = s.bankCompat (s.bankOf p))

/-- A crash record (13 Firmware table 3). -/
def crashRecord (p cause restarts pc time version duration : Nat) : Nat :=
  field 0 7 p + field 8 4 cause + field 16 16 restarts + field 32 32 pc + field 64 64 time + field 128 64 version + field 192 32 duration

/-- A processor stops and restarts (13 R468, R471, R472): a crash record, an event and the counters; the fourth restart of
causes 1 and 2 within a second falls back to the other bank, with cause 6, or leaves the processor Held. -/
def State.restartProc (s : State) (p cause pc : Nat) : State :=
  let x := s.proc p
  let recent := if cause ≤ 2 then x.recent.filter (fun t => decide (s.time < t + 1200000000)) ++ [s.time] else if x.state = .held then [] else x.recent
  let fourth := decide (cause ≤ 2) && decide (4 ≤ recent.length)
  let back := fourth && x.activated && s.canFallBack p
  let cause' := if back then 6 else cause
  let n := satAdd 16 x.restarts 1
  let rec_ := crashRecord p cause' n (if cause' ≤ 2 then pc else 0) s.time x.version 0
  let s := if x.state = .held ∧ p = procRingmaster then { s with basin := { s.basin with state := .faulted } } else s
  let s := s.modProc p (fun x => { x with
    state := if fourth && !back then .held else .restarting
    restarts := n, crash := rec_, recent := if back then [] else recent, stopAt := s.time, cause := cause' })
  let s := { s with fw := { s.fw with crashLog := (s.fw.crashLog ++ [rec_]).drop (s.fw.crashLog.length + 1 - 16) } }
  let s := (s.count 0x32).pushCause 3 0x0B
  let s := if cause = 1 then s.count 0x33 else s
  let s := s.condition 0x0401 1 (field 0 7 p + field 7 4 cause')
  if back then
    let b := 1 - s.bankOf p
    ((s.mapTo p b).rewriteRecord).condition 0x0402 1 (field 0 7 p + field 7 1 b)
  else if fourth then s.condition 0x0403 2 (field 0 7 p) else s

/-- A processor restart is requested (13 R467, R468, R470, 14 R494, R495): before the first Held it is a warm reset; a
processor already in reset, or halted for debug, ignores it. -/
def State.requestProc (s : State) (p cause pc : Nat) : State :=
  let st := (s.proc p).state
  if s.dark ∨ st = .restarting ∨ st = .debugHalted ∨ (cause ≤ 2 ∧ st = .held) then s
  else if ¬ s.rst.reachedHeld then s.assertReset 2 0x06
  else s.restartProc p cause pc

/-! ### Block resets (14 R495, R496, R499, Reset table 4) -/

/-- A block that can be reset alone: kind and number (14 R496). -/
def blockOk (kind num : Nat) : Bool :=
  (decide (kind = 1) && decide (num < 98)) || (decide (kind = 2) && decide (num = 0)) || (decide (kind = 3) && decide (num < 18))
    || (decide (kind = 4) && decide (num < 2))

/-- A cluster in reset: its loops, generators and monitor bank are cleared (14 Reset tables 1 and 4, 04 R162). -/
def State.clusterCleared (s : State) (c : Nat) : State :=
  let s := ((List.range 256).foldl (fun s i => s.carouselBack (256 * c + i)) s).dropWrites c
  let s := s.modCluster c (fun x => { inReset := true, needRewrite := true, asleep := x.asleep, chanCal := x.chanCal, refs := x.refs, lastHeadroom := x.lastHeadroom })
  { s with
    tiles := s.tiles.map (fun e => if e.1 / 256 = c then (e.1, { e.2 with loading := none }) else e)
    cal := { s.cal with checks := s.cal.checks.filter (fun k => decide (k.tile / 256 ≠ c)) }
    tileLoops := mmap {} s.tileLoops (fun t (l : TileLoop) => if t / 256 = c then { tRef := l.tRef, gTile := l.gTile, gCol := l.gCol } else l)
    cols := mmap {} s.cols (fun k (x : ColSt) => if k / 33 / 256 = c then
      { trim := x.trim, levelHi := x.levelHi, levelLo := x.levelLo, offsets := x.offsets, kc := x.kc, oc := x.oc, gain := x.gain, pilotLevel := x.pilotLevel
        tLock := x.tLock, lastCal := x.lastCal, calFails := x.calFails, retired := x.retired, trimAt := x.trimAt
        loop := if x.retired then .opened else .base } else x)
    heaters := mmap {} s.heaters (fun k (h : HeaterSt) => if k / 34 / 256 = c then { short := h.short, open_ := h.open_ } else h) }

/-- The stream engine is reset (06 R257): every context is Idle with its descriptor kept and its run counter zero; the ops that
had one complete with ERR_MEMORY, the epochs with speculative lines are squashed, every line is free, the translation cache is emptied.
An SPC whose writes still stood in lines completes with ERR_MEMORY (log 94). -/
def State.streamsCleared (s : State) : State :=
  let users := (List.range 64).filterMap (fun c => (s.ctx c).run.bind (fun r => r.op.map (fun x => (c, x.1, x.2))))
  let s := users.foldl (fun s (u : Nat × Nat × Nat) => match s.op u.2.1 u.2.2 with
    | some o =>
      if o.stage = Stage.completed then s
      else if o.cancel ≠ 0 then (s.unwind o).endAs o 0x10 u.1
      else
        let s := (s.unwind o).finish o.queue o.seq 0x10 u.1
        match o.epoch.bind s.epochOf with
        | some id => s.modEpoch id (fun e => { e with doomed := true })
        | none => s
    | none => s) s
  let serials := s.specWrites.filterMap (fun w => match w.key with
    | .local_ n => some n
    | .self n => some n
    | _ => none)
  let s := match leastOf serials with
    | some n => s.squashFrom n 2 none
    | none => s
  -- a doomed epoch that was Committing, and held no line, is squashed as its SPC's failure says (05 R208)
  let s := (List.range 8).foldl (fun s i =>
    let e := s.epoch i
    if e.st = .committing ∧ e.doomed then s.squashFrom e.serial 2 (e.spc.map (fun x => (i, x))) else s) s
  let landed := (s.specWrites.filterMap (fun w => match w.key with
    | .landed n => some n
    | _ => none)).dedup
  let s := (landed.foldl State.failSpc { s with specWrites := [] }).settle
  let s := (List.range 64).foldl (fun s c => if (s.ctx c).run.isSome then s.endRun c false else s) s
  { s with ctxs := mmap {} s.ctxs (fun _ (x : Ctx) => { desc := x.desc }), xcache := [], poolProgress := s.time }

/-- A fabric plane is reset: its lanes leave service, its slots are dark, and what its lanes hold of the test and of their
traffic is cleared (14 Reset tables 1 and 4, 09 R366). -/
def State.planeCleared (s : State) (f : Nat) : State :=
  let s := (List.range 128).foldl (fun s k => (s.retireOut (128 * f + k) false).retireIn (128 * f + k)) s
  let s := (List.range 128).foldl (fun s k => s.returnPackets (128 * f + k)) s
  { s with fab := { s.fab with
    slots := s.fab.slots.filter (fun e => decide (e.1 / 24 ≠ f))
    lanes := mmap {} s.fab.lanes (fun k (l : Lane) => if k / 128 = f then
      { out := l.out, inn := l.inn, retiresOut := l.retiresOut, retiresIn := l.retiresIn, lseqRx := l.lseqRx } else l) } }

/-- A plane's block reset is released: its retired lanes are Excluded, and rejoin through the background test (14 Reset table 4,
09 R348). -/
def State.planeBack (s : State) (f : Nat) : State :=
  let back := fun (x : Option LaneSt) => if x = some .retired then some LaneSt.excluded else x
  { s with fab := { s.fab with lanes := mmap {} s.fab.lanes (fun k (l : Lane) => if k / 128 = f then
      { l with out := back l.out, inn := back l.inn } else l) } }

/-- A stack controller is reset: the requests it has accepted complete with an error (14 R499). -/
def State.stackCleared (s : State) (k : Nat) : State :=
  let s := { s with mem := { s.mem with inReset := s.mem.inReset ++ [k] } }
  (s.reqs.filter (fun r => decide (r.path < 2) && decide (r.addr < dramEnd) && decide (stackOf r.addr = k) && r.arrived.isNone && decide (r.ctx < 64))).foldl
    (fun s r => if r ∈ s.reqs then s.arrive r [] (some 0) else s) s

/-- BLOCK_RESET_ASSERT (14 R494, R495, R499): one that was requested carries cause 0x09, one under the fault rules 0x0C. -/
def State.blockAssert (s : State) (kind num : Nat) : State :=
  if s.dark ∨ ¬ blockOk kind num ∨ s.blockReset kind num then s
  else if ¬ s.rst.reachedHeld then s.assertReset 2 0x06
  else
    let asked := decide ((kind, num) ∈ s.rst.requests)
    let s := { s with rst := { s.rst with
      requests := s.rst.requests.filter (· ≠ (kind, num)), blocks := s.rst.blocks ++ [({ kind := kind, num := num, since := s.time } : BlockReset)] } }
    let s := s.pushCause 4 (if asked then 0x09 else 0x0C)
    match kind with
    | 1 => s.clusterCleared num
    | 2 => s.streamsCleared
    | 3 => s.planeCleared num
    | _ => s.stackCleared num

/-- BLOCK_RESET_RELEASE (14 R499): after 80 always-on cycles the wrapper opens. -/
def State.blockRelease (s : State) (kind num : Nat) : State :=
  if s.rst.blocks.any (fun b => decide (b.kind = kind) && decide (b.num = num) && decide (b.since + 12000 ≤ s.time)) then
    let s := { s with rst := { s.rst with blocks := s.rst.blocks.filter (fun b => !(decide (b.kind = kind) && decide (b.num = num))) } }
    match kind with
    | 1 =>
      let s := s.modCluster num (fun x => { x with inReset := false })
      if s.loopsRun num ∧ s.loopsAble num then s.startLoops num else s
    | 3 => s.planeBack num
    | 4 => { s with mem := { s.mem with inReset := s.mem.inReset.filter (· ≠ num) } }
    | _ => s
  else s

/-! ### Requests through the dictionary (14 R496) -/

/-- A write of 5800:01: the state and the answer. A write of 2 names a block in 5800:02; the block's reset is then asserted. A
warm reset follows 1,200 engine cycles after its completion. -/
def State.resetRequest (s : State) (p : Port) (v : Nat) : State × Ans :=
  if isField p then (s, .err errAccess 0)
  else if v = 1 then ({ s with rst := { s.rst with warmAt := some (s.rst.warmAt.getD (s.time + 1200)) } }, .ok [])
  else if v = 2 then
    let b := s.obj 0x5800 2
    let kind := bits b 0 8
    let num := bits b 8 8
    if ¬ blockOk kind num then (s, .err errValue 0)
    else if (kind, num) ∈ s.rst.requests ∨ s.blockReset kind num then (s, .ok [])
    else ({ s with rst := { s.rst with requests := s.rst.requests ++ [(kind, num)] } }, .ok [])
  else (s, .err errValue 0)

/-- A requested warm reset falls due (14 R496). -/
def State.dueWarm (s : State) : State :=
  match s.rst.warmAt with
  | some t => if t ≤ s.time then s.assertReset 2 0x09 else s
  | none => s

end Sys2Proof.Machine
end

