-- ==== Sys2Proof/Machine/Firmware.lean ====
section
/-! DEFINITION. Bundles and their verification, commits, activations, and the return of a restarted processor (13 R473 to R488,
16 R539). -/

namespace Sys2Proof.Machine

/-! ### Bundles (13 R478, R479, Firmware tables 6 and 7) -/

/-- The longest bundle: 32 MiB. -/
def bundleMax : Nat := 33554432

/-- The header of a bundle (13 Firmware table 6). -/
def bundleHeader (bs : List Byte) : Bundle :=
  { keySlot := leAt bs 5 1, compat := leAt bs 6 2, version := leAt bs 8 8, secVersion := leAt bs 16 4, hostMin := leAt bs 20 2,
    hostMax := leAt bs 22 2, fabLevel := bits (leAt bs 24 1) 0 4, dictLevel := leAt bs 25 2 }

/-- Offset and size of the image of entry i (13 Firmware table 7). -/
def imageSpan (bs : List Byte) (i : Nat) : Nat × Nat := (leAt bs (68 + 64 * i) 4, leAt bs (72 + 64 * i) 4)

/-- The header, the image entries and the length meet R478. -/
def bundleForm (bs : List Byte) : Bool :=
  let n := bs.length
  let spans := (List.range 5).map (imageSpan bs)
  decide (4096 + 96 ≤ n) && decide (n ≤ bundleMax) && decide (leAt bs 0 4 = 0x46584942) && decide (leAt bs 4 1 = 1)
    && decide (leAt bs 24 1 < 16) && decide (leAt bs 27 1 = 5) && decide (leAt bs 28 4 = n) && decide (leAt bs 32 32 = 0)
    && decide (leAt bs 384 3712 = 0)
    && (List.range 5).all (fun i => decide (leAt bs (65 + 64 * i) 3 = 0) && decide (leAt bs (76 + 64 * i) 4 = 0)
        && decide ((imageSpan bs i).1 % 4096 = 0))
    && (List.range 5).all (fun k => decide (((List.range 5).filter (fun i => decide (leAt bs (64 + 64 * i) 1 = k))).length = 1))
    && decide (4096 ≤ (spans.headD (0, 0)).1)
    && (spans.zip (spans.tail ++ [(n - 96, 0)])).all (fun x => decide (x.1.1 + x.1.2 ≤ x.2.1))

/-- The 97 bytes of a release-key slot; none where it is empty (16 R538). -/
def State.keyOf (s : State) (slot : Nat) : Option (List Byte) :=
  let k := mget [] s.sec.keys slot
  if slot < 8 ∧ k ≠ [] ∧ ¬ k.all (· = 0) then some k else none

/-- A slot may sign: neither empty nor revoked in the effective option bytes (16 R539, 14 Reset table 8). -/
def State.slotKey (s : State) (slot : Nat) : Option (List Byte) := if bit s.rst.options (8 + slot) then none else s.keyOf slot

/-- The effective rollback floor (16 R541, 14 Reset table 8). -/
def State.floor (s : State) : Nat := bits s.rst.options 32 32

/-- A bundle is verified in the order of 16 R539: its header, or the reason code of 13 R481 (3 or 4). -/
def State.verifyBundle (s : State) (bs : List Byte) : Except Nat Bundle :=
  if ¬ bundleForm bs then .error 3
  else
    let h := bundleHeader bs
    let body := bs.take (bs.length - 96)
    match s.slotKey h.keySlot with
    | none => .error 4
    | some key =>
      if ¬ ecdsaVerify key body (bs.drop (bs.length - 96)) then .error 4
      else if h.secVersion < s.floor then .error 4
      else if (List.range 5).all (fun i =>
          let (o, n) := imageSpan bs i
          decide (sha384 ((bs.drop o).take n) = (bs.drop (80 + 64 * i)).take 48)) then .ok h
      else .error 4

/-! ### Commits (13 R480, R481) -/

/-- The bank that no processor is mapped to (13 R480, R481). -/
def State.targetBank (s : State) : Option Nat :=
  let used := (List.range 102).map s.bankOf
  if used.all (· = 0) then some 1 else if used.all (· = 1) then some 0 else none

/-- A bank's state is recorded (13 Firmware table 8). -/
def State.setBank (s : State) (b st : Nat) : State :=
  (if b = 0 then { s with fw := { s.fw with bankState0 := st } } else { s with fw := { s.fw with bankState1 := st } }).rewriteRecord

/-- A commit is in progress. -/
def State.committing (s : State) : Bool := decide (s.fw.commitSt = 1) || decide (s.fw.commitSt = 2)
/-- An activation is in progress. -/
def State.activating (s : State) : Bool := decide (1 ≤ s.fw.actSt) && decide (s.fw.actSt ≤ 3)

/-- A write of 6000:03 (13 R480, R481): the state and the answer. -/
def State.commitWrite (s : State) (v : Nat) : State × Ans :=
  let off := bits v 0 32
  let len := bits v 32 32
  if v >>> 64 ≠ 0 ∨ off % 4096 ≠ 0 ∨ stagingSize < off + len then (s, .err errValue 0)
  else if s.targetBank.isNone then ({ s with fw := { s.fw with commitReason := 1, commitSt := 4 } }, .err errValue 1)
  else if s.committing ∨ s.activating then
    ({ s with fw := { s.fw with commitReason := 2, commitSt := if s.committing then s.fw.commitSt else 4 } }, .err errValue 2)
  else ({ s with fw := { s.fw with commitSt := 1, commitReason := 0, commitReq := (off, len) } }, .ok [])

/-- The staged bundle. -/
def State.staged (s : State) : List Byte := s.staging s.fw.commitReq.1 s.fw.commitReq.2

/-- COMMIT_VERIFIED (13 R480, R481): the security core verifies the staged bundle, and the target bank goes to Writing. -/
def State.commitVerified (s : State) : State :=
  if s.fw.commitSt ≠ 1 ∨ ¬ s.runs procSecurity then s
  else match s.verifyBundle s.staged, s.targetBank with
    | .ok _, some b => { (s.setBank b 1) with fw := { (s.setBank b 1).fw with commitSt := 2 } }
    | .ok _, none => { s with fw := { s.fw with commitSt := 4, commitReason := 1 } }
    | .error r, _ => { s with fw := { s.fw with commitSt := 4, commitReason := r } }

/-- COMMIT_WRITTEN (13 R480, R481): the bundle is in the target bank, which is Valid; bytes that no longer verify leave the bank
Invalid, whatever of R539 they break, with code 4. The security core takes part: while it is stopped, commits wait (13 R473). -/
def State.commitWritten (s : State) : State :=
  if s.fw.commitSt ≠ 2 ∨ ¬ s.runs procBarker ∨ ¬ s.runs procSecurity then s
  else match s.targetBank with
    | none => s
    | some b =>
      let bs := s.staged
      if (match s.verifyBundle bs with
        | .ok _ => false
        | .error _ => true) then { (s.setBank b 3) with fw := { (s.setBank b 3).fw with commitSt := 4, commitReason := 4 } }
      else
      let h := bundleHeader bs
      let s := { s with fw := { s.fw with commitSt := 3, bundles := mset {} s.fw.bundles b h } }
      let s := if b = 0 then { s with fw := { s.fw with data0 := bs, version0 := h.version, compat0 := h.compat } }
               else { s with fw := { s.fw with data1 := bs, version1 := h.version, compat1 := h.compat } }
      s.setBank b 2

/-! ### Activations (13 R482 to R488) -/

/-- The order of an activation of all processors (13 R482). -/
def activationOrder : List Nat := [procSecurity, procPower] ++ (List.range 98).map procCluster ++ [procBarker, procRingmaster]

/-- Why an activation of processor p, 127 for all, from bank b is refused (13 R483). -/
def State.activationRefusal (s : State) (p b : Nat) : Option Nat :=
  let h := mget {} s.fw.bundles b
  let barker := decide (p = procBarker) || decide (p = 127)
  if s.bankState b ≠ 2 then some 1
  else if s.committing ∨ s.activating then some 2
  else if ¬ s.rst.reachedHeld then some 3
  else if p ≠ 127 ∧ (List.range 102).any (fun q => decide (q ≠ p) && decide (s.bankCompat (s.bankOf q) ≠ s.bankCompat b)) then some 4
  else if barker ∧ s.hl.session ∧ (s.hl.level < h.hostMin ∨ h.hostMax < s.hl.level) then some 5
  else if barker ∧ h.fabLevel ≠ s.obj 0x3000 6 ∧ h.fabLevel ≠ s.obj 0x3000 6 + 1 then some 6
  else none

/-- The next processor of an activation is loaded, or the activation is done (13 R482). -/
def State.nextActivation (s : State) : State :=
  match s.fw.actList with
  | p :: _ => { s with fw := { s.fw with actSt := 1, actCurrent := p } }
  | [] => ({ s with fw := { s.fw with actSt := 4, actCurrent := 127 } }).condition 0x0405 0 (field 0 64 s.fwVersion)

/-- A write of 6000:06 (13 R482, R483, R485): the state and the answer. -/
def State.activateWrite (s : State) (v : Nat) : State × Ans :=
  let p := bits v 0 7
  let b := bits v 8 1
  if v ≠ field 0 7 p + field 8 1 b ∨ (102 ≤ p ∧ p ≠ 127) then (s, .err errValue 0)
  else match s.activationRefusal p b with
    | some r => ({ s with fw := { s.fw with actReason := r, actSt := if s.activating then s.fw.actSt else 5 } }, .err errValue r)
    | none =>
      let l := (if p = 127 then activationOrder else [p]).filter (fun q => decide (s.bankOf q ≠ b) || s.fw.fromHost)
      let s := { s with fw := { s.fw with actBank := b, actList := l, actReason := 0 } }
      if l = [] then ({ s with fw := { s.fw with actSt := 4, actCurrent := 127 } }, .ok []) else (s.nextActivation, .ok [])

/-- NV objects that a new dictionary level cannot read take their defaults (13 R488). -/
def State.dropUnreadable (s : State) (l : List Nat) : State :=
  let l := l.filter (fun k => decide (((objRow (k / 256) (k % 256)).map (·.1.kept)) = some 1))
  { s with
    dict := { s.dict with objs := s.dict.objs.filter (fun e => decide (e.1 ∉ l)), nv := s.dict.nv.filter (fun e => decide (e.1 ∉ l)) }
    fw := { s.fw with unreadable := s.fw.unreadable ++ l } }

/-- ACTIVATION_SWITCH (13 R482, R483, R486): the image of the next processor is loaded, and the security core has found its
digest good or bad; in an emergency, or without the power core, the switch is deferred. -/
def State.activationSwitch (s : State) (good : Bool) (unreadable : List Nat) : State :=
  match s.fw.actList with
  | [] => s
  | p :: _ =>
    if (s.fw.actSt ≠ 1 ∧ s.fw.actSt ≠ 2) ∨ ¬ s.runs procSecurity ∨ (s.proc p).state = .restarting then s
    else if ¬ good then { s with fw := { s.fw with actSt := 5, actReason := 7, actList := [], actCurrent := 127 } }
    else if s.pwr.emergency ∨ ¬ s.runs procPower then { s with fw := { s.fw with actSt := 2 } }
    else
      let s := { s with fw := { s.fw with actSt := 3 } }
      let s := if p = procBarker ∧ (mget ({} : Bundle) s.fw.bundles s.fw.actBank).dictLevel ≠ s.barkerBundle.dictLevel then s.dropUnreadable unreadable else s
      s.requestProc p 5 0

/-! ### The return of a processor (13 R471, R473 to R477, R482) -/

/-- An open segmented transfer is aborted with one ABORT (12 R461, 13 R477). -/
def State.abortSeg (s : State) : State :=
  match s.fp.seg with
  | none => s
  | some g =>
    if g.done then { s with fp := { s.fp with seg := none } }
    else ({ s with fp := { s.fp with seg := none } }).fpRespond { service := 9, node := g.node, bytes := fpHeader g.tid 0x24 g.index g.sub 0 0 }

/-- The field port's events raised while the Barker was stopped join the transmit queue (13 R477). -/
def State.fpLate (s : State) : State := s.fp.late.foldl State.fpEvent { s with fp := { s.fp with late := [] } }

/-- The Ringmaster has no valid warm image (13 R476): ops that had not started are cancelled, live epochs squashed. -/
def State.coldScheduler (s : State) : State :=
  let s := (s.ops.filter (fun o => decide (o.stage = .admitted))).foldl (fun s o => s.complete o.queue o.seq 0x20 0) s
  let s := match leastOf ((s.epochs.filter (fun e => e.2.live)).map (·.2.serial)) with
    | some n => s.squashFrom n 2 none
    | none => s
  (s.condition 0x0404 2 0).settle

/-- What a restart of processor p interrupted: admission and start of ops for the Ringmaster, counted from its last watchdog
service, which a watchdog expiry follows by its period; nothing otherwise (13 R473, 17 R555). -/
def State.interruptedFor (s : State) (p : Nat) : Nat :=
  if p = procRingmaster then s.time - (s.proc p).stopAt + (if (s.proc p).cause = 1 then 12000 else 0) else 0

/-- A restarted processor runs again. What waited for it, and the frames held for the Barker, are answered by the caller. -/
def State.procReturn (s : State) (p : Nat) (warm : Bool) : State :=
  let x := s.proc p
  if s.dark ∨ x.state ≠ .restarting ∨ (x.cause = 6 ∧ p ≠ procSecurity ∧ ¬ s.runs procSecurity) then s
  else
    let crash := setBits x.crash 192 32 (s.time - x.stopAt)
    let gap := s.interruptedFor p
    let s := s.modProc p (fun x => { x with
      state := .running, crash := crash
      version := if x.cause = 5 then s.bankVersion s.fw.actBank else if x.cause = 6 then s.bankVersion (s.bankOf p) else x.version
      activated := if x.cause = 5 then true else if x.cause = 6 then false else x.activated })
    let s := { s with fw := { s.fw with crashLog := s.fw.crashLog.map (fun r => if r = x.crash then crash else r) } }
    let s := s.interruption 0x0401 gap
    let s := if p = procRingmaster ∧ ¬ warm then s.coldScheduler else s
    let s := if p = procBarker then s.abortSeg.fpLate else if 4 ≤ p then s.restartWindows (p - 4) else s
    if x.cause = 5 ∧ s.fw.actSt = 3 ∧ s.fw.actList.head? = some p then
      let s := (s.mapTo p s.fw.actBank).rewriteRecord
      let s := { s with fw := { s.fw with actList := s.fw.actList.tail, fromHost := s.fw.fromHost && (List.range 102).any (fun q => !(s.proc q).activated) } }
      s.nextActivation
    else s

end Sys2Proof.Machine
end

