-- ==== Sys2Proof/Machine/Bringup.lean ====
section
/-! DEFINITION. Bring-up: straps, option bytes, the nine steps and their failures, boot over the host link, field-port recovery and
halt for debug (14 R502 to R514, 08 R334 to R336, 16 R540, R543). -/

namespace Sys2Proof.Machine

/-! ### Straps and option bytes (14 R504 to R508) -/

/-- STRAP_BOOT as latched: 3 NV banks, 2 host link, 1 field-port recovery, 0 halt for debug (14 Reset table 7). -/
def State.strapBoot (s : State) : Nat := bits s.rst.straps 0 2
/-- STRAP_CLK as latched. -/
def State.strapClk (s : State) : Nat := bits s.rst.straps 2 2

/-- The effective debug_lock: the higher of the OTP copies, 3 read as 2 (14 R508, Reset table 8). -/
def State.otpLock (s : State) : Nat := min 2 (max s.sec.debugLock s.sec.debugLock2)
/-- The revoked slots: the union of the OTP copies (14 R508). -/
def State.otpRevoked (s : State) : Nat := bits (s.sec.revoked ||| s.sec.revoked2) 0 8
/-- The OTP floor: the higher of the copies (14 R508). -/
def State.otpFloor (s : State) : Nat := max s.sec.floorOtp s.sec.floorOtp2

/-- The effective option bytes (14 R507, R508, Reset table 8): without a readable NV record, both field-port bits are 0 and the
floor is that of OTP. -/
def State.effectiveOptions (s : State) (readable : Bool) : Nat :=
  let fp := if readable then bits (mget 0 s.dict.nv (256 * 0x6800 + 7)) 0 2 else 0
  let fl := if readable then max s.otpFloor s.sec.floorNv else s.otpFloor
  field 0 2 s.otpLock + field 8 8 s.otpRevoked + field 24 2 fp + field 32 32 fl

/-- Effective debug_lock as the option bytes hold it. -/
def State.debugLock (s : State) : Nat := bits s.rst.options 0 2

/-- A new challenge is drawn from the random source (16 R543): a free value. -/
def State.newChallenge (s : State) : State :=
  let (i, s) := s.draw
  { s with sec := { s.sec with challenge := leBytes 32 (Config.free i).toNat } }

/-! ### Steps (14 R509) -/

/-- Release groups that have been requested by the start of a step (14 Reset table 3). -/
def groupsAt (step : Nat) : Nat := if step ≤ 7 then step else if step = 8 then 7 else 8

/-- A step begins. Baseline calibration begins in step 8, the fabric's restart and margin test in step 9. -/
def State.enterStep (s : State) (n : Nat) : State :=
  let s := { s with rst := { s.rst with step := n, group := max s.rst.group (groupsAt n) } }
  if n = 8 then { s with cal := { s.cal with baseline := 1, baselineAt := s.time } }
  else if n = 9 then s.restartFabric.1 else s

/-- Bring-up is complete (14 R509, 12 R450): the device is Held, the Basin starts, and the Barker enables the field port where
fp.auto_enable says so. -/
def State.endBringup (s : State) : State :=
  let s := { s with rst := { s.rst with step := 10, reachedHeld := true, bringupTime := (s.time - s.rst.bringupStart) / 150 % 2 ^ 32 } }
  let s := s.restartBasin.1
  if s.obj 0x0500 3 = 1 then s.fpStart.1 else s

/-- Step 1 ends (14 R491, R500, 18 R583): the reset's cause is written, the bring-up is counted, the oscillator trimmed. -/
def State.step1 (s : State) (crystal : Bool) : State :=
  let cold := decide ((s.rst.record.map (·.1)) = some 1)
  let s := match s.rst.record with
    | some (l, c) => s.pushCause l c
    | none => s
  let s := s.raiseBackup 0 0 32
  ({ s with rst := { s.rst with record := none, untrimmed := if cold then !crystal else s.rst.untrimmed } }).enterStep 2

/-- Step 2 ends (14 R504 to R508). -/
def State.step2 (s : State) (straps : Nat) (readable : Bool) : State :=
  let s := { s with rst := { s.rst with
    straps := straps % 16 + (if bits straps 2 2 = 0 then 16 else 0)
    options := s.effectiveOptions readable
    optionFault := !readable } }
  let halt := decide (s.strapBoot = 0)
  let s := { s with rst := { s.rst with
    strapFault := decide (s.strapClk = 0) || (halt && decide (s.debugLock ≠ 0))
    haltDebug := halt && decide (s.debugLock = 0), fpRecovery := decide (s.strapBoot = 1) } }
  let s := if s.rst.haltDebug then (List.range 102).foldl (fun s p => s.modProc p (fun x => { x with state := .debugHalted })) s else s
  (s.newChallenge).enterStep 3

/-- The banks as a boot finds them: a bank in Writing is Invalid (14 R513), and a map that names banks of different compat
numbers names the Ringmaster's alone (14 R514). -/
def State.bootBanks (s : State) : State :=
  let s := if s.fw.bankState0 = 1 then s.setBank 0 3 else s
  let s := if s.fw.bankState1 = 1 then s.setBank 1 3 else s
  if s.targetBank.isNone ∧ s.fw.compat0 ≠ s.fw.compat1 then
    let b := s.bankOf procRingmaster
    ((List.range 102).foldl (fun s p => s.mapTo p b) s).rewriteRecord
  else s

/-- Processor p boots: from its mapped bank, or from the other where that image fails (14 R510); none: neither serves. -/
def State.bootProc (s : State) (bad : List (Nat × Nat)) (p : Nat) : Option State :=
  let b := s.bankOf p
  if s.bankState b = 2 ∧ (p, b) ∉ bad then some (s.modProc p (fun x => { x with version := s.bankVersion b }))
  else if s.canFallBack p ∧ (p, 1 - b) ∉ bad then
    let s := (s.mapTo p (1 - b)).rewriteRecord
    let s := { s with rst := { s.rst with fellBack := s.rst.fellBack ++ [(p, 1 - b)] } }
    some (s.modProc p (fun x => { x with version := s.bankVersion (1 - b) }))
  else none

/-- Step 3 ends (14 R506, R510, R513, R514): from NV every processor's image is verified; field-port recovery runs the recovery
images, and a boot over the host link waits for its bundle. -/
def State.step3 (s : State) (bad : List (Nat × Nat)) : State :=
  if s.strapBoot = 2 then s
  else if s.strapBoot = 1 then s.enterStep 4
  else
    let s := s.bootBanks
    match (List.range 102).foldlM (fun s p => s.bootProc bad p) s with
    | none => { s with rst := { s.rst with failed := true } }.raiseBackup 0 32 16
    | some s =>
      let s := (s.setBackup 4 0 1 (s.bankOf procRingmaster)).setBackup 4 1 1 (b2n (decide (s.rst.fellBack ≠ [])))
      s.enterStep 4

/-- Step 4 ends (14 R505, R506, R508, R510): its events are raised; field-port recovery stops here with the field port enabled. -/
def State.step4 (s : State) : State :=
  if s.strapClk = 2 ∧ bit s.hl.lanes.toNat 0 = false then s
  else
    let s := s.rst.fellBack.foldl (fun s (x : Nat × Nat) => s.condition 0x0402 1 (field 0 7 x.1 + field 7 1 x.2)) s
    let s := { s with rst := { s.rst with fellBack := [] } }
    let s := if s.rst.strapFault then s.condition 0x0406 1 (field 0 8 s.rst.straps) else s
    let s := if s.rst.optionFault then s.condition 0x0407 1 0 else s
    if s.rst.fpRecovery then { s with rst := { s.rst with stopped := true } }.fpStart.1
    else s.enterStep 5

/-- Step 5 ends (14 R511): a stack that fails training is failed; the others are cleared to zero with valid ECC. -/
def State.step5 (s : State) (failed : List Nat) : State :=
  let s := { s with mem := { s.mem with bytes := s.mem.bytes.filter (fun e => decide (dramEnd ≤ e.1)), bad := [] } }
  (failed.foldl State.stackFail s).enterStep 6

/-- Step 6 ends (14 R511): a comb that does not start is lost until the next cold reset (07 R261); without the compute comb
steps 7 and 8 are skipped, without the link comb step 9. -/
def State.step6 (s : State) (compute link : Bool) : State :=
  let c := compute && !s.light.computeDead
  let l := link && !s.light.linkDead
  let s := if c then { s with light := { s.light with compute := .locked } } else s.combLost false true
  let s := if l then { s with light := { s.light with link := .locked } } else s.combLost true true
  if c then s.enterStep 7 else if l then s.enterStep 9 else s.endBringup

/-- Step 7 ends (14 R509, R511): the loops of every cluster run, locked, from the NV copy of the calibration store, but for the
columns that did not lock. -/
def State.step7 (s : State) (unlocked : List (Nat × Nat)) : State :=
  let s := { s with cols := s.calNv, tileLoops := s.tileNv }
  let s := (List.range 98).foldl (fun s c => s.modCluster c (fun x => { x with base := .locked, loopsOn := true, loopStart := s.time, lastAct := s.time })) s
  let s := unlocked.foldl (fun s (x : Nat × Nat) => s.modCol x.1 x.2 (fun c => { c with loop := .opened })) s
  ({ s with rst := { s.rst with unlocked := unlocked.map (fun (x : Nat × Nat) => 33 * x.1 + x.2) } }).enterStep 8

/-- Retirements of one tile at baseline calibration (08 R335): the columns that failed; a column or the spare with a heater fault
counts towards an unusable tile, and so does the tile heater. -/
def State.baselineTile (s : State) (tile : Nat) (bad : List Nat) : State :=
  let faulted := (List.range 34).filter (fun h => (s.heater tile h).short || (s.heater tile h).open_)
  let out := (bad ++ faulted.filter (· < 33)).dedup
  let s := bad.foldl (fun s p => s.modCol tile p (fun c => { c with retired := true, loop := .opened })) s
  let s := match bad with
    | [] => s
    | p :: _ => (s.modTile tile (fun t => { t with retired := some p })).condition 0x0109 1 (field 0 15 tile + field 15 6 p)
  let s := if 32 ∈ bad then { s with cal := { s.cal with sparesLost := satAdd 16 s.cal.sparesLost 1 } } else s
  let s := match bad.filter (· < 32) with
    | p :: _ => if 32 ∈ out then s else (s.modTile tile (fun t => { t with serves := some p, why := .retired })).countRetired tile
    | [] => s
  if 2 ≤ out.length ∨ 33 ∈ faulted then s.makeUnusable tile false else s

/-- One attempt of baseline calibration at a column passes (08 R328, R334): its fit, and its line-identity check. -/
def BaseFit.passes (b : BaseFit) : Bool := calPasses b.fit && identityOk b.codes

/-- What baseline calibration fits of a column, besides what a window of the Carousel does (08 R305, R334). -/
def ColSt.baseline (c : ColSt) (b : BaseFit) (time : Nat) : ColSt :=
  { c.commit b.fit time with kc := sint 16 b.kc.toNat, pilotLevel := b.pilot.toNat, gain := b.gain.toNat }

/-- The calibrated model offset of a column, (T_lock − T_ref) / g_c in Q15 (07 R272). -/
def ColSt.offset (c : ColSt) (tRef : Int) : ColSt :=
  { c with oc := if c.gain = 0 then 0 else satQ15 (halfUp ((((c.tLock - tRef) * 32768 : Int) : Rat) / c.gain)) }

/-- Step 3 of baseline calibration for a tile (08 R334): T_ref is the mean lock temperature of its columns (07 R274), the tile's g_col the
mean of their heater gains (DEDUCED, log 104), and each column's offset follows. -/
def State.fitTile (s : State) (tile : Nat) : State :=
  let mean := fun (f : ColSt → Int) => halfUp (((columns.map (fun p => f (s.col tile p))).sum : Rat) / 33)
  let r := mean (·.tLock)
  let s := s.modTileLoop tile (fun l => { l with tRef := r, gCol := mean (·.gain) })
  columns.foldl (fun s p => s.modCol tile p (fun c => c.offset r)) s

/-- Step 7 of baseline calibration for a tile (08 R305, R334, R336): what its calibration holds goes to the NV copy of the store. -/
def State.storeTile (s : State) (tile : Nat) : State :=
  let l := s.tileLoop tile
  let s := { s with tileNv := mmod {} s.tileNv tile (fun x => { x with tRef := l.tRef, gTile := l.gTile, gCol := l.gCol }) }
  columns.foldl (fun s p =>
    let c := s.col tile p
    { s with calNv := mmod {} s.calNv (33 * tile + p) (fun x => { x with
        trim := c.trim, levelHi := c.levelHi, levelLo := c.levelLo, offsets := c.offsets, kc := c.kc, oc := c.oc, gain := c.gain
        pilotLevel := c.pilotLevel, tLock := c.tLock }) }) s

/-- The monitor banks and the tile heaters at baseline calibration (08 R313, R316, R334 steps 1 and 2). -/
def State.fitBanks (s : State) (o : StepOutcome) : State :=
  let s := o.refs.foldl (fun (s : State) x => s.modCluster x.1 (fun c => { c with refs := mset 0 c.refs x.2.1 (x.2.2 + 1) })) s
  let s := o.channels.foldl (fun (s : State) x => s.modCluster x.1 (fun c => { c with
    chanCal := mset (0, 2 ^ 14) c.chanCal x.2.1 (sint 16 x.2.2.1.toNat, x.2.2.2.toNat) })) s
  o.tileGains.foldl (fun (s : State) x => s.modTileLoop x.1 (fun l => { l with gTile := x.2.toNat })) s

/-- Step 8 ends (08 R334 to R336): the banks and the columns take what was fitted, the first attempt of a column's two that passes; a
column both of whose attempts failed, that had not locked or whose heater has a fault is retired (R322); the store goes to its NV copy,
and a parking code is rewritten where it has moved by more than 64. -/
def State.step8 (s : State) (o : StepOutcome) : State :=
  let s := s.fitBanks o
  let keys := (o.fits.map (fun x => 33 * (x.1 : Nat) + (x.2.1 : Nat))).dedup
  let tries := fun (k : Nat) => ((o.fits.filter (fun x => decide (33 * (x.1 : Nat) + (x.2.1 : Nat) = k))).map (fun x => x.2.2)).take 2
  let failed := keys.filter (fun k => decide ((tries k).length = 2) && !(tries k).any BaseFit.passes)
  let faulted := (s.heaters.filter (fun e => (e.2.short || e.2.open_) && decide (e.1 % 34 < 33))).map (fun e => 33 * (e.1 / 34) + e.1 % 34)
  let lost := (failed ++ s.rst.unlocked ++ faulted).dedup
  let s := keys.foldl (fun (s : State) k => match (tries k).find? BaseFit.passes with
    | some b => s.modCol (k / 33) (k % 33) (fun c => c.baseline b s.time)
    | none => s) s
  let fitted := (keys.map (· / 33) ++ o.tileGains.map (fun (x : Fin 25088 × BitVec 16) => (x.1 : Nat))).dedup
  let s := fitted.foldl (fun (s : State) t => (s.fitTile t).storeTile t) s
  let s : State := { s with cal := { s.cal with parking := o.parking.foldl (fun (m : SMap Nat) (x : Fin 25088 × Fin 34 × Fin 16384) =>
    let k := 34 * (x.1 : Nat) + (x.2.1 : Nat)
    let v : Nat := x.2.2
    if 64 < v - mget 0 m k ∨ 64 < mget 0 m k - v then mset 0 m k v else m) s.cal.parking } }
  let tiles := (lost.map (· / 33) ++ (s.heaters.filter (fun (e : Nat × HeaterSt) => e.2.short || e.2.open_)).map (fun (e : Nat × HeaterSt) => e.1 / 34)).dedup
  let s : State := tiles.foldl (fun (s : State) t => s.baselineTile t ((lost.filter (fun k => decide (k / 33 = t))).map (· % 33))) s
  let s : State := { s with
    cal := { s.cal with baseline := if lost = [] then 2 else 3, duration := (s.time - s.cal.baselineAt) / 150 % 2 ^ 32, baselineAt := s.time }
    rst := { s.rst with unlocked := [] } }
  if s.light.link = .locked then s.enterStep 9 else s.endBringup

/-- BRINGUP_STEP (14 R509): the step in progress ends with what it found. A device that is Dark, stopped in Faulted, stopped in
recovery or halted for debug takes no step; step 9 lasts as long as the margin test. -/
def State.bringupStep (s : State) (o : StepOutcome) : State :=
  if s.dark ∨ s.rst.failed ∨ s.rst.stopped ∨ s.rst.haltDebug then s
  else match s.rst.step with
    | 1 => s.step1 o.crystal
    | 2 => s.step2 o.straps.toNat o.optionsReadable
    | 3 => s.step3 (o.badImages.map (fun x => ((x.1 : Nat), (x.2 : Nat))))
    | 4 => s.step4
    | 5 => s.step5 (o.failedStacks.map (fun x => (x : Nat)))
    | 6 => s.step6 o.computeStarts o.linkStarts
    | 7 => s.step7 (o.unlocked.map (fun x => ((x.1 : Nat), (x.2 : Nat))))
    | 8 => s.step8 o
    | 9 => if s.fab.state = .testing then s else s.endBringup
    | _ => s

/-- DEBUG_RELEASE (13 R470, 14 R506): the debugger releases the halted processors, and bring-up goes on. -/
def State.debugRelease (s : State) : State :=
  if ¬ s.rst.haltDebug then s
  else
    let s := { s with rst := { s.rst with haltDebug := false } }
    (List.range 102).foldl (fun s p => s.modProc p (fun x => if x.state = .debugHalted then { x with state := .running } else x)) s

/-- A write of 5800:0A (14 R506): the state and the answer. A bundle that verifies runs without any NV write, and bring-up goes
on from step 4. -/
def State.bootLoad (s : State) (v : Nat) : State × Ans :=
  let off := bits v 0 32
  let len := bits v 32 32
  if s.strapBoot ≠ 2 ∨ s.rst.step ≠ 3 then (s, .err errAccess 0)
  else if v >>> 64 ≠ 0 ∨ off % 4096 ≠ 0 ∨ stagingSize < off + len then (s, .err errValue 0)
  else match s.verifyBundle (s.staging off len) with
    | .error _ => ({ s with fw := { s.fw with commitReason := 4 } }, .ok [])
    | .ok h =>
      let s := { s with fw := { s.fw with fromHost := true, bundles := mset {} s.fw.bundles 2 h } }
      let s := (List.range 102).foldl (fun s p => s.modProc p (fun x => { x with version := h.version, activated := false })) s
      (s.enterStep 4, .ok [])

end Sys2Proof.Machine
end

