-- ==== Sys2Proof/Machine/Link.lean ====
section
/-! DEFINITION. The host link below and beside its transactions: lanes, frames, replay, credits, link states, sessions, tags,
completions of the device's requests, event delivery and reset messages (11 R402 to R410, R414, R419 to R426, R429). -/

namespace Sys2Proof.Machine

/-! ### The end of the device's requests (11 R408, R414, R419) -/

/-- A write of a retired epoch's speculative line to host memory has ended: its line is free, and the SPC that waits for it goes on or
fails (05 R205). -/
def State.epochHostWrite (s : State) (t : Nat) (failed : Bool) : State :=
  let s := { s with reqs := s.reqs.filter (fun r => !(decide (r.path = 2) && decide (r.tag = t) && decide (r.ctx = 64))) }
  (s.landEnd true t failed).settle

/-- A request that the device has issued on the link and that has not ended. -/
def State.hostReq (s : State) (t : Nat) : Option Req :=
  s.reqs.find? (fun r => decide (r.path = 2) && decide (r.tag = t) && r.arrived.isNone)

/-- A device request ends: with its data, or with an error (06 R255, 11 R414, R419); a device MWR that has ended holds back no
event (11 R420). -/
def State.endHostReq (s : State) (r : Req) (data : List Byte) (failed : Bool) : State :=
  let s := { s with hl := { s.hl with mwrOut := s.hl.mwrOut.filter (· ≠ r.tag) } }
  if r.ctx = 64 then s.epochHostWrite r.tag failed
  else s.arrive r data (if failed then some 0 else none)

/-- CPL (11 R414, R415, R419): a completion for a tag that is not outstanding is dropped and counted; a timed-out tag is free
again. -/
def State.onCpl (s : State) (tag status : Nat) (data : List Byte) : State :=
  match s.hostReq tag with
  | none => { s with hl := { s.hl with tags := s.hl.tags.filter (· ≠ tag) } }.count 0x2C
  | some r =>
    if status ≠ 0 ∨ (¬ r.write ∧ data.length ≠ r.len) then s.endHostReq r [] true
    else s.endHostReq r (if r.write then [] else data) false

/-- CPL_TIMEOUT (11 R414): no CPL within hl.cpl_timeout. -/
def State.cplTimeout (s : State) (tag : Nat) : State :=
  match s.hostReq tag with
  | none => s
  | some r =>
    if s.time < r.time + s.obj 0x0400 0x0B then s
    else { s with hl := { s.hl with tags := s.hl.tags ++ [tag] } }.endHostReq r [] true

/-! ### Link states (11 R402, R407, R408) -/

/-- The session closes (11 R425). -/
def State.closeSession (s : State) : State := { s with hl := { s.hl with session := false, level := 0 } }

/-- The link goes Down (11 R407, R408): the session closes, and every request of the device ends as an error. -/
def State.linkDown (s : State) : State :=
  let up := decide (s.hl.state = .up)
  let s := { s.closeSession with hl := { s.closeSession.hl with
    state := .down, lanes := 0, peerSeen := false, gap := false, nakDue := false, uncovered := 0, replays := 0, streak := (0, 0, 0), tags := [], held := [] } }
  if up then
    (s.reqs.filter (fun r => decide (r.path = 2) && r.arrived.isNone)).foldl
      (fun s r => if r ∈ s.reqs then s.endHostReq r [] true else s) s
  else s

/-- Host link lanes may be locked: the link is released at step 4, for a boot over the host link in step 3, or where its lane 0
carries the reference clock (14 R505, R506). -/
def State.linkStarted (s : State) : Bool :=
  decide (4 ≤ s.rst.step) || (decide (s.rst.step = 3) && decide (s.strapBoot = 2)) || decide (s.strapClk = 2 ∧ 2 ≤ s.rst.step)

/-- CODEWORD_LOCK (11 R402, R407). -/
def State.codewordLock (s : State) (lane : Nat) : State :=
  if ¬ s.linkStarted ∨ s.hl.state = .up then s
  else { s with hl := { s.hl with state := .locking, lanes := s.hl.lanes ||| BitVec.ofNat 4 (2 ^ lane) } }

/-- LANE_LOCK_LOSS (11 R407): the link has no reduced width; while it is Locking, it is Down again once no lane is locked. -/
def State.laneLockLoss (s : State) (lane : Nat) : State :=
  let rest := s.hl.lanes &&& ~~~(BitVec.ofNat 4 (2 ^ lane))
  if ¬ bit s.hl.lanes.toNat lane then s
  else if s.hl.state = .up ∨ rest = 0 then s.linkDown
  else { s with hl := { s.hl with lanes := rest, peerSeen := false } }

/-- LINK_UP (11 R407): every lane is locked, and each end has accepted a frame; both ends' counters start again. -/
def State.linkUp (s : State) : State :=
  if s.hl.state ≠ .locking ∨ s.hl.lanes ≠ 15 ∨ ¬ s.hl.peerSeen then s
  else { s with hl := { s.hl with
    state := .up, ups := satAdd 16 s.hl.ups 1, upsMod := (s.hl.upsMod + 1) % 256
    rxNext := 0, gap := false, nakDue := false, txNext := 0, uncovered := 0, lastCover := s.time, replays := 0
    reqGranted := 1024, rspGranted := 512, peerReq := 0, peerRsp := 0, sentReq := 0, sentRsp := 0 } }

/-! ### Frames (11 R403 to R406, R409, R429) -/

/-- The frame control that the device sends with a frame number (11 R404, R405, R409): it sends no reset message (R429). -/
def State.frameControl (s : State) (fseq : Nat) : BitVec 64 :=
  BitVec.ofNat 64 (field 0 12 fseq + field 12 12 ((s.hl.rxNext + 4095) % 4096) + field 24 1 (b2n s.hl.nakDue)
    + field 40 12 s.hl.reqGranted + field 52 12 s.hl.rspGranted)

/-- The device replays from its first uncovered frame (11 R406); after 8 replays without an advance the link goes Down. -/
def State.linkReplay (s : State) : State :=
  let s := s.count 0x2B
  let s := { s with hl := { s.hl with
    lastCtl := s.frameControl ((s.hl.txNext + 4096 - s.hl.uncovered) % 4096), nakDue := false, replays := s.hl.replays + 1, lastCover := s.time } }
  if 8 ≤ s.hl.replays then s.linkDown else s

/-- The peer's acknowledgement in an accepted frame (11 R405, R406): frames up to aseq leave the replay buffer. -/
def State.covered (s : State) (aseq : Nat) : State :=
  let first := (s.hl.txNext + 4096 - s.hl.uncovered) % 4096
  let n := (aseq + 1 + 4096 - first) % 4096
  if 0 < n ∧ n ≤ s.hl.uncovered then
    { s with hl := { s.hl with uncovered := s.hl.uncovered - n, lastCover := s.time, replays := 0 } }
  else s

/-- Eight consecutive accepted frames with one reset message are counted (11 R429). -/
def streakOf (old : Nat × Nat × Nat) (rkind rproc : Nat) : Nat × Nat × Nat :=
  let key := if rkind = 2 then rproc else 0
  if rkind = 0 ∨ rkind = 3 then (0, 0, 0)
  else if old.1 = rkind ∧ old.2.1 = key then (rkind, key, old.2.2 + 1) else (rkind, key, 1)

/-- LINK_FRAME (11 R405, R406, R409, R413, R429): a frame with its control word and the flits that it carries in each class. -/
def State.linkFrame (s : State) (decoded : Bool) (ctl : Nat) (req rsp : Nat) : State :=
  let clean := decoded && decide (bits ctl 34 6 = 0)
  let msg := fun (s : State) => { s with hl := { s.hl with streak := streakOf s.hl.streak (bits ctl 32 2) (bits ctl 25 7) } }
  match s.hl.state with
  | .down => s
  | .locking => if clean ∧ s.hl.lanes = 15 then msg { s with hl := { s.hl with peerSeen := true } } else s
  | .up =>
    if ¬ clean then (if s.hl.gap then s else { s with hl := { s.hl with gap := true, nakDue := true } })
    else
      let fseq := bits ctl 0 12
      let ctrl := fun (s : State) =>
        let s := { s with hl := { s.hl with peerReq := bits ctl 40 12, peerRsp := bits ctl 52 12 } }
        let s := s.covered (bits ctl 12 12)
        if bit ctl 24 ∧ 0 < s.hl.uncovered then s.linkReplay else s
      -- a frame that repeats the last fseq brings no flits
      if (fseq + 1) % 4096 = s.hl.rxNext then ctrl s
      else if fseq ≠ s.hl.rxNext then (if s.hl.gap then s else { s with hl := { s.hl with gap := true, nakDue := true } })
      else
        let s := { s with hl := { s.hl with
          rxNext := (fseq + 1) % 4096, gap := false
          reqGranted := (s.hl.reqGranted + req) % 4096, rspGranted := (s.hl.rspGranted + rsp) % 4096 } }
        ctrl (msg s)

/-- A tcrc of the last accepted frame fails (11 R413): the frame counts as received in error. -/
def State.frameFails (s : State) : State :=
  if s.hl.state ≠ .up then s
  else { s with hl := { s.hl with rxNext := (s.hl.rxNext + 4095) % 4096, gap := true, nakDue := true } }

/-- LINK_REPLAY_TIMEOUT (11 R406). -/
def State.linkReplayTimeout (s : State) : State :=
  if s.hl.state = .up ∧ 0 < s.hl.uncovered ∧ s.hl.lastCover + 4800 ≤ s.time then s.linkReplay else s

/-- Frames that the device has begun by a time: one in 51.2 ns, that is 1,536/25 engine cycles (11 R403). -/
def framesBy (t : Nat) : Nat := 25 * t / 1536

/-- The device sends its next frame when its time has come (11 R403, R405, R406): a nak is due once; with the replay buffer
full, the frame carries no new fseq. -/
def State.sendFrame (s : State) : State :=
  if s.hl.state ≠ .up ∨ framesBy s.time = framesBy (s.time + 1) then s
  else if 128 ≤ s.hl.uncovered then { s with hl := { s.hl with lastCtl := s.frameControl ((s.hl.txNext + 4095) % 4096), nakDue := false } }
  else { s with hl := { s.hl with
    lastCtl := s.frameControl s.hl.txNext
    nakDue := false, txNext := (s.hl.txNext + 1) % 4096, uncovered := s.hl.uncovered + 1
    lastCover := if s.hl.uncovered = 0 then s.time else s.hl.lastCover } }

/-! ### Reset messages (11 R429) -/

/-- DEVICE_RESET_MESSAGE: eight consecutive accepted frames have carried it. -/
def State.deviceReset (s : State) : State :=
  if s.hl.streak.1 = 1 ∧ 8 ≤ s.hl.streak.2.2 then
    ({ s with hl := { s.hl with streak := (0, 0, 0) } }.linkDown).assertReset 2 0x05
  else s

/-- PROCESSOR_RESET_MESSAGE: processors 102 and above are ignored. -/
def State.processorReset (s : State) : State :=
  let (k, p, n) := s.hl.streak
  if k = 2 ∧ 8 ≤ n then
    let s := { s with hl := { s.hl with streak := (0, 0, 0) } }
    if p < 102 then s.requestProc p 3 0 else s
  else s

/-! ### Sessions (11 R425 to R427) -/

/-- A write of 0400:04 (11 R425, R426): the state and the answer. -/
def State.sessionOpen (s : State) (level : Nat) : State × Ans :=
  let b := s.barkerBundle
  if s.hl.session then (s, .refused 4)
  else if level < b.hostMin then (s, .refused 1)
  else if b.hostMax < level then (s, .refused 2)
  else ({ s with hl := { s.hl with
    session := true, level := level, sessions := (s.hl.sessions + 1) % 65536, evtTail := 0, evtHead := 0 } }, .ok [])

/-! ### Events (11 R420 to R423) -/

/-- EVT: the next event record is delivered where the ring has room, every earlier device MWR has ended, and credits cover it. -/
def State.deliverEvt (s : State) : State :=
  let size := s.obj 0x0400 9
  let left := (s.hl.peerRsp + 4096 - s.hl.sentRsp % 4096) % 4096
  match s.hl.evtQueue with
  | [] => s
  | e :: rest =>
    if s.hl.state ≠ .up ∨ ¬ s.hl.session ∨ size = 0 ∨ s.hl.mwrOut ≠ []
      ∨ size ≤ (s.hl.evtTail + 2 ^ 32 - s.hl.evtHead) % 2 ^ 32
      ∨ left = 0 ∨ (s.hl.peerRsp < 17 ∧ s.hl.sentRsp < 17) then s
    else { s with hl := { s.hl with
      evtQueue := rest, evtTail := (s.hl.evtTail + 1) % 2 ^ 32, sentRsp := s.hl.sentRsp + 1
      tx := s.hl.tx ++ [HostMsg.evt (s.obj 0x0400 8 + 32 * (s.hl.evtTail % size)) e] } }

/-- A write of EVT_HEAD (11 R422, R424). -/
def State.writeEvtHead (s : State) (v : Nat) : State × Ans :=
  if 2 ^ 32 ≤ v then (s, .err errValue 0)
  else if s.obj 0x0400 9 < (s.hl.evtTail + 2 ^ 32 - v) % 2 ^ 32 then (s, .err errMalformed 0)
  else ({ s with hl := { s.hl with evtHead := v } }, .ok [])

end Sys2Proof.Machine
end

