-- ==== Sys2Proof/Machine/Power.lean ====
section
/-! DEFINITION. Power states, clusters asleep and awake, the throttle ladder, emergencies, the thermal trip and the regulators (15
R515 to R535, 18 R576, R582). -/

namespace Sys2Proof.Machine

/-! ### The ladder (15 R527 to R531) -/

/-- Engine cycles of a millisecond. -/
def ms : Nat := 1200000

/-- A power threshold in units of the envelope P (15 Power table 5). -/
def powerRatio (l : Nat) : Rat := match l with
  | 0 => 0 | 1 => 95 / 100 | 2 => 98 / 100 | 3 => 1 | 4 => 104 / 100 | _ => 108 / 100

/-- The envelope P in W. -/
def State.envelope (s : State) : Rat := f32Val (s.obj 0x5000 3)
/-- The power entry threshold of a level. -/
def State.powerEntry (s : State) (l : Nat) : Rat := powerRatio l * s.envelope
/-- The thermal entry threshold of a level for the tile and central sensors. -/
def State.thermalEntry (s : State) (l : Nat) : Rat := f32Val (s.obj 0x5010 1) + 3 * ((l : Rat) - 1)
/-- What a die sensor's reading must reach for a level: a DRAM die has one threshold, L3 at 90 °C (15 Power table 7). -/
def State.dieEntry (s : State) (dram : Bool) (l : Nat) : Option Rat :=
  if dram then (if l = 3 then some 90 else none) else some (s.thermalEntry l)

/-- The highest level, 0 to 5, of which a predicate holds. -/
def highest (p : Nat → Bool) : Nat := (([5, 4, 3, 2, 1] : List Nat).find? p).getD 0

/-- An emergency condition (15 R531). -/
def State.emergent (s : State) : Bool :=
  decide (3 ≤ s.pwr.levelPower) || decide (3 ≤ s.pwr.levelThermal) || s.pwr.trip || s.pwr.vrAlert
    || (s.pwr.vrAlertHold.map (fun t => decide (s.time < t))).getD false

/-- pwr.emergency follows the conditions; the quiet time counts from the moment when the last of them ends (15 R531). -/
def State.emergencyCheck (s : State) : State :=
  if s.emergent then
    (if s.pwr.emergency ∧ s.pwr.quietSince = none then s else { s with pwr := { s.pwr with emergency := true, quietSince := none } })
  else if s.pwr.emergency ∧ s.pwr.quietSince = none then { s with pwr := { s.pwr with quietSince := some s.time } }
  else s

/-- A change that may move the ladder level: a rise is counted (15 R528), and the emergency follows (15 R531). -/
def State.laddered (s t : State) : State :=
  (if s.ladderLevel < t.ladderLevel then t.count 0x35 else t).emergencyCheck

/-- The unbroken runs below each level's threshold, as start times plus one, after an estimate or reading: broken where it is
not below (15 R528). -/
def runsAfter (m : SMap Nat) (now : Nat) (below broken : Nat → Bool) : SMap Nat :=
  [1, 2, 3, 4, 5].foldl (fun m l =>
    if broken l then mdel m l else if below l ∧ mget 0 m l = 0 then mset 0 m l (now + 1) else m) m

/-- POWER_ESTIMATE (15 R526, R528): the power level rises to the highest level that this estimate and the one before it reach. -/
def State.powerEstimate (s : State) (w : Nat) : State :=
  if f32Bad w then s
  else
    let reach := fun (l : Nat) => decide (s.powerEntry l ≤ f32Val w) && decide (s.powerEntry l ≤ f32Val s.pwr.estimate)
    let below := fun (l : Nat) => decide (f32Val w < s.powerEntry l - 3 / 100 * s.envelope)
    let l := highest reach
    let t := { s with pwr := { s.pwr with
      prevEstimate := s.pwr.estimate, estimate := w
      powerBelow := runsAfter s.pwr.powerBelow s.time below (fun l => !below l)
      levelPower := max s.pwr.levelPower l
      powerEntered := if s.pwr.levelPower < l then s.time else s.pwr.powerEntered } }
    s.laddered t

/-- The larger of two FP32 codes by value. -/
def f32Max (a b : Nat) : Nat := if f32Val a < f32Val b then b else a

/-- LADDER_RISE (15 R528, Power table 7): a die sensor's reading. The thermal level rises to the highest level that it reaches;
the two last estimates stand as they are. -/
def State.ladderRise (s : State) (dram : Bool) (w : Nat) : State :=
  if f32Bad w then s
  else
    let v := f32Val w
    let reach := fun (l : Nat) => ((s.dieEntry dram l).map (fun e => decide (e ≤ v))).getD false
    let below := fun (l : Nat) => ((s.dieEntry dram l).map (fun e => decide (v < e - 2))).getD true
    let l := highest reach
    let p := highest (fun l => decide (s.powerEntry l ≤ f32Val s.pwr.estimate) && decide (s.powerEntry l ≤ f32Val s.pwr.prevEstimate))
    let t := { s with pwr := { s.pwr with
      maxDie := if dram then s.pwr.maxDie else f32Max s.pwr.maxDie w
      maxDram := if dram then f32Max s.pwr.maxDram w else s.pwr.maxDram
      thermalBelow := runsAfter s.pwr.thermalBelow s.time below (fun l => !below l)
      levelThermal := max s.pwr.levelThermal l
      thermalEntered := if s.pwr.levelThermal < l then s.time else s.pwr.thermalEntered
      levelPower := max s.pwr.levelPower p
      powerEntered := if s.pwr.levelPower < p then s.time else s.pwr.powerEntered } }
    s.laddered t

/-- Whether a hold has run its time: counted from the later of the level's entry and the start of the run below (15 R528). -/
def State.holdDone (s : State) (runs : SMap Nat) (level entered hold : Nat) : Bool :=
  decide (0 < level) && decide (0 < mget 0 runs level) && decide (max (mget 0 runs level - 1) entered + hold ≤ s.time)

/-- LADDER_FALL (15 R528): each level falls by one step where its hold has run. -/
def State.ladderFall (s : State) : State :=
  let p := s.holdDone s.pwr.powerBelow s.pwr.levelPower s.pwr.powerEntered ms
  let t := s.holdDone s.pwr.thermalBelow s.pwr.levelThermal s.pwr.thermalEntered (10 * ms)
  ({ s with pwr := { s.pwr with
    levelPower := if p then s.pwr.levelPower - 1 else s.pwr.levelPower
    powerEntered := if p then s.time else s.pwr.powerEntered
    levelThermal := if t then s.pwr.levelThermal - 1 else s.pwr.levelThermal
    thermalEntered := if t then s.time else s.pwr.thermalEntered } }).emergencyCheck

/-- VR_ALERT (15 R530). -/
def State.vrAlertLow (s : State) : State :=
  let t : State := { s with pwr := { s.pwr with vrAlert := true, vrAlertHold := none } }
  if s.dark then t else s.laddered t

/-- VR_ALERT_RELEASE (15 R530): L3 holds for another 1 ms. -/
def State.vrAlertHigh (s : State) : State :=
  if ¬ s.pwr.vrAlert then s
  else ({ s with pwr := { s.pwr with vrAlert := false, vrAlertHold := some (s.time + ms) } }).emergencyCheck

/-- EMERGENCY_NORMAL (15 R531): the power core reports normal after 10 quiet milliseconds. -/
def State.emergencyNormal (s : State) : State :=
  match s.pwr.quietSince with
  | some t =>
    if s.pwr.emergency ∧ t + 10 * ms ≤ s.time ∧ s.runs procPower ∧ ¬ s.emergent then
      { s with pwr := { s.pwr with emergency := false, quietSince := none } }
    else s
  | none => s

/-! ### The thermal trip (15 R532) -/

/-- THERMAL_TRIP: light, heaters and passes stop with the warm reset, and THERM_TRIP_N goes low. -/
def State.thermalTrip (s : State) : State :=
  if s.pwr.seqOff ∨ s.pwr.trip ∨ bit s.rst.rails.toNat 6 = false then s
  else
    let t := s.assertReset 2 0x08
    { t with pwr := { t.pwr with trip := true, tripAt := t.time } }

/-- THERMAL_TRIP_RELEASE: not before 1 s has passed. -/
def State.thermalTripRelease (s : State) : State :=
  if ¬ s.pwr.trip ∨ s.time < s.pwr.tripAt + 1200000000 then s
  else
    let s := { s with pwr := { s.pwr with trip := false } }
    if s.resetHeld then s else s.holdEnds

/-! ### Clusters asleep and awake (15 R522 to R525) -/

/-- A cluster sleeps (15 R523, 04 R164): its loops, converters and writers stop, its heaters park, its rings hold no charge. -/
def State.sleepCluster (s : State) (c : Nat) : State :=
  let s := ((List.range 256).foldl (fun s i => s.carouselBack (256 * c + i)) s).dropWrites c
  let s := s.modCluster c (fun x => { x with
    asleep := true, goingToSleep := false, waking := none, loopsOn := false, base := .opened, needRewrite := true, rewriting := false
    lowFrom := none, lowTo := none, queued := [], injected := [], capture := none, announced := false })
  { s with
    tiles := s.tiles.map (fun e => if e.1 / 256 = c then (e.1, { e.2 with loading := none }) else e)
    cal := { s.cal with checks := s.cal.checks.filter (fun k => decide (k.tile / 256 ≠ c)) }
    codes := s.codes.filter (fun e => decide (e.1 / 64 / 33 / 256 ≠ c))
    ringAt := s.ringAt.filter (fun e => decide (e.1 / 64 / 33 / 256 ≠ c))
    cols := mmap {} s.cols (fun k (x : ColSt) => if k / 33 / 256 = c then
      { x with loop := if x.retired then x.loop else .base, bfp := false, clean := 0, clampRun := 0, sweep := none } else x)
    heaters := mmap {} s.heaters (fun k (h : HeaterSt) => if k / 34 / 256 = c then { short := h.short, open_ := h.open_ } else h)
    rings := s.rings.filter (fun e => decide (e.1 / 64 / 33 / 256 ≠ c)) }

/-- No calibration window is in progress in a cluster. -/
def State.noWindows (s : State) (c : Nat) : Bool := s.tiles.all (fun e => decide (e.1 / 256 ≠ c) || e.2.calib.isNone)

/-- CLUSTER_SLEEP (15 R522): the power core looks at a cluster that may sleep. -/
def State.clusterSleep (s : State) (c : Nat) : State :=
  let x := s.cluster c
  if ¬ s.runs procPower ∨ x.asleep ∨ x.waking.isSome ∨ x.inReset then s
  else if ¬ s.sleepOk c then s.modCluster c (fun x => { x with goingToSleep := false })
  else if s.noWindows c then s.sleepCluster c
  else s.modCluster c (fun x => { x with goingToSleep := true })

/-- A cluster begins to wake (15 R524): its loops sweep where their run object is 1. -/
def State.wakeCluster (s : State) (c : Nat) : State :=
  if ¬ (s.cluster c).asleep then s
  else
    let s := (s.modCluster c (fun x => { x with asleep := false, waking := some s.time, needRewrite := true })).count 0x34
    if s.loopsRun c ∧ s.loopsAble c then s.startLoops c else s

/-- An asleep cluster is wanted (15 R524): an admitted op whose deps are complete lights one of its tiles or writes its rings, or
its bit of pwr.awake_mask is 1. -/
def State.wanted (s : State) (c : Nat) : Bool :=
  bit (s.obj 0x5000 0x0C) c
    || s.ops.any (fun o => o.ready && decide (o.stage ≠ .completed)
        && decide (o.kind = .mvm ∨ o.kind = .mvg ∨ o.kind = .ldw ∨ o.kind = .kap)
        && (s.opRegions o).any (fun r => decide (c ∈ r.clusterList)))

/-- CLUSTER_WAKE. -/
def State.clusterWake (s : State) (c : Nat) : State := if s.wanted c then s.wakeCluster c else s

/-- CLUSTER_AWAKE (15 R524): every loop is locked; the rings are rewritten, and once they are the cluster counts as awake. -/
def State.clusterAwake (s : State) (c : Nat) : State :=
  let x := s.cluster c
  if x.waking.isNone ∨ ¬ s.loopsLocked c ∨ x.rewriting then s
  else
    let s := if x.needRewrite then s.rewriteCluster c else s
    if (s.cluster c).needRewrite then s else s.modCluster c (fun x => { x with waking := none })

/-- WAKE_LOCK_TIMEOUT (15 R525): a column has not locked within 250 loop updates of the wake's start. -/
def State.wakeLockTimeout (s : State) (tile p : Nat) : State :=
  match (s.cluster (tile / 256)).waking with
  | none => s
  | some t =>
    if s.time < t + 250 * 4800 ∨ s.loopOf tile p = .locked ∨ (s.col tile p).retired ∨ p ∈ (s.tile tile).recovs then s
    else (s.enterRecovery tile p 3).attemptFailed tile p

/-! ### Power states (15 R518 to R521) -/

/-- A write of 1 to 5000:02 (15 R518): whether it is accepted. -/
def State.deepOk (s : State) (p : Port) : Bool :=
  !isField p && decide (s.pwr.state = 3) && decide (s.devState = 2 ∨ s.devState = 3)

/-- The device enters Deep standby (15 R519): the sequencer switches the rails off in the reverse of their power-up order, and the
warm reset that their monitors hold is Dark. -/
def State.enterDeep (s : State) : State :=
  let s := sequence.reverse.foldl (fun s n => s.operation n 0x00) s
  let s := { s with pwr := { s.pwr with seqOff := true, state := 1 } }
  s.assertReset 2 0x02

/-- A write of 2 to 5000:02 (15 R518): whether it is accepted. -/
def State.standbyOk (s : State) (p : Port) : Bool :=
  !isField p && decide (s.pwr.state = 3) && decide (s.devState = 3)
    && s.ctxs.all (fun e => decide (e.2.st ≠ .armed) && decide (e.2.st ≠ .halted))

/-- The device enters Standby (15 R521, Power table 2). -/
def State.enterStandby (s : State) : State :=
  let s := s.linkDown
  let s := if s.fab.state = .stopped then s else s.fabricDown .stopped
  let s := (List.range 98).foldl (fun s c => if (s.cluster c).asleep then s else s.sleepCluster c) s
  { s with
    light := { s.light with compute := .dark, link := .dark, computeLostAt := none, linkLostAt := none }
    pwr := { s.pwr with state := 2, request := 2, fpWasActive := decide (s.fp.state = .active) } }

/-- The device resumes from Standby (15 R520, R521): the combs start, the fabric restarts, and the clusters wake on demand, or at
once where pwr.sleep_enable is 0. A comb that is lost until the next cold reset stays lost. -/
def State.resumeRun (s : State) (wake : Nat) : State :=
  let s := { s with
    pwr := { s.pwr with state := 3, lastWake := wake }
    light := { s.light with
      compute := if s.light.computeDead then .lost else .locked
      link := if s.light.linkDead then .lost else .locked } }
  let s := if s.obj 0x3000 2 = 1 then s.restartFabric.1 else s
  if s.obj 0x5000 0x0A = 0 then (List.range 98).foldl (fun s c => s.wakeCluster c) s else s

/-- WAKE (15 R519, R520): light on lane 0 of the host link, or a frame to the field port's own node. -/
def State.wake (s : State) (frame : Bool) : State :=
  if s.dark then (if s.pwr.seqOff ∧ ¬ frame then s.leaveDeep 1 0x02 else s)
  else if s.pwr.state ≠ 2 then s
  else if ¬ frame then s.resumeRun 1
  else if s.pwr.fpWasActive then s.resumeRun 2 else s

/-! ### Regulators (15 R533 to R535) -/

/-- A LINEAR11 value (15 R533): a 5-bit exponent above an 11-bit mantissa. -/
def linear11 (w : BitVec 16) : Rat := (sint 11 (bits w.toNat 0 11) : Rat) * pow2 (sint 5 (bits w.toNat 11 5))

/-- Rail n's nominal voltage (18 Package table 4). -/
def railVolts (n : Nat) : Rat := match n with
  | 1 => 75 / 100 | 2 => 85 / 100 | 3 => 12 / 10 | 4 => 33 / 10 | 5 => 2 | 6 => 105 / 100 | _ => 18 / 10

/-- A 16-bit binary float (PMBus 1.3's IEEE format of READ_VOUT). -/
def half (w : Nat) : Rat :=
  let e := bits w 10 5
  let f := bits w 0 10
  let m : Rat := if e = 0 then (f : Rat) * pow2 (-24) else ((1024 + f : Nat) : Rat) * pow2 ((e : Int) - 25)
  if bit w 15 then -m else m

/-- READ_VOUT in the format of VOUT_MODE (15 R533): linear with the mode's exponent, or half precision; in another format, a
free value. -/
def State.vout (s : State) (a : VrAnswer) : Rat × State :=
  match bits a.mode.toNat 5 3 with
  | 0 => ((a.vout.toNat : Rat) * pow2 (sint 5 (bits a.mode.toNat 0 5)), s)
  | 3 => (half a.vout.toNat, s)
  | _ =>
    let (i, s) := s.draw
    (f32Val (bits (Config.free i).toNat 0 31), s)

/-- The fault bits of STATUS_WORD: all but OFF and POWER_GOOD# (PRESUMED, PMBus 1.3). -/
def statusFault (w : BitVec 16) : Bool := decide (w.toNat &&& 0xF7BF ≠ 0)

/-- Rail n, 1 to 8, is latched (15 R535). -/
def State.vrLatched (s : State) (n : Nat) : Bool := bit s.pwr.vrFault.toNat (n - 1)

/-- A poll of rail n: its readings are kept, and it is clean, or it is not, or it gave no valid answer (15 R533, R535). The third
poll in a row without an answer is a fault. -/
def State.pollRail (s : State) (n : Nat) (a : Option VrAnswer) : State × Option Bool :=
  match a with
  | none =>
    let k := mget 0 s.pwr.misses n + 1
    let s := { s with pwr := { s.pwr with misses := mset 0 s.pwr.misses n k } }
    (s, if 3 ≤ k then some false else none)
  | some a =>
    let (v, s) := s.vout a
    let s := { s with pwr := { s.pwr with
      misses := mdel s.pwr.misses n
      telemetry := mset [] s.pwr.telemetry n [f32Code (linear11 a.vin), f32Code v, f32Code (linear11 a.iout), f32Code (linear11 a.temp), a.status.toNat] } }
    let out := v < 95 / 100 * railVolts n ∨ 105 / 100 * railVolts n < v
    (s, some (!statusFault a.status && decide (¬ out)))

/-- Rail n is latched, with a VR_FAULT event (15 R535); one that is latched stays so. -/
def State.latchRail (s : State) (n : Nat) : State :=
  if s.vrLatched n then s
  else ({ s with pwr := { s.pwr with vrFault := s.pwr.vrFault ||| BitVec.ofNat 8 (2 ^ (n - 1)) } }).condition 0x0408 2
    (field 0 3 (n - 1) + field 16 16 ((mget [] s.pwr.telemetry n).getD 4 0))

/-- PMBUS_POLL (15 R533, R535): what is found is latched; the first poll after CLEAR_FAULTS clears the latch where it is clean. -/
def State.pmbusPoll (s : State) (n : Nat) (a : Option VrAnswer) : State :=
  if ¬ s.runs procPower ∨ s.rst.step < 4 then s
  else
    let again := bit s.pwr.clearing.toNat (n - 1)
    let s := { s with pwr := { s.pwr with clearing := BitVec.ofNat 8 (setBits s.pwr.clearing.toNat (n - 1) 1 0) } }
    match s.pollRail n a with
    | (s, some false) => s.latchRail n
    | (s, some true) => if again then { s with pwr := { s.pwr with vrFault := BitVec.ofNat 8 (setBits s.pwr.vrFault.toNat (n - 1) 1 0) } } else s
    | (s, none) => s

/-- A write of 1 to 5000:0F (15 R535): CLEAR_FAULTS goes to each latched regulator, which is then polled again. -/
def State.vrClear (s : State) : State :=
  let l := (List.range 8).filter (fun i => s.vrLatched (i + 1))
  { s with pwr := { s.pwr with
    pmbus := s.pwr.pmbus ++ l.map (fun i => (s.obj (0x5101 + i) 1, 3, 0)), clearing := s.pwr.clearing ||| BitVec.ofNat 8 (bitSet l) } }

/-! ### The reference clock (18 R582) -/

/-- REFERENCE_CLOCK_LOSS and REFERENCE_CLOCK_RETURN: the clocks run from the internal oscillator, or from the selected reference
again; no state but that choice changes. -/
def State.reference (s : State) (lost : Bool) : State :=
  if s.strapClk ≤ 1 then s else { s with rst := { s.rst with refLost := lost } }

/-! ### Pins and fibers that the device drives (14 R502, R503, Reset table 6, 15 R532, 18 R580) -/

/-- ALERT_N is driven low (18 R580); until step 4 it is released (14 Reset table 6). -/
def State.alertLow (s : State) : Bool :=
  !s.dark && decide (4 ≤ s.rst.step)
    && (decide (s.devState = 6) || s.pwr.emergency || decide (s.pwr.vrFault ≠ 0) || (List.range 102).any (fun p => decide ((s.proc p).state = .held)))

/-- THERM_TRIP_N is driven low (15 R532). -/
def State.thermTripLow (s : State) : Bool := s.pwr.trip

/-- Light may leave the host link's fibers (14 R503): from step 4. -/
def State.hostFibersLit (s : State) : Bool := !s.dark && decide (4 ≤ s.rst.step)

/-- Light may leave the fibers of fabric plane p (14 R503): from step 9, and not in the plane's own block reset. -/
def State.fabricFibersLit (s : State) (p : Nat) : Bool := !s.dark && decide (9 ≤ s.rst.step) && !s.blockReset 3 p

end Sys2Proof.Machine
end

