-- ==== Sys2Proof/Machine/Security.lean ====
section
/-! DEFINITION. Identity, the rollback floor, option commands, security violations and attestation (16 R536 to R551). -/

namespace Sys2Proof.Machine

/-- The private identity key (16 R536). -/
def identityKey : Nat := Config.identitySecret % (eccN - 1) + 1

/-- The 776 bytes of the release-key slots (16 R538). -/
def State.releaseKeys (s : State) : List Byte :=
  (List.range 8).flatMap (fun i => ((mget [] s.sec.keys i) ++ List.replicate 97 0).take 97)

/-- The sec_versions of the bundles that the bank map names. -/
def State.mappedVersions (s : State) : List Nat :=
  ([0, 1].filter (fun b => (List.range 102).any (fun p => decide (s.bankOf p = b)))).map (fun b => (mget ({} : Bundle) s.fw.bundles b).secVersion)

/-- The key slots of the bundles that the bank map names. -/
def State.mappedSlots (s : State) : List Nat :=
  ([0, 1].filter (fun b => (List.range 102).any (fun p => decide (s.bankOf p = b)))).map (fun b => (mget ({} : Bundle) s.fw.bundles b).keySlot)

/-- A write of 6800:06 (16 R542): the state and the answer. -/
def State.floorRaise (s : State) (p : Port) (v : Nat) : State × Ans :=
  if isField p then (s, .err errAccess 0)
  else if v < s.sec.floorNv ∨ s.mappedVersions.any (fun x => decide (x < v)) then (s, .err errValue 0)
  else ({ s with sec := { s.sec with floorNv := v } }, .ok [])

/-! ### Option commands (16 R543 to R545, R547) -/

/-- Steps 1 to 3 of the check (16 Security table 2): the code of the first failure. -/
def State.optionForm (s : State) (c : Nat) : Option Nat :=
  if bits c 0 32 ≠ 0x4658434F ∨ bits c 32 8 ≠ 1 ∨ bits c 48 8 = 0 ∨ 4 < bits c 48 8 ∨ bits c 56 8 ≠ 0 ∨ bits c 416 96 ≠ 0 then some 1
  else if bits c 64 64 ≠ Config.serial % 2 ^ 64 then some 2
  else if leBytes 32 (bits c 128 256) ≠ s.sec.challenge then some 3
  else none

/-- Step 4: the slot is empty or revoked, or the signature fails. -/
def State.optionSigned (s : State) (c : Nat) : Bool :=
  match s.slotKey (bits c 40 8) with
  | some key => ecdsaVerify key (leBytes 64 (bits c 0 512)) (leBytes 96 (bits c 512 768))
  | none => false

/-- Step 5: the code of the failure. -/
def State.optionRule (s : State) (c : Nat) : Option Nat :=
  let a := bits c 384 32
  match bits c 48 8 with
  | 1 => if a = bits c 40 8 ∨ (s.keyOf a).isNone ∨ a ∈ s.mappedSlots then some 5 else none
  | 2 => if a ≤ s.otpFloor ∨ s.mappedVersions.any (fun x => decide (x < a)) ∨ s.sec.floorSteps = 0 then some 6 else none
  | 3 => if a ≤ s.otpLock ∨ 2 < a then some 7 else none
  | _ => if s.debugLock ≠ 1 then some 7 else none

/-- An accepted command is applied (16 R545, R547): kinds 1 to 3 write both OTP copies, kind 4 opens debug access. -/
def State.optionApply (s : State) (c : Nat) : State :=
  let a := bits c 384 32
  match bits c 48 8 with
  | 1 => { s with sec := { s.sec with revoked := s.sec.revoked ||| 2 ^ a, revoked2 := s.sec.revoked2 ||| 2 ^ a } }
  | 2 => { s with sec := { s.sec with floorOtp := a, floorOtp2 := a, floorSteps := s.sec.floorSteps - 1 } }
  | 3 => { s with sec := { s.sec with debugLock := a, debugLock2 := a } }
  | _ => { s with sec := { s.sec with debugOpen := true } }

/-- A reserved field of an option command is not zero (16 Security table 1). -/
def optionReserved (c : Nat) : Bool := decide (bits c 56 8 ≠ 0) || decide (bits c 416 96 ≠ 0)

/-- A write of 6800:08 (16 R544, R545): the state and the answer. The first failure is recorded; a command that reaches step 4
draws a new challenge (16 R543). A non-zero reserved field is refused with REFUSED_VALUE (00 R6); after any other failure the write
completes with OK, since the spec gives 6800:09 alone (DESIGN CHOICE, log 106). -/
def State.optionCommand (s : State) (p : Port) (c : Nat) : State × Ans :=
  let record := fun (s : State) (r : Nat) => { s with sec := { s.sec with optionResult := r } }
  if isField p then (s, .err errAccess 0)
  else match s.optionForm c with
    | some r => (record s r, if optionReserved c then .err errValue 0 else .ok [])
    | none =>
      if ¬ s.optionSigned c then ((record s 4).newChallenge, .ok [])
      else match s.optionRule c with
        | some r => ((record s r).newChallenge, .ok [])
        | none => ((record (s.optionApply c) 0).newChallenge, .ok [])

/-- The debug port's processor and memory access is allowed (16 Security table 3, R547). -/
def State.debugAccess (s : State) : Bool := decide (s.debugLock = 0) || (decide (s.debugLock = 1) && s.sec.debugOpen)

/-! ### Security violations (16 R548) -/

/-- SECURITY_VIOLATION: staging SRAM, retained SRAM, the backup registers and the calibration store are zeroed, the OTP count
rises, and a cold reset follows. -/
def State.violation (s : State) : State :=
  let s := { s with
    mem := { s.mem with bytes := s.mem.bytes.filter (fun e => decide (e.1 < dramEnd)) }
    cols := [], tileLoops := []
    fw := { s.fw with crashLog := [] }
    rst := { s.rst with backup := [] }
    sec := { s.sec with violations := satAdd 8 s.sec.violations 1 } }
  s.assertReset 1 0x07

/-! ### Attestation (16 R549 to R551) -/

/-- A report's entry for region r (16 Security table 5). -/
def Region.entry (x : Region) (r : Nat) : List Byte :=
  leBytes 64 (field 0 8 r + field 8 2 x.kind + field 10 2 x.format + field 16 8 x.T + field 24 8 x.G + field 32 8 x.tFirst
    + field 40 7 x.gFirst + field 47 1 (b2n (decide (x.st = .mirrorDamaged))) + field 64 384 (leNat x.digest))

/-- Regions whose digest is Valid, in ascending order. -/
def State.attested (s : State) : List Nat := (s.regions.filter (fun e => decide (e.2.digestState = 2))).map (·.1)

/-- A report's header and entries at the snapshot (16 R549, Security table 4). -/
def State.snapshot (s : State) (nonce : Nat) : List Byte :=
  let map := bitSet ((List.range 102).filter (fun p => decide (s.bankOf p = 1)))
  leBytes 256 (field 0 32 0x46584152 + field 32 8 1 + field 40 1 (b2n s.sec.debugOpen)
    + field 41 1 (b2n (bit (mget 0 s.rst.backup 4) 1)) + field 42 1 (b2n s.fw.fromHost) + field 43 1 (b2n s.targetBank.isNone)
    + field 48 16 s.attested.length + field 64 64 Config.serial + field 128 256 nonce + field 384 64 s.time
    + field 448 64 s.fwVersion + field 512 64 s.fw.version0 + field 576 64 s.fw.version1 + field 640 102 map
    + field 768 128 s.rst.options + field 896 8 s.sec.violations)
  ++ s.attested.flatMap (fun r => (s.region r).entry r)

/-- A write of 6800:10 (16 R549, R550): the state and the answer. -/
def State.attestWrite (s : State) (nonce : Nat) : State × Ans :=
  if s.sec.attest = 1 then (s, .err errAccess 0)
  else if ¬ s.runs procSecurity then ({ s with sec := { s.sec with attest := 3 } }, .ok [])
  else ({ s with sec := { s.sec with attest := 1, snapshot := s.snapshot nonce } }, .ok [])

/-- ATTEST_READY (16 R549, R551): the report is signed with the identity key. -/
def State.attestReady (s : State) : State :=
  if s.sec.attest ≠ 1 ∨ ¬ s.runs procSecurity then s
  else { s with sec := { s.sec with attest := 2, report := s.sec.snapshot ++ ecdsaSign identityKey s.sec.snapshot, snapshot := [] } }

end Sys2Proof.Machine
end

