-- ==== Sys2Proof/Machine/DictRead.lean ====
section
/-! DEFINITION. What each object of the dictionary reads, the directory and the event log (12 R430, R436 to R438, R442, R446,
R448, and the object tables of every chapter). -/

namespace Sys2Proof.Machine

/-! ### Codes (object tables) -/

/-- basin.state as coded (01 Basin table 6). -/
def BasinState.code : BasinState → Nat
  | .stopped => 0 | .running => 1 | .paused => 2 | .faulted => 3
/-- Weir set states as coded (03 Weir table 3). -/
def SetState.code : SetState → Nat
  | .free => 0 | .filling => 1 | .held => 2 | .draining => 3
/-- Stream context states as coded (06 Streams table 11). -/
def CtxSt.code : CtxSt → Nat
  | .idle => 0 | .armed => 1 | .halted => 2
/-- fab.state as coded (09 Fabric table 9). -/
def FabSt.code : FabSt → Nat
  | .stopped => 0 | .testing => 1 | .running => 2 | .faulted => 3
/-- Comb states as coded (07 Loops table 5). -/
def CombSt.code : CombSt → Nat
  | .dark => 0 | .starting => 1 | .locked => 2 | .lost => 3
/-- Link states as coded (11 Host link table 7). -/
def LinkSt.code : LinkSt → Nat
  | .down => 0 | .locking => 1 | .up => 2
/-- Processor states as coded (13 Firmware table 9). -/
def ProcSt.code : ProcSt → Nat
  | .running => 0 | .restarting => 1 | .held => 2 | .debugHalted => 3

/-! ### Blocks of bytes -/

/-- A monitor buffer descriptor (08 Converters table 6). -/
def MonBuf.word (b : MonBuf) : Nat :=
  field 0 32 b.base + field 32 4 b.size + field 36 1 b.mode + field 37 1 (b2n b.wrapped) + field 38 1 (b2n b.overrun)
    + field 64 32 b.wr + field 96 32 b.rd + field 128 32 b.dropped

/-- The heater word of a DAC (08 Converters table 8). -/
def State.heaterWord (s : State) (tile h : Nat) : Nat :=
  let x := s.heater tile h
  field 0 14 (s.codeOr tile h x.target) + field 14 1 (b2n x.range2) + field 16 14 (s.codeOr tile h x.applied)
    + field 30 1 (b2n x.short) + field 31 1 (b2n x.open_)

/-- The tile, physical column and item that 4800:05 selects. -/
def State.calSel (s : State) : Nat × Nat × Nat := (bits (s.obj 0x4800 5) 0 15, bits (s.obj 0x4800 5) 15 6, bits (s.obj 0x4800 5) 21 2)

/-- Entries of a level table: the factory's own where none has been written. -/
def levelBytes (tile p : Nat) (high : Bool) (l : List Nat) : List Byte :=
  (List.range 16).flatMap (fun i =>
    leBytes 2 (if l = [] then (Config.factoryLevel (33 * tile + p) (i + if high then 16 else 0)).toNat else l.getD i 0))

/-- The selected item, 4800:06: a tile heater has a heater word alone (08 Converters table 12). -/
def State.calData (s : State) : Option (List Byte) :=
  let (t, p, k) := s.calSel
  let c := s.col t p
  if p = 33 ∧ k ≠ 1 then none
  else match k with
    | 0 => some (leBytes 4 c.trim.toNat)
    | 1 => some (leBytes 4 (s.heaterWord t p))
    | 2 => some (levelBytes t p true c.levelHi ++ levelBytes t p false c.levelLo)
    | _ => some ((List.range 64).flatMap (fun i => leBytes 1 (toU 8 (c.offsets.getD i 0))))

/-- Built-in table block n (03 R112, Weir tables 7 and 8). -/
def builtinBlock (n : Nat) : List Byte :=
  leBytes 64 (tableHeader (-6) (builtinL n)) ++ (List.range 1024).flatMap (fun i => leBytes 8 (builtinSeg n i))

/-- The first 8 configuration failures (12 R442). -/
def State.failBytes (s : State) : List Byte :=
  (List.range 8).flatMap (fun i => leBytes 8 ((s.dict.fails[i]?.map Fail.word).getD 0))

/-- fab.lane_map (09 Fabric table 9). -/
def State.laneMap (s : State) : List Byte :=
  (List.range 2304).flatMap (fun l => [BitVec.ofNat 8 (s.outLane l).code, BitVec.ofNat 8 (s.inLane l).code])

/-- The commit record (13 Firmware table 8). -/
def State.commitRecord (s : State) : Nat :=
  field 0 2 s.fw.bankState0 + field 2 2 s.fw.bankState1 + field 16 16 s.fw.recSeq + field 32 64 s.fw.version0 + field 96 64 s.fw.version1
    + field 160 16 s.fw.compat0 + field 176 16 s.fw.compat1
    + field 192 102 (bitSet ((List.range 102).filter (fun p => decide (s.bankOf p = 1))))

/-! ### The Carousel's readings (08 R332, R333, Converters table 12) -/

/-- A column's age in loop updates: since its last calibration, the baseline calibration's at the earliest. -/
def State.colAge (s : State) (tile p : Nat) : Nat := (s.time - max (s.col tile p).lastCal s.cal.baselineAt) / 4800

/-- carousel.max_age. -/
def State.maxAge (s : State) : Nat :=
  ((List.range 25088).flatMap (fun t => (s.serving t).map (s.colAge t))).foldl max 0

/-- carousel.tile_status of the selected tile. -/
def State.tileStatus (s : State) : Nat :=
  let n := s.obj 0x4C00 5
  let t := s.tile n
  field 0 6 ((t.calib.map (·.p)).getD 63) + field 6 1 (b2n (t.calib.isSome && t.lastPriority)) + field 7 6 (t.serves.getD 63)
    + field 13 1 (b2n t.retired.isSome) + field 14 1 (b2n t.unusable) + field 15 1 (b2n (s.skipped n))

/-- 41cc:01 (07 Loops table 5, 15 R523). -/
def State.clusterState (s : State) (c : Nat) : Nat :=
  let x := s.cluster c
  if ¬ x.loopsOn ∨ x.asleep then 0 else if x.lowAt (s.updateNow c) then 3 else if s.loopsLocked c then 2 else 1

/-- 41cc:04: inner loops in block floating form (07 R280); the columns that stand as the cluster's rest are locked with it. -/
def State.bfpLoops (s : State) (c : Nat) : Nat :=
  let own := s.cols.filter (fun e => decide (e.1 / 33 / 256 = c) && decide (e.2.loop ≠ .base))
  (own.filter (fun e => e.2.bfp)).length + (if (s.cluster c).base = .locked then 8448 - own.length else 0)

/-! ### Values by page -/

/-- Pages 0x0000 to 0x0FFF: directory, identity, device, host link and field port. -/
def State.page0 (s : State) (index sub : Nat) : Option Nat :=
  match index, sub with
  | 0x0000, 1 => some ((objTable.map (·.count)).sum
      + ((objTable.filter (fun (r : ObjRow) => decide (objTable.find? (fun (q : ObjRow) => decide (q.base = r.base)) = some r))).map (·.count)).sum)
  | 0x0100, 4 => some (Config.serial % 2 ^ 64)
  | 0x0100, 5 => some s.barkerBundle.dictLevel
  | 0x0200, 1 => some s.devState
  | 0x0200, 2 => some s.heldReasons
  | 0x0200, 3 => some (min s.dict.fails.length 255)
  | 0x0200, 4 => some (leNat s.failBytes)
  | 0x0200, 5 => some s.time
  | 0x0400, 1 => some s.hl.state.code
  | 0x0400, 2 => some s.barkerBundle.hostMin
  | 0x0400, 3 => some s.barkerBundle.hostMax
  | 0x0400, 4 => some s.hl.level
  | 0x0400, 5 => some (b2n s.hl.session)
  | 0x0400, 6 => some s.hl.refusal
  | 0x0400, 7 => some s.hl.sessions
  | 0x0400, 0x0A => some s.hl.evtTail
  | 0x0400, 0x0C => some s.hl.ups
  | 0x0500, 1 => some s.fp.state.code
  | 0x0500, 0x0D => some (b2n s.fp.silentPin + 2 * b2n s.fp.winhPin)
  | 0x0500, 0x0E => some s.fp.txErr
  | 0x0500, 0x0F => some s.fp.rxErr
  | _, _ => none

/-- Pages 0x1000 to 0x1FFF: the Basin, regions, the Weir and op queues. -/
def State.page1 (s : State) (index sub : Nat) : Option Nat :=
  if index = 0x1000 then
    match sub with
    | 1 => some s.basinState.code
    | 3 => some s.basin.passRate
    | 5 => some ((s.runningOp.map s.litTiles).getD 0)
    | 6 => some s.validRegions.length
    | 7 => some s.cal.columnsRetired
    | 8 => some s.cal.tilesReduced
    | 9 => some s.basin.refusal
    | 0x0A => some (s.validRegions.filter (fun r => decide ((s.region r).st = .loading))).length
    | 0x0B => some (b2n s.basin.run)
    | _ => none
  else if 0x1100 ≤ index ∧ index < 0x1200 then
    let r := s.region (index - 0x1100)
    match sub with
    | 1 => some r.descriptor
    | 2 => some (if r.valid then r.st.code else 0)
    | 3 => some (leNat r.digest)
    | 4 => some r.digestState
    | 5 => some r.activeMirror
    | 6 => some r.mirrorErrors
    | 7 => some (s.graceLeft (index - 0x1100))
    | _ => none
  else if index = 0x1400 then
    match sub with
    | 1 => some s.set0.st.code
    | 2 => some s.set1.st.code
    | 3 => some (if s.set0.st = .filling then 0 else if s.set1.st = .filling then 1 else 0xFF)
    | 4 => some (b2n s.helper.isSome)
    | 5 => some s.drainWaits
    | _ => none
  else if index = 0x1800 then
    match sub with
    | 4 => some (bitSet ((List.range 8).filter (fun i => decide ((s.epoch i).st = .opened ∨ (s.epoch i).st = .committing))))
    | 5 => some s.lastStamp
    | 6 => some ((s.basin.preempted.map (fun x => x.2 % 1024 + 1024 * x.1)).getD 0xFFFF)
    | 8 => some (bitSet ((List.range 8).filter (fun i => decide ((s.epoch i).st = .squashed))))
    | _ => none
  else if 0x1810 ≤ index ∧ index ≤ 0x1813 then
    match sub with
    | 3 => some (s.queue (index - 0x1810)).tail
    | 4 => some (s.queue (index - 0x1810)).retired
    | _ => none
  else if 0x1A00 ≤ index ∧ index < 0x1B00 then some (s.token (index - 0x1A00))
  else none

/-- Pages 0x2000 to 0x2FFF: streams, translation and memory. -/
def State.page2 (s : State) (index sub : Nat) : Option Nat :=
  if index = 0x2000 then
    match sub with
    | 1 => some s.poolFree
    | 2 => some (bitSet ((List.range 64).filter (fun c => decide ((s.ctx c).st = .halted))))
    | 3 => some (bitSet ((List.range 64).filter (fun c => decide ((s.ctx c).st = .armed))))
    | 4 => some s.streamRefusal
    | _ => none
  else if 0x2100 ≤ index ∧ index < 0x2140 then
    let x := s.ctx (index - 0x2100)
    match sub with
    | 1 => some x.desc
    | 2 => some x.st.code
    | 3 => some x.runs
    | 4 => some x.position
    | 5 => some x.faultSeq
    | 7 => some (if x.st = .idle then 0 else x.lines + x.borrowed)
    | _ => none
  else if index = 0x2410 then
    match sub with
    | 2 => some (bitSet s.mem.failed)
    | 3 => some (min (s.mem.bad.filter (fun g => decide (64 * g < dramEnd))).length (2 ^ 32 - 1))
    | _ => none
  else none

/-- Pages 0x3000 to 0x3FFF: the fabric and the cascade. -/
def State.page3 (s : State) (index sub : Nat) : Option Nat :=
  match index, sub with
  | 0x3000, 1 => some s.fab.state.code
  | 0x3000, 5 => some s.barkerBundle.fabLevel
  | 0x3000, 0x0B => some ((List.range 2304).filter (fun l => decide (s.outLane l = .inService))).length
  | 0x3000, 0x0D => some s.fab.dimsLost
  | 0x3000, 0x0E => some (s.fab.tags.filter (fun e => e.2.busy)).length
  | 0x3000, 0x0F => some (slotCap s.ladderLevel)
  | 0x3000, 0x11 => some s.fab.db
  | 0x3400, 1 => some s.casc.state.code
  | 0x3400, 0x0A => some s.casc.lost
  | 0x3400, 0x0B => some (bitSet s.casc.joined)
  | _, _ => none

/-- Pages 0x4000 to 0x4FFF: light, loops, converters and the Carousel. -/
def State.page4 (s : State) (index sub : Nat) : Option Nat :=
  if index = 0x4000 then
    match sub with
    | 1 => some s.light.compute.code
    | 2 => some s.light.link.code
    | 3 => some s.light.computePumps
    | 4 => some s.light.linkPumps
    | 6 => some s.light.liftMin
    | 7 => some s.light.liftMax
    | 9 => some (b2n s.light.pausing)
    | 0x0A => some s.light.lastPause
    | _ => none
  else if 0x4100 ≤ index ∧ index < 0x4162 then
    let c := index - 0x4100
    match sub with
    | 1 => some (s.clusterState c)
    | 2 => some (b2n (s.loopsRun c))
    | 3 => some (b2n (s.cluster c).missed)
    | 4 => some (s.bfpLoops c)
    | 5 => some (s.recovering c)
    | _ => none
  else if 0x4900 ≤ index ∧ index < 0x4962 then
    let x := s.cluster (index - 0x4900)
    match sub with
    | 1 => some (bitSet x.monFailed)
    | 2 => some x.regBuf.word
    | 3 => some x.injBuf.word
    | _ => none
  else if index = 0x4C00 then
    match sub with
    | 2 => some ((List.range 25088).filter s.skipped).length
    | 3 => some s.cal.unusable
    | 4 => some s.maxAge
    | 6 => some s.tileStatus
    | 7 => some s.cal.baseline
    | 8 => some s.cal.duration
    | 9 => some (bitSet ((s.tiles.filter (fun e => e.2.unusable)).map (·.1)))
    | 0x0A => some s.cal.sparesLost
    | _ => none
  else none

/-- Pages 0x5000 to 0x5FFF: power, regulators and reset. -/
def State.page5 (s : State) (index sub : Nat) : Option Nat :=
  if index = 0x5000 then
    match sub with
    | 1 => some s.pwr.state
    | 2 => some s.pwr.request
    | 4 => some s.ladderLevel
    | 5 => some s.pwr.levelPower
    | 6 => some s.pwr.levelThermal
    | 8 => some s.pwr.estimate
    | 9 => some (b2n s.pwr.emergency)
    | 0x0D => some (bitSet ((List.range 98).filter (fun c => (s.cluster c).asleep)))
    | 0x0E => some s.pwr.vrFault.toNat
    | 0x10 => some s.pwr.lastWake
    | _ => none
  else if index = 0x5010 then (if sub = 2 then some s.pwr.maxDie else if sub = 3 then some s.pwr.maxDram else none)
  else if 0x5101 ≤ index ∧ index ≤ 0x5108 ∧ 2 ≤ sub then some ((mget [] s.pwr.telemetry (index - 0x5100)).getD (sub - 2) 0)
  else if index = 0x5800 then
    match sub with
    | 3 => some s.rst.lastCause
    | 4 => some s.rst.lastLevel
    | 5 => some s.rst.straps
    | 6 => some s.rst.step
    | 7 => some s.rst.bringupTime
    | 8 => some s.rst.rstnIgnored
    | 9 => some s.rst.options
    | _ => if 0x10 ≤ sub then some (mget 0 s.rst.backup (sub - 0x10)) else none
  else none

/-- Pages 0x6000 to 0x6FFF: firmware and security. -/
def State.page6 (s : State) (index sub : Nat) : Option Nat :=
  if index = 0x6000 then
    match sub with
    | 1 => some s.fwVersion
    | 2 => some s.commitRecord
    | 4 => some s.fw.commitSt
    | 5 => some s.fw.commitReason
    | 7 => some s.fw.actSt
    | 8 => some s.fw.actReason
    | 9 => some s.fw.actCurrent
    | _ => none
  else if 0x6100 ≤ index ∧ index < 0x6166 then
    let p := index - 0x6100
    match sub with
    | 1 => some (s.proc p).state.code
    | 2 => some (s.bankOf p)
    | 3 => some (s.proc p).version
    | 4 => some (s.proc p).restarts
    | 5 => some (s.proc p).crash
    | _ => none
  else if index = 0x6800 then
    match sub with
    | 1 => some (leNat (publicKey identityKey))
    | 4 => some (leNat s.releaseKeys)
    | 5 => some s.sec.floorNv
    | 9 => some s.sec.optionResult
    | 0x0A => some (leNat s.sec.challenge)
    | 0x0B => some s.sec.violations
    | 0x0C => some (b2n s.sec.debugOpen)
    | 0x11 => some s.sec.attest
    | _ => none
  else none

/-- Pages 0x7000 to 0x7FFF: counters, interruptions and the event log. -/
def State.page7 (s : State) (index sub : Nat) : Option Nat :=
  if index = 0x7000 then
    match sub with
    | 1 => some (b2n (decide (s.flt.sats ≠ [])))
    | 4 => some s.flt.lastCode
    | 5 => some s.flt.lastInt
    | 6 => some s.flt.maxInt
    | _ => none
  else if 0x7100 ≤ index ∧ index < 0x7137 then
    (if sub = 1 then some (mget 0 s.flt.counters (index - 0x7100)) else some (b2n (decide (index - 0x7100 ∈ s.flt.sats))))
  else if index = 0x7800 ∧ sub = 1 then some s.dict.seq
  else none

/-- The value of an object that is not merely stored: what the device's state makes it now. -/
def State.liveNat (s : State) (index sub : Nat) : Option Nat :=
  match index / 0x1000 with
  | 0 => s.page0 index sub
  | 1 => s.page1 index sub
  | 2 => s.page2 index sub
  | 3 => s.page3 index sub
  | 4 => s.page4 index sub
  | 5 => s.page5 index sub
  | 6 => s.page6 index sub
  | 7 => s.page7 index sub
  | _ => none

/-- The values whose length varies, and the largest ones, as bytes; an empty digest reads as zeros. -/
def State.liveBytes (s : State) (index sub : Nat) : Option (List Byte) :=
  match index, sub with
  | 0x1410, n => if 1 ≤ n ∧ n ≤ 5 then some (builtinBlock (n - 1)) else none
  | 0x3000, 0x0C => some s.laneMap
  | 0x4800, 8 => if s.captureOn.isSome then some [] else some (s.cal.captured.flatMap (leBytes 2))
  | 0x6800, 2 => some (Config.deviceCert.take 2048)
  | 0x6800, 3 => some (Config.caCert.take 2048)
  | 0x6800, 0x12 => some s.sec.report
  | _, _ => none

/-! ### The directory (12 R430, R438) -/

/-- The highest subindex in use at an index; none: the index does not exist. -/
def topSub (index : Nat) : Option Nat :=
  match objTable.filter (fun r => decide (r.base ≤ index) && decide (index < r.base + r.count)) with
  | [] => none
  | l => some ((l.map (·.sub)).foldl max 0)

/-- The first object of a row with a subindex at or after a cursor, as 256·index + subindex. -/
def ObjRow.from (r : ObjRow) (sub ci cs : Nat) : Option Nat :=
  let i := max r.base (if cs ≤ sub then ci else ci + 1)
  if i < r.base + r.count then some (256 * i + sub) else none

/-- The first object at or after a cursor (12 R438). -/
def firstFrom (ci cs : Nat) : Option Nat :=
  leastOf (objTable.flatMap (fun r => (r.from 0 ci cs).toList ++ (r.from r.sub ci cs).toList))

/-- The directory entry of an object (12 Dictionary table 2). -/
def dirEntry (index sub : Nat) : Nat :=
  match objRow index sub with
  | some (r, _) => field 0 16 index + field 16 8 sub + field 24 4 r.ty + field 28 2 r.acc + field 30 2 r.kept + field 32 3 r.owner + field 64 32 r.size
  | none => field 0 16 index + field 16 8 sub + field 24 4 1 + field 30 2 3 + field 64 32 1

/-- A read of 0000:03 (12 R438): the bytes, and the cursor moves on. -/
def State.readDir (s : State) : State × List Byte :=
  let c := s.obj 0 2
  match firstFrom (bits c 0 16) (bits c 16 8) with
  | some k => (s.setObj 0 2 (k / 256 + 65536 * (k % 256 + 1)), leBytes 16 (dirEntry (k / 256) (k % 256)))
  | none => (s, List.replicate 16 0xFF#8)

/-! ### The event log (12 R448) -/

/-- A read of 7800:03 (12 R448): the held record with the smallest seq at or above the cursor, which moves past it. -/
def State.readLog (s : State) : State × List Byte :=
  let c := s.obj 0x7800 2
  match leastOf ((s.dict.log.map (·.seq)).filter (fun n => decide (c ≤ n))) with
  | none => (s, List.replicate 32 0)
  | some n =>
    match s.dict.log.find? (fun e => decide (e.seq = n)) with
    | some e => (s.setObj 0x7800 2 ((n + 1) % 2 ^ 32), e.bytes)
    | none => (s, List.replicate 32 0)

/-! ### Reading -/

/-- The value of an object that exists, as bytes; none where its own table gives it no value now. -/
def State.value (s : State) (index sub : Nat) : Option (List Byte) :=
  match objRow index sub with
  | none => (topSub index).map (fun n => leBytes 1 n)
  | some (r, _) =>
    if index = 0x4800 ∧ sub = 6 then s.calData
    else match s.liveBytes index sub with
      | some b => some b
      | none => some (leBytes r.size ((s.liveNat index sub).getD (s.obj index sub)))

/-- An object exists: a line of the tables, or subindex 00 of an index (12 R430). -/
def objExists (index sub : Nat) : Bool := (objRow index sub).isSome || (decide (sub = 0) && (topSub index).isSome)

/-- A whole value is read (12 R432, R436): the state, which only the directory and the log change, and the answer. -/
def State.readObj (s : State) (index sub : Nat) : State × Ans :=
  if ¬ objExists index sub then (s, .err errNoObject 0)
  else if ((objRow index sub).map (·.1.acc)) = some 2 then (s, .err errAccess 0)
  else if index = 0 ∧ sub = 3 then let (s, b) := s.readDir; (s, .ok b)
  else if index = 0x7800 ∧ sub = 3 then let (s, b) := s.readLog; (s, .ok b)
  else match s.value index sub with
    | some b => (s, .ok b)
    | none => (s, .err errValue 0)

end Sys2Proof.Machine
end

