-- ==== Sys2Proof/Machine/Dictionary.lean ====
section
/-! DEFINITION. Writes of the dictionary: the checks of 12 R432 and R433, what each object's write does, and the way of a request
to the Barker and back (11 R418, R428, 12 R435, R436, R440, R445, R456, R457, 13 R465, and the rules of the objects). -/

namespace Sys2Proof.Machine

/-! ### Checks (12 R432, R433, 11 R418) -/

/-- The size that a write of an object must have. -/
def State.sizeOf (s : State) (r : ObjRow) (index sub : Nat) : Nat :=
  if index = 0x4800 ∧ sub = 6 then ((s.calData.map List.length).getD 0) else r.size

/-- Conditions of an object's own chapter under which a write is refused with ACCESS, before its value is looked at. -/
def State.accessDenied (s : State) (p : Port) (index sub v : Nat) : Bool :=
  match index, sub with
  | 0x0400, 8 => s.hl.session
  | 0x0400, 9 => s.hl.session
  | 0x4800, 5 => (s.cluster (bits v 0 15 / 256)).loopsOn || decide (s.obj 0x4C00 1 = 1)
  | 0x4800, 6 => (s.cluster (s.calSel.1 / 256)).loopsOn || decide (s.obj 0x4C00 1 = 1)
  | 0x5800, 1 => isField p
  | 0x6800, 6 => isField p
  | 0x6800, 7 => isField p
  | 0x6800, 8 => isField p
  | _, _ => false

/-- A long RWS BLOB may be written in pieces over the host link (11 R418). -/
def pieces (r : ObjRow) : Bool := decide (r.acc = 3) && decide (r.ty = 9) && decide (4096 < r.size)

/-- The refusal of a write, in order: no such object, the access class, the object's own conditions, the length, the value. -/
def State.writeRefusal (s : State) (p : Port) (index sub : Nat) (data : List Byte) (off : Nat) : Option Ans :=
  match objRow index sub with
  | none => some (if objExists index sub then .err errAccess 0 else .err errNoObject 0)
  | some (r, _) =>
    let v := leNat data
    if r.acc = 0 then some (.err errAccess 0)
    else if r.acc = 3 ∧ ¬ s.fnStopped r.owner then some (.err errAccess 0)
    else if s.accessDenied p index sub v then some (.err errAccess 0)
    else if pieces r then (if data = [] ∨ r.size < off + data.length then some (.err errValue 0) else none)
    else if off ≠ 0 ∨ data.length ≠ s.sizeOf r index sub then some (.err errValue 0)
    else if r.ty = 9 ∧ (index, sub) ≠ (0x5000, 0x0C) then none
    else if reservedSet index sub v then some (.err errValue 0)
    else if lateRange index sub ∨ inRange index sub v then none
    else some (.err errValue 0)

/-! ### What a write does -/

/-- A value is stored; an NV object's commit is due (12 R435). -/
def State.storeObj (s : State) (index sub v : Nat) : State :=
  let s := s.setObj index sub v
  if ((objRow index sub).map (·.1.kept)) = some 1 then
    { s with dict := { s.dict with nvDue := s.dict.nvDue.filter (fun e => decide (e.1 ≠ 256 * index + sub)) ++ [(256 * index + sub, s.time)] } }
  else s

/-- NV_COMMIT (12 R435, 13 R477): a written NV object's value reaches the NV store. -/
def State.nvCommit (s : State) (index sub : Nat) : State :=
  let k := 256 * index + sub
  if ¬ s.barker ∨ ¬ s.dict.nvDue.any (fun e => decide (e.1 = k)) then s
  else match objRow index sub with
    | some (r, i) => { s with dict := { s.dict with
        nvDue := s.dict.nvDue.filter (fun e => decide (e.1 ≠ k)), nv := mset (rowDefault r i) s.dict.nv k (s.obj index sub) } }
    | none => s

/-- A write of 4800:06 (08 R303, R304, R320, R321, 04 R125): a heater word's target and range, else the whole item; a reserved bit, or an
offset outside six bits, is refused, and so is a trim of a column that serves a logical column of a region (DESIGN CHOICE, log 105). -/
def State.writeCal (s : State) (v : Nat) (data : List Byte) : State × Ans :=
  let (t, p, k) := s.calSel
  match k with
  | 0 =>
    if v >>> 26 ≠ 0 ∨ (p ∈ s.serving t ∧ (s.regionOfTile t).isSome) then (s, .err errValue 0)
    else (s.modCol t p (fun c => { c with trim := BitVec.ofNat 32 v, trimAt := some s.time }), .ok [])
  | 1 =>
    if bit v 15 then (s, .err errValue 0)
    else ((s.setTarget t p (bits v 0 14)).modHeater t p (fun h => { h with range2 := bit v 14 }), .ok [])
  | 2 =>
    let es := (List.range 32).map (fun i => leAt data (2 * i) 2)
    if es.any (fun e => decide (4096 ≤ e)) then (s, .err errValue 0)
    else (s.modCol t p (fun c => { c with levelHi := es.take 16, levelLo := es.drop 16 }), .ok [])
  | _ =>
    let os := data.map (fun b => b.toInt)
    if os.any (fun o => decide (o < -32) || decide (31 < o)) then (s, .err errValue 0)
    else (s.modCol t p (fun c => { c with offsets := os }), .ok [])

/-- A write of 2400:03 (06 R246): it completes once no request in flight uses a translation in the range. -/
def State.writeInvalidate (s : State) (p : Port) (v : Nat) : State × Option Ans :=
  if ¬ invalidateOk v then (s, some (.err errValue 0))
  else
    let s := s.invalidate v
    if s.usesRange v s.reqSerial then ({ s with invals := s.invals ++ [(p, v, s.reqSerial)] }, none) else (s, some (.ok []))

/-- The invalidations that waited are answered once their ranges are no longer used (06 R246). -/
def State.dueInvals (s : State) : State :=
  (s.invals.filter (fun x => !s.usesRange x.2.1 x.2.2)).foldl (fun s x => s.answer x.1 0x2400 3 (.ok []))
    { s with invals := s.invals.filter (fun x => s.usesRange x.2.1 x.2.2) }

/-- A write of 3000:10 (09 R378, R381). -/
def State.writeDoorbell (s : State) (v : Nat) : State × Ans :=
  if bits v 23 9 ≠ 0 ∨ bits v 48 16 ≠ 0 ∨ s.obj 0x3000 6 = 1 then (s, .err errValue 0)
  else if bit s.fab.db 0 then (s, .err errAccess 0)
  else (s.formDoorbell v, .ok [])

/-- A write of 5000:02 (15 R518): it completes before the device acts on it. -/
def State.writePower (s : State) (p : Port) (v : Nat) : State × Option Ans :=
  if v = 1 ∧ s.deepOk p then ((s.answer p 0x5000 2 (.ok [])).enterDeep, none)
  else if v = 2 ∧ s.standbyOk p then ((s.answer p 0x5000 2 (.ok [])).enterStandby, none)
  else (s, some (.err errValue 0))

/-- A write of 6000:0A (13 R468): the completion first. -/
def State.writeRestart (s : State) (p : Port) (v : Nat) : State × Option Ans :=
  if 102 ≤ v then (s, some (.err errValue 0)) else ((s.answer p 0x6000 0x0A (.ok [])).requestProc v 4 0, none)

/-- An answer that is given at once. -/
def now (x : State × Ans) : State × Option Ans := (x.1, some x.2)

/-- A BOOL object that acts when 1 is written (181q:05, 21ss:06, 5000:0F, 7000:03). -/
def State.pulse (s t : State) (v : Nat) : State × Option Ans := (if v = 1 then t else s, some (.ok []))

/-- What an accepted write does: the objects that act, by page; any other object stores its value. The answer is none where it
comes later, or has been given. -/
def State.act (s : State) (p : Port) (index sub v : Nat) (data : List Byte) : Option (State × Option Ans) :=
  match index, sub with
  | 0x0400, 4 => some (now (s.sessionOpen v))
  | 0x0500, 2 => some (now (if v = 1 then s.fpStart else (s.fpStop, .ok [])))
  | 0x1000, 0x0B => some (if v = 1 then s.basinStart p else (s.basinStop, some (.ok [])))
  | 0x2400, 3 => some (s.writeInvalidate p v)
  | 0x3000, 2 => some (now (if v = 1 then s.fabricStart else (s.fabricStop, .ok [])))
  | 0x3000, 0x10 => some (now (s.writeDoorbell v))
  | 0x3400, 2 => some (now (if v = 1 then s.cascadeStart else (s.cascadeStop, .ok [])))
  | 0x4800, 6 => some (now (s.writeCal v data))
  | 0x4800, 7 => some (let (t, ok) := s.requestCapture v; (t, some (if ok then .ok [] else .err errValue 0)))
  | 0x5000, 2 => some (s.writePower p v)
  | 0x5000, 7 => some (s.laddered (s.storeObj 0x5000 7 v), some (.ok []))
  | 0x5000, 0x0F => some (s.pulse s.vrClear v)
  | 0x5800, 1 => some (now (s.resetRequest p v))
  | 0x5800, 0x0A => some (now (s.bootLoad v))
  | 0x6000, 3 => some (now (s.commitWrite v))
  | 0x6000, 6 => some (now (s.activateWrite v))
  | 0x6000, 0x0A => some (s.writeRestart p v)
  | 0x6800, 6 => some (now (s.floorRaise p v))
  | 0x6800, 8 => some (now (s.optionCommand p v))
  | 0x6800, 0x10 => some (now (s.attestWrite v))
  | 0x7000, 3 => some (s.pulse ((List.range 55).foldl State.clearCounter s) v)
  | 0x7000, 6 => some ({ s with flt := { s.flt with maxInt := 0 } }, some (.ok []))
  | _, _ => none

/-- The members of families that act. -/
def State.actFamily (s : State) (index sub v : Nat) : Option (State × Option Ans) :=
  if 0x1100 ≤ index ∧ index < 0x1200 then
    some (match s.writeRegion (index - 0x1100) v with
      | (t, some r) => (t, some (.err errValue r))
      | (t, none) => (t, some (.ok [])))
  else if 0x1810 ≤ index ∧ index ≤ 0x1813 ∧ sub = 5 then some (s.pulse (s.abortQueue (index - 0x1810)) v)
  else if 0x1A00 ≤ index ∧ index < 0x1B00 then some (s.setToken (index - 0x1A00) v, some (.ok []))
  else if 0x2100 ≤ index ∧ index < 0x2140 then
    some (if sub = 6 then s.pulse (s.startStaging (index - 0x2100)) v
      else match s.writeStream (index - 0x2100) v with
        | (t, some r) => (t, some (.err errValue r))
        | (t, none) => (t, some (.ok [])))
  else if 0x4100 ≤ index ∧ index < 0x4162 then
    some (if sub = 2 then now (if v = 1 then s.loopsStart (index - 0x4100) else (s.loopsStop (index - 0x4100), .ok []))
      else if v = 0 then (s.modCluster (index - 0x4100) (fun x => { x with missed := false }), some (.ok []))
      else (s, some (.ok [])))
  else if index = 0x5800 ∧ 0x16 ≤ sub then
    some ({ s with rst := { s.rst with backup := mset 0 s.rst.backup (sub - 0x10) v } }, some (.ok []))
  else if 0x7100 ≤ index ∧ index < 0x7137 then some (s.clearCounter (index - 0x7100), some (.ok []))
  else none

/-- A write is applied in one step, or refused (12 R432, R433, R436). -/
def State.writeObj (s : State) (p : Port) (index sub : Nat) (data : List Byte) (off : Nat) : State × Option Ans :=
  match s.writeRefusal p index sub data off with
  | some a => (s, some a)
  | none =>
    let v := leNat data
    match s.act p index sub v data with
    | some x => x
    | none =>
      match s.actFamily index sub v with
      | some x => x
      | none =>
        let old := s.obj index sub
        (s.storeObj index sub (if ((objRow index sub).map (fun x => pieces x.1)).getD false
          then old - bits old (8 * off) (8 * data.length) * 2 ^ (8 * off) + v * 2 ^ (8 * off) else v), some (.ok []))

/-! ### The way of a request (11 R428, 12 R450, R456, R457, 13 R465) -/

/-- What the Barker does with a write that has reached it. -/
def State.writeNow (s : State) (p : Port) (index sub : Nat) (data : List Byte) (off : Nat) : State :=
  if ¬ s.servedIndex index then s.answer p index sub (.err errNoObject 0)
  else match s.mustWait index sub with
    | some k => { s with dict := { s.dict with waiting := s.dict.waiting ++
        [({ port := p, proc := k, index := index, sub := sub, since := s.time, data := some data, offset := off } : Waiting)] } }
    | none =>
      match s.writeObj p index sub data off with
      | (s, some a) => s.answer p index sub a
      | (s, none) => s

/-- A value, or the part of it that a PRD asks for, is read. -/
def State.readNow (s : State) (p : Port) (index sub off len : Nat) : State :=
  if ¬ s.servedIndex index then s.answer p index sub (.err errNoObject 0)
  else match s.mustWait index sub with
    | some k => { s with dict := { s.dict with waiting := s.dict.waiting ++
        [({ port := p, proc := k, index := index, sub := sub, since := s.time, offset := off, len := len } : Waiting)] } }
    | none =>
      match s.readObj index sub with
      | (s, .ok b) => s.answer p index sub (.ok (if isField p then b else (b.drop off).take len))
      | (s, a) => s.answer p index sub a

/-- A request has come by a port: what becomes of it, where it does not reach the Barker. -/
def State.stopped (s : State) (p : Port) (index sub : Nat) (held : State) : Option State :=
  if ¬ s.portOpen p then some (if isField p ∧ ¬ s.dark ∧ s.pwr.state = 3 then s.count 0x2E else s)
  else if ¬ s.barker then some (if isField p then held else s.answer p index sub .retry)
  else if ¬ s.answerRoom p then some (s.count 0x30)
  else none

/-- A write of a value, or of a piece of one, by a port. -/
def State.dictWrite (s : State) (p : Port) (index sub : Nat) (data : List Byte) (off : Nat := 0) : State :=
  match s.stopped p index sub (s.holdWrite p index sub data) with
  | some t => t
  | none =>
    if isField p ∧ s.winh then (s.count 0x2F).answer p index sub (.fp 0x23)
    else s.writeNow p index sub data off

/-- A read by a port. -/
def State.dictRead (s : State) (p : Port) (index sub off len : Nat) : State :=
  let f : FpFrame := match p with
    | .field node tid _ => { service := 1, node := node, bytes := fpHeader tid 0 index sub 0 0 }
    | .host _ => {}
  match s.stopped p index sub (s.holdFrame f) with
  | some t => t
  | none => s.readNow p index sub off len

/-- The accesses that waited for a processor are made when it has returned (13 R465). -/
def State.serveWaiting (s : State) (k : Nat) : State :=
  (s.dict.waiting.filter (fun w => decide (w.proc = k))).foldl
    (fun s w => match w.data with
      | some d => s.writeNow w.port w.index w.sub d w.offset
      | none => s.readNow w.port w.index w.sub w.offset w.len)
    { s with dict := { s.dict with waiting := s.dict.waiting.filter (fun w => decide (w.proc ≠ k)) } }

/-- DICT_WAIT_TIMEOUT (13 R465): accesses that have waited 35 µs complete with RETRY. -/
def State.waitTimeout (s : State) : State :=
  let late := fun (w : Waiting) => decide (w.since + 42000 ≤ s.time)
  (s.dict.waiting.filter late).foldl (fun s w => s.answer w.port w.index w.sub .retry)
    { s with dict := { s.dict with waiting := s.dict.waiting.filter (fun w => !late w) } }

end Sys2Proof.Machine
end

