-- ==== Sys2Proof/Machine/FieldPort.lean ====
section
/-! DEFINITION. The field port's frames and pins: requests, segmented transfers, resets by frame, transmission under the token
bucket, error counts and flags, bus-off, and FB_SILENT (12 R449 to R462). -/

namespace Sys2Proof.Machine

/-! ### Requests (12 R456 to R462) -/

/-- A response's frame with the header alone. -/
def fpReply (service node tid status index sub : Nat) : FpFrame :=
  { service := service, node := node, bytes := fpHeader tid status index sub 0 0 }

/-- The byte at an offset of a payload; a byte that the frame does not carry reads as padding, zero (12 R459). -/
def pByte (d : List Byte) (i : Nat) : Nat := (d.getD i 0).toNat

/-- A SEGMENT's or SEG_ACK's frame without data (12 R459). -/
def segAckFrame (node tid status n : Nat) (last : Bool) : FpFrame :=
  { service := 8, node := node, bytes := [BitVec.ofNat 8 tid, BitVec.ofNat 8 status, BitVec.ofNat 8 n, if last then 1 else 0] }

/-- The open segmented transfer, a write that has ended apart (12 R461). -/
def State.openSeg (s : State) : Option Seg := s.fp.seg.filter (fun g => !g.done)

/-- The open transfer ends with an ABORT of a status. -/
def State.endSeg (s : State) (g : Seg) (status : Nat) : State :=
  ({ s with fp := { s.fp with seg := none } }).fpRespond (fpReply 9 g.node g.tid status g.index g.sub)

/-- WRITE (12 R460): the length byte and the value that the frame carries must agree. -/
def State.fpWrite (s : State) (node : Nat) (d : List Byte) (index sub : Nat) : State :=
  let p := Port.field node (pByte d 0) 4
  let n := pByte d 5
  if 56 < n ∨ d.length < 8 + n then s.answer p index sub (.err errValue 0)
  else s.writeNow p index sub ((d.drop 8).take n) 0

/-- SEG_INIT (12 R461). A read takes the value now; a write opens for a total of 1 to 65,535 bytes. -/
def State.fpSegInit (s : State) (node : Nat) (d : List Byte) (index sub : Nat) : State :=
  let tid := pByte d 0
  let total := leAt (d ++ List.replicate 12 0) 8 4
  if s.openSeg.any (fun g => decide (g.node ≠ node)) then s.fpRespond (fpReply 6 node tid 0x21 index sub)
  else
    let s := { s with fp := { s.fp with seg := none } }
    if pByte d 6 % 2 = 0 then s.readNow (.field node tid 6) index sub 0 0
    else if total = 0 ∨ 65535 < total then s.fpRespond (fpReply 6 node tid errValue index sub)
    else
      let g : Seg := { node := node, tid := tid, write := true, index := index, sub := sub, total := total, last := s.time }
      ({ s with fp := { s.fp with seg := some g } }).fpRespond
        { service := 6, node := node, bytes := fpHeader tid 0 index sub 4 0 ++ leBytes 4 total }

/-- SEGMENT (12 R461): the next one is taken, and the last applies the write; the previous one is acknowledged again; any other
number, or a last mark in the wrong place, aborts the transfer. One that belongs to no transfer is ignored. -/
def State.fpSegment (s : State) (node : Nat) (d : List Byte) (refuse : Bool) : State :=
  match s.fp.seg with
  | none => s
  | some g =>
    let n := pByte d 2
    if ¬ g.write ∨ g.node ≠ node ∨ g.tid ≠ pByte d 0 then s
    else if 0 < g.next ∧ n = (g.next - 1) % 256 then
      if g.done ∧ 256 ≤ g.status then s
      else ({ s with fp := { s.fp with seg := some { g with last := s.time } } }).fpRespond
        (segAckFrame g.node g.tid (if g.done then g.status else 0) n g.done)
    else if g.done then s
    else if refuse then (s.count 0x2F).endSeg g 0x23
    else
      let left := g.total - g.data.length
      let last := decide (left ≤ 60)
      if n ≠ g.next % 256 ∨ (decide (pByte d 3 % 2 = 1)) ≠ last then s.endSeg g 0x25
      else
        let data := g.data ++ ((d.drop 4) ++ List.replicate 60 0).take (min 60 left)
        let g' : Seg := { g with data := data, next := g.next + 1, last := s.time, done := last, status := if last then 256 else 0 }
        let s := { s with fp := { s.fp with seg := some g' } }
        if last then s.writeNow (.field g.node g.tid (8 + 256 * n)) g.index g.sub data 0
        else s.fpRespond (segAckFrame g.node g.tid 0 n false)

/-- SEG_ACK (12 R461): the acknowledgement of the segment last sent brings the next, or ends the read; a repeat of the one before
changes nothing; any other number aborts the transfer. -/
def State.fpSegAck (s : State) (node : Nat) (d : List Byte) : State :=
  match s.openSeg with
  | none => s
  | some g =>
    let n := pByte d 2
    if g.write ∨ g.node ≠ node ∨ g.tid ≠ pByte d 0 then s
    else if n = (g.next - 1) % 256 then
      if g.total ≤ 60 * g.next then { s with fp := { s.fp with seg := none } }
      else ({ s with fp := { s.fp with seg := some { g with next := g.next + 1, last := s.time } } }).fpRespond (g.frame g.next)
    else if 2 ≤ g.next ∧ n = (g.next - 2) % 256 then { s with fp := { s.fp with seg := some { g with last := s.time } } }
    else s.endSeg g 0x25

/-- ABORT (12 R461): the transfer of the node and transaction ends. -/
def State.fpAbort (s : State) (node : Nat) (d : List Byte) : State :=
  match s.openSeg with
  | none => s
  | some g => if g.node = node ∧ g.tid = pByte d 0 then { s with fp := { s.fp with seg := none } } else s

/-- RESET (12 R462, 16 Security table 2): the option byte, WINH, the two bytes; the response stands ahead of every queued frame. -/
def State.fpReset (s : State) (node own : Nat) (d : List Byte) (refuse : Bool) (index sub : Nat) : State :=
  let tid := pByte d 0
  let say := fun (s : State) (st : Nat) => s.fpRespond (fpReply 0x0C node tid st index sub)
  if ¬ bit s.rst.options 24 then say s errAccess
  else if refuse then say (s.count 0x2F) 0x23
  else if pByte d 8 ≠ own ∨ pByte d 9 ≠ own ^^^ 0xFF then say s errValue
  else { s with fp := { s.fp with
    rsp := fpReply 0x0C node tid 0 index sub :: s.fp.rsp, resetAt := some (s.fp.resetAt.getD s.time) } }

/-- A request that has come to the Barker is served; refuse: FB_WINH or the option byte refused it at its arrival (12 R456). -/
def State.fpServe (s : State) (service node own : Nat) (d : List Byte) (refuse : Bool) : State :=
  let index := pByte d 2 + 256 * pByte d 3
  let sub := pByte d 4
  let deny := fun (rsp : Nat) => (s.count 0x2F).fpRespond (fpReply rsp node (pByte d 0) 0x23 index sub)
  if service ≠ 9 ∧ ¬ s.answerRoom (.field node 0 0) then s.count 0x30
  else match service with
    | 1 => s.readNow (.field node (pByte d 0) 2) index sub 0 0
    | 3 => if refuse then deny 4 else s.fpWrite node d index sub
    | 5 => if refuse ∧ pByte d 6 % 2 = 1 then deny 6 else s.fpSegInit node d index sub
    | 7 => s.fpSegment node d refuse
    | 8 => s.fpSegAck node d
    | 9 => s.fpAbort node d
    | 0x0B => s.fpReset node own d refuse index sub
    | _ => s

/-- The services of Dictionary table 13 that a master sends. -/
def masterService (service : Nat) : Bool := decide (service ∈ [1, 3, 5, 7, 8, 9, 0x0B])

/-- A frame arrives on the field bus (12 R449, R450, R457, R458): the device acts on one for its own node from another; unless the
port is Active, it discards and counts it; while the Barker is away, it holds it. -/
def State.fpFrame (s : State) (id : Nat) (d : List Byte) : State :=
  let own := s.obj 0x0500 4
  let src := bits id 8 8
  let service := bits id 16 8
  if bits id 0 8 ≠ own ∨ src = 0 ∨ src = 0xFF ∨ src = own ∨ ¬ masterService service then s
  else if s.fp.state ≠ .active then s.count 0x2E
  else if ¬ s.barker then s.holdFrame { id := id, service := service, node := src, bytes := d }
  else s.fpServe service src own d s.winh

/-- The frames held while the Barker was away are answered (12 R457). -/
def State.serveHeld (s : State) : State :=
  if ¬ s.barker then s
  else s.fp.held.foldl (fun s f => s.fpServe f.service f.node (s.obj 0x0500 4) f.bytes f.winh) { s with fp := { s.fp with held := [] } }

/-- SEG_TIMEOUT (12 R461): 8,000,000 always-on cycles without a frame of the transfer. -/
def State.segTimeout (s : State) : State :=
  match s.fp.seg with
  | none => s
  | some g => if s.time < g.last + 1200000000 then s else s.abortSeg

/-- FP_RESET_EXECUTE (12 R462, 14 Reset table 2): the response has been transmitted, or 800,000 always-on cycles have passed. -/
def State.fpResetExecute (s : State) : State :=
  match s.fp.resetAt with
  | none => s
  | some t => if s.fp.resetSent ∨ t + 120000000 ≤ s.time then s.assertReset 2 0x0A else s

/-! ### Transmission (12 R453 to R457, R459) -/

/-- CAN FD payload lengths: the smallest that holds n bytes. -/
def fdLength (n : Nat) : Nat :=
  if n ≤ 8 then n else if n ≤ 12 then 12 else if n ≤ 16 then 16 else if n ≤ 20 then 20 else if n ≤ 24 then 24
  else if n ≤ 32 then 32 else if n ≤ 48 then 48 else 64

/-- The event's frame (12 Dictionary table 13). -/
def State.eventFrame (s : State) (e : EventRec) : FpFrame := { service := 0x0A, node := s.obj 0x0500 0x10, bytes := e.bytes }

/-- A frame with its identifier (12 R453, R458) and its padding (12 R459). -/
def State.onBus (s : State) (f : FpFrame) : FpFrame :=
  let floor := s.obj 0x0500 7
  let prio := if f.service = 0x0A then min 31 (floor + 1) else floor
  { f with
    id := field 24 5 prio + field 16 8 f.service + field 8 8 (s.obj 0x0500 4) + field 0 8 f.node
    bytes := f.bytes ++ List.replicate (fdLength f.bytes.length - f.bytes.length) 0 }

/-- Engine cycles between two tokens (12 R454): one always-on cycle is 150. -/
def State.tokenPeriod (s : State) : Nat := 150 * (8000000 / s.obj 0x0500 8)

/-- A start of frame takes a token (12 R454); the timer starts when the bucket was full. -/
def State.takeToken (s : State) : State :=
  let full := decide (s.obj 0x0500 9 ≤ s.fp.tokens)
  { s with fp := { s.fp with tokens := s.fp.tokens - 1, refillAt := if full then some (s.time + s.tokenPeriod) else s.fp.refillAt } }

/-- TOKEN_REFILL (12 R454). -/
def State.tokenRefill (s : State) : State :=
  match s.fp.refillAt with
  | none => s
  | some t =>
    if s.time < t ∨ s.obj 0x0500 9 ≤ s.fp.tokens then s
    else { s with fp := { s.fp with
      tokens := s.fp.tokens + 1, refillAt := if s.fp.tokens + 1 < s.obj 0x0500 9 then some (t + s.tokenPeriod) else none } }

/-- The port stops transmitting by itself (12 R452, R455): fp.enable reads 0, the open transfer ends without a frame, and an event
says why, with a count (12 Dictionary table 7). -/
def State.fpFail (s : State) (st : FpSt) (code n : Nat) : State :=
  ((s.setObj 0x0500 2 0).fpEnter st).event 4 1 code (field 0 8 (min n 255))

/-- Active error flags are transmitted (12 R455): those of the last 8,000,000 always-on cycles are kept, and above the limit the
port enters FlagLimit. -/
def State.errorFlags (s : State) (n : Nat) : State :=
  let kept := s.fp.errFlags.filter (fun t => decide (s.time < t + 1200000000)) ++ List.replicate n s.time
  let s := { s with fp := { s.fp with errFlags := kept } }
  if s.fp.state = .active ∧ s.obj 0x0500 0x0B < kept.length then s.fpFail .flagLimit 3 kept.length else s

/-- The port is error active (ISO 11898-1). -/
def State.errorActive (s : State) : Bool := decide (s.fp.txErr ≤ 127) && decide (s.fp.rxErr ≤ 127)

/-- Whether a frame may start (12 R451, R452, R454): the port is Active, FB_SILENT reads 0, its transmit error count has not passed 255,
and a token is there. -/
def State.mayStart (s : State) : Bool :=
  decide (s.fp.state = .active) && !s.fp.silentPin && decide (s.fp.txErr ≤ 255) && decide (0 < s.fp.tokens)

/-- The next frame: responses go first (12 R457). -/
def State.nextFrame (s : State) : Option (FpFrame × State) :=
  match s.fp.rsp, s.fp.evt with
  | f :: rest, _ => some (f, { s with fp := { s.fp with rsp := rest } })
  | [], e :: rest => some (s.eventFrame e, { s with fp := { s.fp with evt := rest } })
  | [], [] => none

/-- FRAME_TRANSMIT (12 R454): sent, the frame leaves its queue; lost arbitration and an error leave it there, and took a token all
the same. The error counts follow ISO 11898-1. -/
def State.frameTransmit (s : State) (o : TxOutcome) : State :=
  if ¬ s.mayStart then s
  else match s.nextFrame with
    | none => s
    | some (f, t) =>
      match o with
      | .lost => s.takeToken
      | .error =>
        let active := s.errorActive
        let s := s.takeToken
        let s := { s with fp := { s.fp with txErr := min (s.fp.txErr + 8) 65535 } }
        if active then s.errorFlags 1 else s
      | .sent =>
        let s := t.takeToken
        let s := { s with fp := { s.fp with
          sent := s.fp.sent ++ [s.onBus f], txErr := s.fp.txErr - 1
          resetSent := s.fp.resetSent || (s.fp.resetAt.isSome && decide (f.service = 0x0C) && decide (pByte f.bytes 1 = 0)) } }
        s

/-- FLAG_LIMIT (12 R455): error flags were transmitted on received frames, one for each error found; each raises the receive
error count, and only those sent while error active count. -/
def State.flagLimit (s : State) (n : Nat) : State :=
  if s.fp.state ≠ .active then s
  else
    let k := if s.fp.txErr ≤ 127 then min n (128 - s.fp.rxErr) else 0
    { s with fp := { s.fp with rxErr := min (s.fp.rxErr + n) 255 } }.errorFlags k

/-- BUS_OFF (12 R452). The event gives the count before the error that took it past 255, which raised it by 8. -/
def State.busOff (s : State) : State :=
  if s.fp.txErr ≤ 255 ∨ (s.fp.state ≠ .active ∧ s.fp.state ≠ .pinned) then s else s.fpFail .busOff 2 (s.fp.txErr - 8)

/-- BUS_OFF_RECOVERY (12 R452): the counts start again, and the port is Active, or Pinned while FB_SILENT reads 1. -/
def State.busOffRecovery (s : State) : State :=
  if ¬ s.fp.recovering then s
  else ({ s with fp := { s.fp with recovering := false, txErr := 0, rxErr := 0 } }).fpEnter (if s.fp.silentPin then .pinned else .active)

/-! ### FB_SILENT (12 R451) -/

/-- FB_SILENT_ASSERT. -/
def State.silentHigh (s : State) : State :=
  let s := { s with fp := { s.fp with silentPin := true, pinnedWait := false } }
  if s.fp.state = .active then s.fpEnter .pinned else s

/-- FB_SILENT_RELEASE: 11 recessive bits are awaited. -/
def State.silentLow (s : State) : State :=
  { s with fp := { s.fp with silentPin := false, pinnedWait := decide (s.fp.state = .pinned) } }

/-- BUS_IDLE_DETECT. -/
def State.busIdle (s : State) : State :=
  if s.fp.pinnedWait ∧ s.fp.state = .pinned then s.fpEnter .active else s

end Sys2Proof.Machine
end

