-- ==== Sys2Proof/Machine/HostLink.lean ====
section
/-! DEFINITION. The transactions that the host sends: their form, the requests to memory, to the register window and to the
dictionary, and the doorbells (11 R411 to R418, R424 to R428; 14 Reset table 4). -/

namespace Sys2Proof.Machine

/-! ### The header (11 Host link table 2) -/

/-- The header of a host transaction, without its tcrc. -/
def hostHeader (ty tag len : Nat) (addr : Nat) (space : Nat := 0) (value : Nat := 0) : Nat :=
  field 0 8 ty + field 8 2 space + field 12 12 tag + field 32 13 len + field 64 64 addr + field 128 64 value

/-- The address field of a PRD or PWR. -/
def objAddr (index sub off : Nat) : Nat := field 0 16 index + field 16 8 sub + field 24 24 off

/-- The tcrc of a transaction: CRC-32C over header bytes 0 to 27 and the data. -/
def tcrcOk (h : Nat) (data : List Byte) : Bool := decide (bits h 224 32 = crc32c (leBytes 28 h ++ data))

/-- The bytes that a transaction's length names; flits are padded with zeros (11 R411). -/
def payloadOf (len : Nat) (data : List Byte) : List Byte := (data ++ List.replicate (len - data.length) 0).take len

/-- A field outside its range, or a reserved field that is not zero (11 R413): a field that Host link table 2 gives as 0 for the
type counts as reserved. -/
def badHeader (h : Nat) : Bool :=
  let ty := bits h 0 8
  let space := bits h 8 2
  let len := bits h 32 13
  let zero := fun (lo w : Nat) => decide (bits h lo w = 0)
  let lenOk : Bool := match ty with
    | 1 => decide (1 ≤ len ∧ len ≤ 4096)
    | 2 => decide (1 ≤ len ∧ len ≤ 4096)
    | 4 => decide (1 ≤ len ∧ len ≤ 4096)
    | _ => decide (len = 0)
  let spaceOk : Bool := if ty = 3 ∨ ty = 4 then decide (space ≠ 2) else decide (space = 0)
  let addrOk : Bool := match ty with
    | 1 => zero 112 16
    | 2 => zero 112 16
    | 5 => zero 80 48
    | _ => true
  let detailOk : Bool := if ty = 3 then decide (1 ≤ bits h 192 13 ∧ bits h 192 13 ≤ 4096) && zero 205 19 else zero 192 32
  decide (ty < 1 ∨ 5 < ty) || !(lenOk && spaceOk && addrOk && detailOk && zero 10 2 && zero 45 19 && zero 24 8 && (decide (ty = 5) || zero 128 64))

/-- The same for a CPL, which nothing answers: it is dropped. -/
def badCpl (h : Nat) : Bool :=
  decide (bits h 8 2 ≠ 0 ∨ bits h 10 2 ≠ 0 ∨ bits h 45 19 ≠ 0 ∨ bits h 64 128 ≠ 0 ∨ bits h 208 16 ≠ 0 ∨ 4096 < bits h 32 13)

/-- An MRD or MWR that crosses a 4 KiB-aligned address, or a window access that is not 8 bytes at a multiple of 8 (11 R413). -/
def badSpan (space a n : Nat) : Bool :=
  decide (4096 < a % 4096 + n) || (decide (space = 3) && (decide (n ≠ 8) || decide (a % 8 ≠ 0)))

/-! ### Memory (11 R416) -/

/-- Where bytes of device memory lie: a physical address, or the error. Spaces 0 and 1; a request within 4 KiB lies in one page. -/
def State.hostPlace (s : State) (write : Bool) (space a n : Nat) : Except Ans Nat :=
  if space = 0 then
    match s.translate write (a : Int) with
    | .error c => .error (.err errXlat c)
    | .ok (.local_ p) => .ok p
    | .ok (.host _) => .error (.err errNotLocal 1)
    | .ok (.peer _ _) => .error (.err errNotLocal 2)
  else if physOk a ∧ physOk (a + n - 1) then .ok a
  else .error (.err errNoAddr 0)

/-- An access with space 0 leaves its leaf in the translation cache (06 R245). An uncorrectable error in its walk is counted (R240). -/
def State.hostCached (s : State) (space a : Nat) : State := if space = 0 then s.cacheLeaf a else s

/-- An MRD of device memory. -/
def State.hostRead (s : State) (space a n : Nat) : State × Ans :=
  match s.hostPlace false space a n with
  | .error e => (if space = 0 then s.meetAt false a n else s, e)
  | .ok p =>
    let s := s.hostCached space a
    if s.mem.errs p n then (s.meetBad p n, .err errMemory 0) else (s, .ok (s.mem.readN p n))

/-- An MWR of device memory. A request that meets an uncorrectable error has written the bytes before the granule (06 R241). -/
def State.hostWrite (s : State) (space a : Nat) (data : List Byte) : State × Ans :=
  match s.hostPlace true space a data.length with
  | .error e => (if space = 0 then s.meetAt true a data.length else s, e)
  | .ok p =>
    let s := s.hostCached space a
    if s.mem.storeErrs p data.length then
      let n := s.mem.goodBytes p data.length (fun g => decide (g ∈ s.mem.bad) && !(decide (p ≤ 64 * g) && decide (64 * g + 64 ≤ p + data.length)))
      ((s.meetBad p data.length).store p (data.take n), .err errMemory 0)
    else (s.store p data, .ok [])

/-! ### The register window (11 R424 to R428, Host link tables 6 and 7) -/

/-- LINK_STATUS. -/
def State.linkStatus (s : State) : Nat :=
  let st : Nat := match s.hl.state with
    | .down => 0
    | .locking => 1
    | .up => 2
  st + field 2 1 (b2n s.hl.session) + field 3 1 (b2n s.barker) + field 4 4 s.hl.lanes.toNat + field 8 8 s.hl.upsMod + field 16 16 s.hl.sessions

/-- The offsets of the two doorbell arrays. -/
def doorbellOff (off : Nat) : Bool :=
  (decide (0x1000 ≤ off ∧ off < 0x1020) || decide (0x1100 ≤ off ∧ off < 0x1300)) && decide (off % 8 = 0)

/-- The offsets of the emulated registers. -/
def emulatedOff (off : Nat) : Bool := decide (0x2000 ≤ off ∧ off ≤ 0x2030 ∧ off % 8 = 0)

/-- The value of an object as a number. -/
def State.objNow (s : State) (index sub : Nat) : Nat := leNat ((s.value index sub).getD [])

/-- A read of a register. -/
def State.windowRead (s : State) (off : Nat) : Ans :=
  if emulatedOff off ∧ ¬ s.barker then .retry
  else match off with
    | 0x0000 => .ok (leBytes 8 s.linkStatus)
    | 0x1400 => .ok (leBytes 8 s.hl.evtHead)
    | 0x2000 => .ok (leBytes 8 (s.objNow 0x0400 4))
    | 0x2008 => .ok (leBytes 8 (field 0 1 (s.objNow 0x0400 5) + field 8 8 (s.objNow 0x0400 6) + field 16 16 (s.objNow 0x0400 7)))
    | 0x2010 => .err errAccess 0
    | 0x2018 => .ok (leBytes 8 (s.objNow 0x0400 8))
    | 0x2020 => .ok (leBytes 8 (s.objNow 0x0400 9))
    | 0x2028 => .ok (leBytes 8 (s.objNow 0x0400 0x0A))
    | 0x2030 => .ok (leBytes 8 (s.objNow 0x0200 1))
    | _ => .err (if doorbellOff off then errAccess else errNoObject) 0

/-- A write of an object through its emulated register: bits beyond the object's value are refused. -/
def State.windowObj (s : State) (tag index sub size v : Nat) : State :=
  if 2 ^ (8 * size) ≤ v then s.answer (.host tag) index sub (.err errValue 0)
  else s.dictWrite (.host tag) index sub (leBytes size v)

/-- A write of SESSION_CLOSE (11 R424, R425). -/
def State.writeClose (s : State) (v : Nat) : State × Ans :=
  if v = 0 then (s, .ok []) else if v = 1 then (s.closeSession, .ok []) else (s, .err errValue 0)

/-- A write of a register. -/
def State.windowWrite (s : State) (tag off v : Nat) : State :=
  let give := fun (x : State × Ans) => x.1.answer (.host tag) 0 0 x.2
  if emulatedOff off ∧ ¬ s.barker then give (s, .retry)
  else match off with
    | 0x1400 => give (s.writeEvtHead v)
    | 0x2000 => s.windowObj tag 0x0400 4 2 v
    | 0x2010 => give (s.writeClose v)
    | 0x2018 => s.windowObj tag 0x0400 8 8 v
    | 0x2020 => s.windowObj tag 0x0400 9 4 v
    | _ => give (s, .err (if off = 0 ∨ doorbellOff off ∨ emulatedOff off then errAccess else errNoObject) 0)

/-! ### Doorbells (05 R166, R167, R214, 06 R252, 11 R427) -/

/-- A doorbell to a queue. -/
def State.queueBell (s : State) (q v : Nat) : State × Ans :=
  let u := s.queue q
  if ¬ s.hl.session then (s, .refused 3)
  else if u.confRing = 0xFFFFFFFF ∨ u.confCpl = 0xFFFFFFFF then (s, .err errAccess 0)
  else if 2 ^ 16 ≤ v then (s, .err errValue 0)
  else match s.doorbell q v with
    | (s, true) => (s, .ok [])
    | (s, false) => (s, .okIgnored)

/-- A doorbell to a stream context. -/
def State.resumeBell (s : State) (c v : Nat) : State × Ans :=
  if 2 ^ 16 ≤ v then (s, .err errValue 0)
  else match s.resume c v with
    | (s, true) => (s.settle, .ok [])
    | (s, false) => (s, .okIgnored)

/-- A DBL to an offset of the window. -/
def State.bell (s : State) (off v : Nat) : State × Ans :=
  if ¬ doorbellOff off then (s, .err errNoObject 0)
  else if off < 0x1100 then s.queueBell ((off - 0x1000) / 8) v
  else s.resumeBell ((off - 0x1100) / 8) v

/-! ### Transactions -/

/-- What a request of the host does (11 R413, R416 to R418). -/
def State.serveHost (s : State) (h : Nat) (data : List Byte) : State :=
  let tag := bits h 12 12
  let a := bits h 64 64
  let space := bits h 8 2
  let give := fun (x : State × Ans) => x.1.answer (.host tag) 0 0 x.2
  if badHeader h then give (s, .err errMalformed 0)
  else match bits h 0 8 with
    | 1 => s.dictRead (.host tag) (bits a 0 16) (bits a 16 8) (bits a 24 24) (bits h 32 13)
    | 2 => s.dictWrite (.host tag) (bits a 0 16) (bits a 16 8) data (bits a 24 24)
    | 3 =>
      if badSpan space a (bits h 192 13) then give (s, .err errMalformed 0)
      else if space = 3 then give (s, s.windowRead a)
      else give (s.hostRead space a (bits h 192 13))
    | 4 =>
      if badSpan space a data.length then give (s, .err errMalformed 0)
      else if space = 3 then s.windowWrite tag a (leNat data)
      else give (s.hostWrite space a data)
    | _ => give (s.bell a (bits h 128 64))

/-- A request touches a DRAM stack that is in a block reset: it waits at the wrapper (14 Reset table 4). -/
def State.hostWaits (s : State) (h : Nat) (data : List Byte) : Bool :=
  let write := decide (bits h 0 8 = 4)
  let n := if write then data.length else bits h 192 13
  !badHeader h && (write || decide (bits h 0 8 = 3)) && !badSpan (bits h 8 2) (bits h 64 64) n && decide (bits h 8 2 < 2)
    && match s.hostPlace write (bits h 8 2) (bits h 64 64) n with
      | .ok p => decide (p < dramEnd) && decide (stackOf p ∈ s.mem.inReset)
      | .error _ => false

/-- A request of the host is served in the order of arrival (11 R417), where it need not wait. -/
def State.hostOrder (s : State) (h : Nat) (data : List Byte) : State :=
  if s.hl.held ≠ [] ∨ s.hostWaits h data then { s with hl := { s.hl with held := s.hl.held ++ [(h, data)] } }
  else s.serveHost h data

/-- The requests that waited are served, up to the first that must wait still; fuel. -/
def State.hostResume (s : State) : Nat → State
  | 0 => s
  | n + 1 =>
    match s.hl.held with
    | [] => s
    | (h, data) :: rest =>
      if s.hostWaits h data then s
      else ({ s with hl := { s.hl with held := rest } }.serveHost h data).hostResume n

/-- Whether the host's transactions reach the device. -/
def State.hostOpen (s : State) : Bool := decide (s.hl.state = .up)

/-- A transaction arrives (11 R413): one whose tcrc fails is discarded, and its frame counts as received in error; an idle flit
and an EVT, which only the device issues, do nothing. -/
def State.transaction (s : State) (h : Nat) (data : List Byte) : State :=
  let data := payloadOf (if bits h 0 8 = 1 then 0 else bits h 32 13) data
  if ¬ s.hostOpen then s
  else if ¬ tcrcOk h data then s.frameFails
  else match bits h 0 8 with
    | 0 => s
    | 6 => s
    | 7 => if badCpl h then s else s.onCpl (bits h 12 12) (bits h 24 8) data
    | _ => s.hostOrder h data

/-- A request of the host whose form is given by its command. -/
def State.hostCommand (s : State) (h : Nat) (data : List Byte := []) : State := if s.hostOpen then s.hostOrder h data else s

/-! ### Requests by either port (12 R436) -/

/-- A write of a whole value. -/
def State.portWrite (s : State) (p : Port) (index sub : Nat) (data : List Byte) : State :=
  match p with
  | .host tag =>
    if s.hl.held ≠ [] ∧ s.hostOpen then s.hostOrder (hostHeader 2 tag data.length (objAddr index sub 0)) data
    else s.dictWrite p index sub data
  | .field _ _ _ => s.dictWrite p index sub data

/-- A read of a value. -/
def State.portRead (s : State) (p : Port) (index sub len : Nat) : State :=
  match p with
  | .host tag =>
    if s.hl.held ≠ [] ∧ s.hostOpen then s.hostOrder (hostHeader 1 tag len (objAddr index sub 0)) []
    else s.dictRead p index sub 0 len
  | .field _ _ _ => s.dictRead p index sub 0 len

end Sys2Proof.Machine
end

