-- ==== Sys2Proof/Machine/Clock.lean ====
section
/-! DEFINITION. What one engine cycle without a command brings about (DESIGN CHOICE, log entry 1): the memory paths serve a
request each, what waited for a condition goes on, the host link's frame leaves, and time passes. -/

namespace Sys2Proof.Machine

/-- An op placed among others in the order of R181. -/
def insertOp (o : Op) : List Op → List Op
  | [] => [o]
  | x :: xs => if o.before x then o :: x :: xs else x :: insertOp o xs

/-- Admitted ops whose deps have completed and which could not start yet are considered again, in the order of R181 (05 R173, R178). -/
def State.retryReady (s : State) : State :=
  ((s.ops.filter (fun o => o.ready && decide (o.stage = Stage.admitted))).foldr insertOp []).foldl
    (fun (s : State) o => s.consider o.queue o.seq) s

/-- What the writers and the mirror reads bring about: reads that a stack's block reset held go on (04 R163), spares that wait for a
column's digits are copied, each writer serves a request every fourth cycle (04 R123, R133), and a cluster's rewrite ends (R162). -/
def State.writersRun (s : State) : State :=
  let s := s.dueReads
  let s := (s.tiles.filter (fun e => decide (e.2.pendingMap ≠ []) && decide ((e.2.pendingMap.head?.bind (·.col)) ≠ e.2.loading)
      && s.clusterServes (e.1 / 256))).foldl (fun s e => s.loadSpare e.1) s
  (if s.time % 4 = 3 then s.writerSample else s).endRewrites

/-- A doorbell that waited for a fabric tag takes one that has become free (09 R378). -/
def State.retryDoorbell (s : State) : State :=
  match s.fab.dbWait with
  | some v => s.formDoorbell v
  | none => s

/-- An engine cycle of a device that runs. -/
def State.tick (s : State) : State :=
  let s := s.pump.retryReady.retryStarted.deliverOwn.retryDoorbell.dueRestart.dueInvals.emergencyCheck
  s.writersRun.sendFrame.cycle.dueWarm

/-- An engine cycle: while a cold or warm reset is asserted, and in Standby, time alone passes. -/
def State.idle (s : State) : State :=
  if s.dark ∨ s.pwr.state ≠ 3 then { s with time := s.time + 1 } else s.tick

end Sys2Proof.Machine
end

