-- ==== Sys2Proof/Machine/ExecOps.lean ====
section
/-! DEFINITION. The meanings of the commands of the op queues, the Basin, the Weir, the writers, the epochs and the stream
engine that come from the device itself. -/

namespace Sys2Proof.Machine

/-- What a command answers. -/
abbrev Out := Host.Outcome State Fault Refusal

/-- A Dark device, or one in Standby, does nothing (14 R491, 15 Power table 2); otherwise the next state is the one given. -/
def State.live (s t : State) : Out := .next (if s.dark ∨ s.pwr.state ≠ 3 then s else t)

/-- MVM (05 R168, R171, R173). -/
def execMvm (q : Fin 4) (s : State) : Out := s.live (s.admitAs q (fun d => decide (opKind (dOpcode d) = .mvm)))
/-- MVG (05 R168, R171, R173). -/
def execMvg (q : Fin 4) (s : State) : Out := s.live (s.admitAs q (fun d => decide (opKind (dOpcode d) = .mvg)))
/-- LDW_COPY (04 R135, R137, 05 R168). -/
def execLdwCopy (q : Fin 4) (s : State) : Out := s.live (s.admitAs q (fun d => decide (opKind (dOpcode d) = .ldw) && !dMode d))
/-- LDW_ADOPT (04 R135, R137, 05 R168). -/
def execLdwAdopt (q : Fin 4) (s : State) : Out := s.live (s.admitAs q (fun d => decide (opKind (dOpcode d) = .ldw) && dMode d))
/-- KAP (04 R151, R154, 05 R168). -/
def execKap (q : Fin 4) (s : State) : Out := s.live (s.admitAs q (fun d => decide (opKind (dOpcode d) = .kap)))
/-- NRM (03 R117, 05 R168). -/
def execNrm (q : Fin 4) (s : State) : Out := s.live (s.admitAs q (fun d => decide (opKind (dOpcode d) = .nrm)))
/-- SMX (03 R120, 05 R168). -/
def execSmx (q : Fin 4) (s : State) : Out := s.live (s.admitAs q (fun d => decide (opKind (dOpcode d) = .smx)))
/-- ACT READ (03 R99, 05 R168). -/
def execActRead (q : Fin 4) (s : State) : Out := s.live (s.admitAs q (fun d => decide (opKind (dOpcode d) = .act) && decide (dFunc d = 0)))
/-- ACT WRITE (03 R99, R100, 05 R168). -/
def execActWrite (q : Fin 4) (s : State) : Out := s.live (s.admitAs q (fun d => decide (opKind (dOpcode d) = .act) && decide (dFunc d = 1)))
/-- ACT ADD (03 R99, R100, 05 R168). -/
def execActAdd (q : Fin 4) (s : State) : Out := s.live (s.admitAs q (fun d => decide (opKind (dOpcode d) = .act) && decide (dFunc d = 2)))
/-- ACT SAVE (03 R99, 05 R168). -/
def execActSave (q : Fin 4) (s : State) : Out := s.live (s.admitAs q (fun d => decide (opKind (dOpcode d) = .act) && decide (dFunc d = 3)))
/-- ACT RESTORE (03 R99, R100, 05 R168). -/
def execActRestore (q : Fin 4) (s : State) : Out := s.live (s.admitAs q (fun d => decide (opKind (dOpcode d) = .act) && decide (dFunc d = 4)))
/-- ACT RELEASE (03 R99, 05 R168). -/
def execActRelease (q : Fin 4) (s : State) : Out := s.live (s.admitAs q (fun d => decide (opKind (dOpcode d) = .act) && decide (dFunc d = 5)))
/-- XFR (09 R374, 05 R168). -/
def execXfr (q : Fin 4) (s : State) : Out := s.live (s.admitAs q (fun d => decide (opKind (dOpcode d) = .xfr)))
/-- WTK (05 R168, R173, R595). -/
def execWtk (q : Fin 4) (s : State) : Out := s.live (s.admitAs q (fun d => decide (opKind (dOpcode d) = .wtk)))
/-- SPB (05 R168, R194). -/
def execSpb (q : Fin 4) (s : State) : Out := s.live (s.admitAs q (fun d => decide (opKind (dOpcode d) = .spb)))
/-- SPC (05 R168, R205, R206). -/
def execSpc (q : Fin 4) (s : State) : Out := s.live (s.admitAs q (fun d => decide (opKind (dOpcode d) = .spc)))
/-- SPQ (05 R168, R207). -/
def execSpq (q : Fin 4) (s : State) : Out := s.live (s.admitAs q (fun d => decide (opKind (dOpcode d) = .spq)))
/-- FNC (05 R168, R173). -/
def execFnc (q : Fin 4) (s : State) : Out := s.live (s.admitAs q (fun d => decide (opKind (dOpcode d) = .fnc)))

/-- OP_DEPS_COMPLETE (05 R177, R178). -/
def execOpDepsComplete (q : Fin 4) (slot : Fin 1024) (s : State) : Out :=
  match s.slotOp q slot with
  | some o => s.live (s.consider q o.seq)
  | none => .next s

/-- STREAM_ARM (06 R228). -/
def execStreamArm (q : Fin 4) (slot : Fin 1024) (s : State) : Out := s.live (s.streamArm q slot)
/-- OP_START (05 R173, R174). -/
def execOpStart (q : Fin 4) (slot : Fin 1024) (s : State) : Out := s.live (s.opStart q slot)
/-- PASS (01 R19, 02 R50). -/
def execPass (readings : List Reading) (s : State) : Out := s.live (s.pass readings)
/-- AMBIGUOUS_INTEGER (02 R62, R63). -/
def execAmbiguousInteger (tile : Fin 25088) (s : State) : Out := s.live (s.ambiguous tile)
/-- COLUMN_MAP_CHANGE (01 R13). -/
def execColumnMapChange (tile : Fin 25088) (s : State) : Out := s.live (s.applyMap tile)
/-- PASS_REPEAT (02 R64 to R66). -/
def execPassRepeat (readings : List Reading) (s : State) : Out := s.live (s.passRepeat readings)
/-- OP_CONTRIBUTION (03 R87). -/
def execOpContribution (s : State) : Out := s.live s.contribute
/-- DRAIN_START (03 R97). -/
def execDrainStart (s : State) : Out := s.live s.drainStart
/-- DRAIN_COMPLETE (03 R96, R116, R119). -/
def execDrainComplete (s : State) : Out := s.live s.drainComplete
/-- PREEMPT (01 R20, 05 R182). -/
def execPreempt (s : State) : Out := s.live (s.atBoundary State.preempt)
/-- STALL_PREEMPT (01 R20, 05 R183). -/
def execStallPreempt (s : State) : Out := s.live (s.atBoundary State.stallPreempt)
/-- SUSPEND (05 R184, R185). -/
def execSuspend (s : State) : Out := s.live s.suspend
/-- PREEMPTED_RESUME (05 R186). -/
def execPreemptedResume (s : State) : Out := s.live s.resumePreempted
/-- OP_RETIRE (05 R169, R170). -/
def execOpRetire (q : Fin 4) (s : State) : Out := s.live (s.retireOp q)
/-- SMX_COMPLETE (03 R122). -/
def execSmxComplete (s : State) : Out := s.live s.smxComplete
/-- EPOCH_RETIRE (05 R205). -/
def execEpochRetire (e : Fin 8) (s : State) : Out := s.live (s.retireEpoch e)
/-- PEER_EPOCH_TIMEOUT (05 R204). -/
def execPeerEpochTimeout (source : BitVec 17) (stamp : BitVec 16) (s : State) : Out := s.live (s.peerTimeout source.toNat stamp.toNat)
/-- LDW_START (04 R136, R138). -/
def execLdwStart (q : Fin 4) (slot : Fin 1024) (s : State) : Out := s.live (s.loadStart q slot)
/-- LDW_COMPLETE (04 R140). -/
def execLdwComplete (q : Fin 4) (slot : Fin 1024) (s : State) : Out := s.live (s.loadComplete q slot)
/-- KAP_START (04 R154). -/
def execKapStart (q : Fin 4) (slot : Fin 1024) (s : State) : Out := s.live (s.kapStart q slot)
/-- KAP_COMPLETE (04 R152). -/
def execKapComplete (q : Fin 4) (slot : Fin 1024) (s : State) : Out := s.live (s.kapComplete q slot)
/-- REFRESH (04 R132, R157). -/
def execRefresh (r : Refreshed) (s : State) : Out := s.live (s.refresh r.region r.corrected)
/-- MIRROR_UNCORRECTABLE (04 R157). -/
def execMirrorUncorrectable (r : Fin 256) (granule : Nat) (s : State) : Out := s.live (s.mirrorUncorrectable r granule)
/-- GRACE_END (04 R159). -/
def execGraceEnd (r : Fin 256) (s : State) : Out := s.live (s.graceEnd r)
/-- DIGEST_COMPLETE (04 R143, R144). -/
def execDigestComplete (s : State) : Out := s.live s.digestComplete
/-- CLUSTER_RING_REWRITE (04 R162). -/
def execClusterRingRewrite (c : Fin 98) (s : State) : Out := s.live (s.clusterRingRewrite c)
/-- STACK_RESET_OVERRUN (04 R163). -/
def execStackResetOverrun (k : Fin 2) (s : State) : Out := s.live (s.stackResetOverrun k)
/-- STACK_FAIL (17 R564). -/
def execStackFail (k : Fin 2) (s : State) : Out := s.live (s.stackFail k)
/-- PATROL_SCRUB (06 R239, R240). -/
def execPatrolScrub (granule : Nat) (outcome : EccOutcome) (s : State) : Out := s.live (s.patrolScrub granule outcome)
/-- STREAM_HALT (06 R248 to R250). -/
def execStreamHalt (c : Fin 64) (s : State) : Out := s.live (s.streamHalt c)
/-- STANDSTILL (06 R235). -/
def execStandstill (s : State) : Out := s.live s.standstill

end Sys2Proof.Machine
end

