-- ==== Sys2Proof/Machine/ExecFabric.lean ====
section
/-! DEFINITION. The meanings of the commands of the optical fabric and of cascades (09, 10). -/

namespace Sys2Proof.Machine

/-- What happens on a fiber whose plane is not in a block reset (14 Reset table 4). -/
def State.onPlane (s : State) (fiber : Nat) (t : State) : State := if s.blockReset 3 fiber then s else t


/-! ### Lanes (09 R344 to R351) -/

/-- MARGIN_TEST_ROUND (09 R345). -/
def execMarginTestRound (s : State) : Out := s.live s.marginRound
/-- LANE_PASS (09 R346). -/
def execLanePass (lane : Fin 2304) (bits : Nat) (eyes : Bool) (s : State) : Out := s.live (s.onPlane (lane / 128) (s.lanePass lane bits eyes))
/-- LANE_FRAME (09 R344). -/
def execLaneFrame (lane : Fin 2304) (word : BitVec 64) (s : State) : Out := s.live (s.onPlane (lane / 128) (s.laneFrame lane word.toNat))
/-- MARGIN_WAIT_EXPIRE (09 R348). -/
def execMarginWaitExpire (s : State) : Out := s.live s.marginExpire
/-- SLOT_SCHEDULE (09 R350). -/
def execSlotSchedule (fiber : Fin 18) (slot : Fin 24) (s : State) : Out := s.live (s.onPlane fiber (s.slotSchedule fiber slot))
/-- LANE_KEEPALIVE (09 R351). -/
def execLaneKeepalive (lane : Fin 2304) (slot : Fin 24) (s : State) : Out := s.live (s.onPlane (lane / 128) (s.keepalive lane slot))

/-! ### Packets (09 R354 to R380) -/

/-- WR (09 R375, R377, R379, 10 R391). -/
def execWr (w : FabricPacket) (s : State) : Out := s.live (s.packetRow w ptWR (fun s p => s.onWR p))
/-- RDQ (09 R377). -/
def execRdq (w : FabricPacket) (s : State) : Out := s.live (s.packetRow w ptRDQ (fun s p => s.onRDQ p))
/-- RDR (09 R376). -/
def execRdr (w : FabricPacket) (s : State) : Out := s.live (s.packetRow w ptRDR (fun s p => s.onRDR p))
/-- ACK (09 R374 to R376). -/
def execAck (w : FabricPacket) (s : State) : Out := s.live (s.packetRow w ptACK (fun s p => s.onACK p))
/-- NAK (09 R375, R376). -/
def execNak (w : FabricPacket) (s : State) : Out := s.live (s.packetRow w ptNAK (fun s p => s.onNAK p))
/-- DBL (09 R378). -/
def execDbl (w : FabricPacket) (s : State) : Out := s.live (s.packetRow w ptDBL (fun s p => s.onDBL p))
/-- EPC (09 R380). -/
def execEpc (w : FabricPacket) (s : State) : Out := s.live (s.packetRow w ptEPC (fun s p => s.onEPC p))
/-- EPQ (09 R380). -/
def execEpq (w : FabricPacket) (s : State) : Out := s.live (s.packetRow w ptEPQ (fun s p => s.onEPQ p))
/-- EPA (09 R380). -/
def execEpa (w : FabricPacket) (s : State) : Out := s.live (s.packetRow w ptEPA (fun s p => s.onEPA p))
/-- LCTL (09 R364, R365, R367). -/
def execLctl (w : FabricPacket) (s : State) : Out := s.live (s.packetRow w ptLCTL (fun s p => s.onLCTL p))
/-- FORWARD (09 R354 to R358). -/
def execForward (w : FabricPacket) (cut : Bool) (s : State) : Out := s.live (s.forward w cut)

/-! ### Time limits (09 R365 to R373, R380) -/

/-- REPLAY_TIMEOUT (09 R365). -/
def execReplayTimeout (lane : Fin 2304) (s : State) : Out := s.live (s.replayTimeout lane)
/-- LANE_SILENCE_TIMEOUT (09 R366). -/
def execLaneSilenceTimeout (lane : Fin 2304) (s : State) : Out := s.live (s.laneSilence lane)
/-- LANE_RETIRE (09 R366, R367). -/
def execLaneRetire (lane : Fin 2304) (inbound : Bool) (s : State) : Out := s.live (s.laneRetire lane inbound)
/-- PACKET_AGED (09 R368). -/
def execPacketAged (s : State) : Out := s.live s.packetAged
/-- XFR_TIMEOUT (09 R373). -/
def execXfrTimeout (tag : BitVec 16) (s : State) : Out := s.live (s.tagTimeout tag.toNat)
/-- EPOCH_MESSAGE_TIMEOUT (09 R380). -/
def execEpochMessageTimeout (e : Fin 8) (s : State) : Out := s.live (s.epochTimeout e)

/-! ### By a port (09 R378, R385) -/

/-- DOORBELL_SEND (09 R378). -/
def execDoorbellSend (p : Port) (value : BitVec 64) (s : State) : Out := s.live (s.portWrite p 0x3000 0x10 (leBytes 8 value.toNat))
/-- FABRIC_STOP (09 R385). -/
def execFabricStop (p : Port) (s : State) : Out := s.live (s.portWrite p 0x3000 2 [0])
/-- FABRIC_RESTART (09 R385, 12 R440). -/
def execFabricRestart (p : Port) (s : State) : Out := s.live (s.portWrite p 0x3000 2 [1])

/-! ### Cascades (10 R389 to R393) -/

/-- CASCADE_STOP (10 R390). -/
def execCascadeStop (p : Port) (s : State) : Out := s.live (s.portWrite p 0x3400 2 [0])
/-- CASCADE_RESTART (10 R389, 12 R440). -/
def execCascadeRestart (p : Port) (s : State) : Out := s.live (s.portWrite p 0x3400 2 [1])
/-- PROBE_SEND (10 R391). -/
def execProbeSend (s : State) : Out := s.live s.probeSend
/-- MEMBER_LOSS_TIMEOUT (10 R393). -/
def execMemberLossTimeout (i : Fin 4096) (s : State) : Out := s.live (s.memberLost i)

end Sys2Proof.Machine
end

