-- ==== Sys2Proof/Machine/ExecHost.lean ====
section
/-! DEFINITION. The meanings of the commands of the host link, the object dictionary and the field port (11, 12). -/

namespace Sys2Proof.Machine

/-! ### The host link (11) -/

/-- LINK_FRAME (11 R405, R406, R409, R413). -/
def execLinkFrame (decoded : Bool) (ctl : BitVec 64) (req rsp : Fin 11) (s : State) : Out := s.live (s.linkFrame decoded ctl.toNat req rsp)
/-- LINK_REPLAY_TIMEOUT (11 R406). -/
def execLinkReplayTimeout (s : State) : Out := s.live s.linkReplayTimeout
/-- CODEWORD_LOCK (11 R402, R407). -/
def execCodewordLock (lane : Fin 4) (s : State) : Out := s.live (s.codewordLock lane)
/-- LANE_LOCK_LOSS (11 R407). -/
def execLaneLockLoss (lane : Fin 4) (s : State) : Out := s.live (s.laneLockLoss lane)
/-- LINK_UP (11 R407). -/
def execLinkUp (s : State) : Out := s.live s.linkUp
/-- PRD (11 R412, R413, R418). -/
def execPrd (h : BitVec 256) (s : State) : Out := s.live (s.transaction h.toNat [])
/-- PWR (11 R412, R413, R418). -/
def execPwr (h : BitVec 256) (data : List Byte) (s : State) : Out := s.live (s.transaction h.toNat data)
/-- MRD (11 R412, R413, R416). -/
def execMrd (h : BitVec 256) (s : State) : Out := s.live (s.transaction h.toNat [])
/-- MWR (11 R412, R413, R416). -/
def execMwr (h : BitVec 256) (data : List Byte) (s : State) : Out := s.live (s.transaction h.toNat data)
/-- CPL (11 R414, R415, R419). -/
def execCpl (h : BitVec 256) (data : List Byte) (s : State) : Out := s.live (s.transaction h.toNat data)
/-- CPL_TIMEOUT (11 R414). -/
def execCplTimeout (tag : BitVec 12) (s : State) : Out := s.live (s.cplTimeout tag.toNat)
/-- EVT (11 R420 to R422). -/
def execEvt (s : State) : Out := s.live s.deliverEvt
/-- EVT_HEAD (11 R422, R424). -/
def execEvtHead (tag : BitVec 12) (value : BitVec 64) (s : State) : Out := s.live (s.hostCommand (hostHeader 4 tag.toNat 8 0x1400 3) (leBytes 8 value.toNat))
/-- HOST_LEVEL (11 R425, R426). -/
def execHostLevel (p : Port) (level : BitVec 16) (s : State) : Out := s.live (s.portWrite p 0x0400 4 (leBytes 2 level.toNat))
/-- SESSION_CLOSE (11 R424, R425). -/
def execSessionClose (tag : BitVec 12) (value : BitVec 64) (s : State) : Out := s.live (s.hostCommand (hostHeader 4 tag.toNat 8 0x2010 3) (leBytes 8 value.toNat))
/-- DEVICE_RESET_MESSAGE (11 R429). -/
def execDeviceResetMessage (s : State) : Out := s.live s.deviceReset
/-- PROCESSOR_RESET_MESSAGE (11 R429). -/
def execProcessorResetMessage (s : State) : Out := s.live s.processorReset

/-! ### The dictionary (12 R432 to R448) -/

/-- OBJECT_WRITE (12 R432, R433, R436). -/
def execObjectWrite (p : Port) (index : BitVec 16) (sub : BitVec 8) (data : List Byte) (s : State) : Out := s.live (s.portWrite p index.toNat sub.toNat data)
/-- NV_COMMIT (12 R435, 13 R477). -/
def execNvCommit (index : BitVec 16) (sub : BitVec 8) (s : State) : Out := s.live (s.nvCommit index.toNat sub.toNat)
/-- DIR_ENTRY (12 R438). -/
def execDirEntry (p : Port) (s : State) : Out := s.live (s.portRead p 0 3 16)
/-- LOG_ENTRY (12 R448). -/
def execLogEntry (p : Port) (s : State) : Out := s.live (s.portRead p 0x7800 3 32)
/-- COUNTER_CLEAR (12 R445). -/
def execCounterClear (p : Port) (n : Fin 55) (s : State) : Out := s.live (s.portWrite p (0x7100 + n) 1 [0, 0, 0, 0])
/-- CLEAR_ALL (12 R445). -/
def execClearAll (p : Port) (s : State) : Out := s.live (s.portWrite p 0x7000 3 [1])
/-- BASIN_STOP (12 R439). -/
def execBasinStop (p : Port) (s : State) : Out := s.live (s.portWrite p 0x1000 0x0B [0])
/-- BASIN_RESTART (12 R440). -/
def execBasinRestart (p : Port) (s : State) : Out := s.live (s.portWrite p 0x1000 0x0B [1])

/-! ### The field port (12 R449 to R462) -/

/-- FP_ENABLE (12 R450, R452). -/
def execFpEnable (p : Port) (s : State) : Out := s.live (s.portWrite p 0x0500 2 [1])
/-- FP_DISABLE (12 R450). -/
def execFpDisable (p : Port) (s : State) : Out := s.live (s.portWrite p 0x0500 2 [0])
/-- FB_SILENT_ASSERT (12 R451). -/
def execFbSilentAssert (s : State) : Out := .next s.silentHigh
/-- FB_SILENT_RELEASE (12 R451). -/
def execFbSilentRelease (s : State) : Out := .next s.silentLow
/-- BUS_IDLE_DETECT (12 R451). -/
def execBusIdleDetect (s : State) : Out := s.live s.busIdle
/-- READ (12 R460). -/
def execRead (id : BitVec 29) (payload : List Byte) (s : State) : Out := s.live (s.fpFrame id.toNat payload)
/-- WRITE (12 R460). -/
def execWrite (id : BitVec 29) (payload : List Byte) (s : State) : Out := s.live (s.fpFrame id.toNat payload)
/-- SEG_INIT (12 R461). -/
def execSegInit (id : BitVec 29) (payload : List Byte) (s : State) : Out := s.live (s.fpFrame id.toNat payload)
/-- SEGMENT (12 R461). -/
def execSegment (id : BitVec 29) (payload : List Byte) (s : State) : Out := s.live (s.fpFrame id.toNat payload)
/-- SEG_ACK (12 R461). -/
def execSegAck (id : BitVec 29) (payload : List Byte) (s : State) : Out := s.live (s.fpFrame id.toNat payload)
/-- ABORT (12 R461). -/
def execAbort (id : BitVec 29) (payload : List Byte) (s : State) : Out := s.live (s.fpFrame id.toNat payload)
/-- SEG_TIMEOUT (12 R461). -/
def execSegTimeout (s : State) : Out := s.live s.segTimeout
/-- RESET (12 R462). -/
def execReset (id : BitVec 29) (payload : List Byte) (s : State) : Out := s.live (s.fpFrame id.toNat payload)
/-- FP_RESET_EXECUTE (12 R462, 14 Reset table 2). -/
def execFpResetExecute (s : State) : Out := s.live s.fpResetExecute
/-- FRAME_TRANSMIT (12 R453, R454, R457). -/
def execFrameTransmit (outcome : TxOutcome) (s : State) : Out := s.live (s.frameTransmit outcome)
/-- TOKEN_REFILL (12 R454). -/
def execTokenRefill (s : State) : Out := s.live s.tokenRefill
/-- BUS_OFF (12 R452). -/
def execBusOff (s : State) : Out := s.live s.busOff
/-- BUS_OFF_RECOVERY (12 R452). -/
def execBusOffRecovery (s : State) : Out := s.live s.busOffRecovery
/-- FLAG_LIMIT (12 R455). -/
def execFlagLimit (flags : Fin 256) (s : State) : Out := s.live (s.flagLimit flags)

end Sys2Proof.Machine
end

