-- ==== Sys2Proof/Machine/ExecLight.lean ====
section
/-! DEFINITION. The meanings of the commands of the light, the loops, the converters and the calibration (07, 08). -/

namespace Sys2Proof.Machine

/-! ### The thermal pause (07 R298, R299) -/

/-- THERMAL_PAUSE (07 R298). -/
def execThermalPause (s : State) : Out := s.live s.thermalPause
/-- THERMAL_PAUSE_END (07 R299). -/
def execThermalPauseEnd (s : State) : Out := s.live s.thermalPauseEnd
/-- PAUSE_ALARM (07 R299). -/
def execPauseAlarm (s : State) : Out := s.live s.pauseAlarm

/-! ### Loops (07 R270 to R301) -/

/-- LOOP_UPDATE (07 R272, 08 R307, R326). -/
def execLoopUpdate (tile : Fin 25088) (rs : Conversions) (fit : Option CalFit) (s : State) : Out := s.live (s.loopUpdate tile rs.readings rs.stim fit)
/-- OUTER_UPDATE (07 R275, R286, R301). -/
def execOuterUpdate (tile : Fin 25088) (s : State) : Out := s.live (s.outerUpdate tile)
/-- LOOP_LOCK (07 R270). -/
def execLoopLock (tile : Fin 25088) (p : Fin 33) (s : State) : Out := s.live (s.loopLock tile p)
/-- PILOT_DEADLINE_LOSS (07 R282). -/
def execPilotDeadlineLoss (tile : Fin 25088) (p : Fin 33) (s : State) : Out := s.live (s.deadlineLoss tile p)
/-- PLAUSIBILITY_FAIL (07 R286, R287). -/
def execPlausibilityFail (tile : Fin 25088) (s : State) : Out := s.live (s.plausibilityFail tile)
/-- PILOT_COMPARATOR_FLAG (07 R289, R290). -/
def execPilotComparatorFlag (tile : Fin 25088) (p : Fin 33) (lit : Bool) (s : State) : Out := s.live (s.comparatorFlag tile p lit)
/-- SWEEP_END (07 R292). -/
def execSweepEnd (tile : Fin 25088) (p : Fin 33) (s : State) : Out := s.live (s.sweepEnd tile p)
/-- LINE_IDENTITY_CHECK (07 R293). -/
def execLineIdentityCheck (tile : Fin 25088) (p : Fin 33) (codes : List (Fin 8192)) (s : State) : Out := s.live (s.identityCheck tile p codes)
/-- CHECK_FORCE_INSERT (07 R294). -/
def execCheckForceInsert (tile : Fin 25088) (p : Fin 33) (s : State) : Out := s.live (s.forceCheck tile p)
/-- CLUSTER_LOOPS_STOP (07 R284, 12 R439). -/
def execClusterLoopsStop (p : Port) (c : Fin 98) (s : State) : Out := s.live (s.portWrite p (0x4100 + c) 2 [0])
/-- CLUSTER_LOOPS_RESTART (07 R284, R285, 12 R440). -/
def execClusterLoopsRestart (p : Port) (c : Fin 98) (s : State) : Out := s.live (s.portWrite p (0x4100 + c) 2 [1])
/-- LOW_RATE_ENTRY (08 R318). -/
def execLowRateEntry (c : Fin 98) (s : State) : Out := s.live (s.lowRateEntry c)
/-- LOW_RATE_EXIT (07 R277). -/
def execLowRateExit (c : Fin 98) (s : State) : Out := s.live (s.lowRateExit c)

/-! ### Combs (07 R261, R262) -/

/-- PUMP_FAIL (07 R261). -/
def execPumpFail (link : Bool) (s : State) : Out := s.live (s.pumpFail link)
/-- COMB_RETURN (07 R261, R262). -/
def execCombReturn (link : Bool) (s : State) : Out := s.live (s.combReturn link)
/-- COMB_RETURN_TIMEOUT (07 R261). -/
def execCombReturnTimeout (link : Bool) (s : State) : Out := s.live (s.combTimeout link)
/-- COMB_OVERTEMPERATURE (15 Power table 7, 07 R261). -/
def execCombOvertemperature (link : Bool) (s : State) : Out := s.live (s.combHot link)

/-! ### Heaters and monitors (08 R311 to R321, 17 R562, R563) -/

/-- HEATER_SHORT (08 R321). -/
def execHeaterShort (tile : Fin 25088) (h : Fin 34) (s : State) : Out := s.live (s.heaterShort tile h)
/-- HEATER_OPEN (08 R321). -/
def execHeaterOpen (tile : Fin 25088) (h : Fin 34) (s : State) : Out := s.live (s.heaterOpen tile h)
/-- TEMP_ALARM (08 R311). -/
def execTempAlarm (tile : Fin 25088) (s : State) : Out := s.live (s.tempAlarm tile)
/-- INJECT_REQUEST (08 R311, R312). -/
def execInjectRequest (c : Fin 98) (conv : Fin 16) (chans : List (Fin 17424)) (s : State) : Out := s.live (s.injectRequest c conv (chans.map (·.val)))
/-- INJECTED_SEQUENCE_START (08 R311, R312). -/
def execInjectedSequenceStart (c : Fin 98) (conv : Fin 16) (first : Fin 4096) (later : List (Fin 4096)) (s : State) : Out :=
  s.live (s.injectedStart c conv (first :: later))
/-- MONITOR_FAIL (08 R316, 17 R562, R563). -/
def execMonitorFail (c : Fin 98) (conv : Fin 16) (s : State) : Out := s.live (s.monitorFail c conv)
/-- MON_CAPTURE (08 R317). -/
def execMonCapture (p : Port) (value : BitVec 128) (s : State) : Out := s.live (s.portWrite p 0x4800 7 (leBytes 16 value.toNat))
/-- CAPTURE_START (08 R317). -/
def execCaptureStart (c : Fin 98) (s : State) : Out := s.live (s.captureStart c)
/-- CAPTURE_COMPLETE (08 R317). -/
def execCaptureComplete (c : Fin 98) (codes : List (Fin 4096)) (s : State) : Out := s.live (s.captureComplete c codes)

/-! ### The Carousel (08 R324 to R330) -/

/-- CAROUSEL_WINDOW (08 R324 to R326). -/
def execCarouselWindow (tile : Fin 25088) (s : State) : Out := s.live (s.carouselWindow tile)
/-- CALIBRATION_ABANDON (08 R330). -/
def execCalibrationAbandon (tile : Fin 25088) (s : State) : Out := s.live (s.calibrationAbandon tile)

end Sys2Proof.Machine
end

