-- ==== Sys2Proof/Machine/ExecStreams.lean ====
section
/-! DEFINITION. The meanings of the commands by which a port acts on regions, queues and streams, and of the memory paths (01 R36, 05 R166, R211, 06). -/

namespace Sys2Proof.Machine

/-! ### Regions and queues (01 R36, 05 R166, R167, R211) -/

/-- REGION_DEFINE (01 R36). -/
def execRegionDefine (p : Port) (r : Fin 256) (desc : BitVec 256) (s : State) : Out := s.live (s.portWrite p (0x1100 + r) 1 (leBytes 32 desc.toNat))
/-- REGION_DELETE (01 R36). -/
def execRegionDelete (p : Port) (r : Fin 256) (desc : BitVec 256) (s : State) : Out := s.live (s.portWrite p (0x1100 + r) 1 (leBytes 32 desc.toNat))
/-- QUEUE_DB (05 R166, R167, 11 R427). -/
def execQueueDb (tag : BitVec 12) (q : Fin 4) (value : BitVec 64) (s : State) : Out := s.live (s.hostCommand (hostHeader 5 tag.toNat 0 (0x1000 + 8 * q) 0 value.toNat))
/-- QUEUE_ABORT (05 R211). -/
def execQueueAbort (p : Port) (q : Fin 4) (s : State) : Out := s.live (s.portWrite p (0x1810 + q) 5 [1])

/-! ### Streams (06 R216 to R219, R246, R252, R255) -/

/-- STREAM_DESC_WRITE (06 R216). -/
def execStreamDescWrite (p : Port) (c : Fin 64) (desc : BitVec 512) (s : State) : Out := s.live (s.portWrite p (0x2100 + c) 1 (leBytes 64 desc.toNat))
/-- STAGING_START (06 R217). -/
def execStagingStart (p : Port) (c : Fin 64) (s : State) : Out := s.live (s.portWrite p (0x2100 + c) 6 [1])
/-- MEMORY_COMPLETION (06 R219, R238, R240, R241). -/
def execMemoryCompletion (c : Completed) (s : State) : Out := s.live (s.memoryCompletion c.ctx c.corrected)
/-- MEMORY_ERROR (06 R241, R255). -/
def execMemoryError (w : ErrAt) (s : State) : Out :=
  s.live (match w with
    | .stream c => s.memoryError c
    | .staging g => s.stagingBad g)
/-- RESUME_DB (06 R252, 11 Host link table 6). -/
def execResumeDb (tag : BitVec 12) (c : Fin 64) (value : BitVec 64) (s : State) : Out := s.live (s.hostCommand (hostHeader 5 tag.toNat 0 (0x1100 + 8 * c) 0 value.toNat))
/-- XLAT_INVALIDATE (06 R246). -/
def execXlatInvalidate (p : Port) (value : BitVec 64) (s : State) : Out := s.live (s.portWrite p 0x2400 3 (leBytes 8 value.toNat))

end Sys2Proof.Machine
end

