-- ==== Sys2Proof/Machine/ExecSystem.lean ====
section
/-! DEFINITION. The meanings of the commands of the firmware processors, reset and bring-up, power, and security (13 to 16, 18). -/

namespace Sys2Proof.Machine

/-- A restarted processor runs again; the accesses that waited for it are made, and for the Barker the frames held for it are
answered (12 R457, 13 R465, R473 to R477). -/
def State.procBack (s : State) (p : Nat) (warm : Bool) : State :=
  let s := s.procReturn p warm
  if ¬ s.runs p then s
  else
    let s := s.serveWaiting p
    if p = procBarker then s.serveHeld else s

/-- The write of 5000:0F, and the polls that follow with their answers (15 R535). -/
def State.clearAndPoll (s : State) (p : Port) (answers : List (Nat × VrAnswer)) : State :=
  answers.foldl (fun (s : State) (x : Nat × VrAnswer) => s.pmbusPoll (x.1 + 1) (some x.2)) (s.portWrite p 0x5000 0x0F [1])


/-! ### Firmware processors (13) -/

/-- WATCHDOG_EXPIRE (13 R467, R471, R472). -/
def execWatchdogExpire (p : Fin 102) (pc : BitVec 32) (s : State) : Out := s.live (s.requestProc p 1 pc.toNat)
/-- PROCESSOR_EXCEPTION (13 R467, R471, R472). -/
def execProcessorException (p : Fin 102) (pc : BitVec 32) (s : State) : Out := s.live (s.requestProc p 2 pc.toNat)
/-- FW_RESTART_REQUEST (13 R468). -/
def execFwRestartRequest (port : Port) (p : BitVec 8) (s : State) : Out := s.live (s.portWrite port 0x6000 0x0A (leBytes 1 p.toNat))
/-- PROCESSOR_RETURN (13 R473 to R477). -/
def execProcessorReturn (p : Fin 102) (warm : Bool) (s : State) : Out := s.live (s.procBack p warm)
/-- DICT_WAIT_TIMEOUT (13 R465). -/
def execDictWaitTimeout (s : State) : Out := s.live s.waitTimeout
/-- FW_COMMIT (13 R480, R481). -/
def execFwCommit (p : Port) (value : BitVec 128) (s : State) : Out := s.live (s.portWrite p 0x6000 3 (leBytes 16 value.toNat))
/-- COMMIT_VERIFIED (13 R480, 16 R539). -/
def execCommitVerified (s : State) : Out := s.live s.commitVerified
/-- COMMIT_WRITTEN (13 R480). -/
def execCommitWritten (s : State) : Out := s.live s.commitWritten
/-- FW_ACTIVATE (13 R482, R483). -/
def execFwActivate (p : Port) (value : BitVec 32) (s : State) : Out := s.live (s.portWrite p 0x6000 6 (leBytes 4 value.toNat))
/-- ACTIVATION_SWITCH (13 R482, R486, R488). -/
def execActivationSwitch (good : Bool) (unreadable : List (BitVec 24)) (s : State) : Out := s.live (s.activationSwitch good (unreadable.map (·.toNat)))
/-- DEBUG_RELEASE (13 R470). -/
def execDebugRelease (s : State) : Out := s.live s.debugRelease

/-! ### Reset and bring-up (14) -/

/-- SUPPLY_MONITOR (14 R492). -/
def execSupplyMonitor (rail : Fin 8) (below : Bool) (s : State) : Out := .next (s.supplyMonitor rail below)
/-- PWR_GOOD_LOW (14 R492, 18 R578). -/
def execPwrGoodLow (low : Bool) (s : State) : Out := .next (s.pwrGoodLow low)
/-- RST_N_PULSE (14 R493). -/
def execRstNPulse (cycles : Nat) (honoured : Bool) (s : State) : Out := .next (s.rstNPulse cycles honoured)
/-- RESET_RELEASE (14 R492, R498). -/
def execResetRelease (s : State) : Out := .next s.resetRelease
/-- BRINGUP_STEP (14 R509 to R511). -/
def execBringupStep (o : StepOutcome) (s : State) : Out := s.live (s.bringupStep o)
/-- BOOT_LOAD (14 R506). -/
def execBootLoad (p : Port) (value : BitVec 128) (s : State) : Out := s.live (s.portWrite p 0x5800 0x0A (leBytes 16 value.toNat))
/-- WARM_RESET_REQUEST (14 R496). -/
def execWarmResetRequest (p : Port) (s : State) : Out := s.live (s.portWrite p 0x5800 1 [1])
/-- BLOCK_RESET_REQUEST (14 R496). -/
def execBlockResetRequest (p : Port) (s : State) : Out := s.live (s.portWrite p 0x5800 1 [2])
/-- BLOCK_RESET_ASSERT (14 R499). -/
def execBlockResetAssert (kind num : BitVec 8) (s : State) : Out := s.live (s.blockAssert kind.toNat num.toNat)
/-- BLOCK_RESET_RELEASE (14 R499). -/
def execBlockResetRelease (kind num : BitVec 8) (s : State) : Out := s.live ((s.blockRelease kind.toNat num.toNat).hostResume s.hl.held.length)
/-- SECURITY_VIOLATION (16 R548). -/
def execSecurityViolation (s : State) : Out := .next s.violation

/-! ### Power and thermal (15, 18) -/

/-- DEEP_STANDBY_REQUEST (15 R518, R519). -/
def execDeepStandbyRequest (p : Port) (s : State) : Out := s.live (s.portWrite p 0x5000 2 [1])
/-- STANDBY_REQUEST (15 R518, R521). -/
def execStandbyRequest (p : Port) (s : State) : Out := s.live (s.portWrite p 0x5000 2 [2])
/-- WAKE (15 R519, R520). -/
def execWake (frame : Bool) (s : State) : Out := .next (s.wake frame)
/-- CLUSTER_SLEEP (15 R522). -/
def execClusterSleep (c : Fin 98) (s : State) : Out := s.live (s.clusterSleep c)
/-- CLUSTER_WAKE (15 R524). -/
def execClusterWake (c : Fin 98) (s : State) : Out := s.live (s.clusterWake c)
/-- CLUSTER_AWAKE (15 R524). -/
def execClusterAwake (c : Fin 98) (s : State) : Out := s.live (s.clusterAwake c)
/-- WAKE_LOCK_TIMEOUT (15 R525). -/
def execWakeLockTimeout (tile : Fin 25088) (p : Fin 33) (s : State) : Out := s.live (s.wakeLockTimeout tile p)
/-- POWER_ESTIMATE (15 R526, R528). -/
def execPowerEstimate (watts : BitVec 32) (s : State) : Out := s.live (s.powerEstimate watts.toNat)
/-- LADDER_RISE (15 R528, Power table 7). -/
def execLadderRise (dram : Bool) (reading : BitVec 32) (s : State) : Out := s.live (s.ladderRise dram reading.toNat)
/-- LADDER_FALL (15 R528). -/
def execLadderFall (s : State) : Out := s.live s.ladderFall
/-- VR_ALERT (15 R530). -/
def execVrAlert (s : State) : Out := .next s.vrAlertLow
/-- VR_ALERT_RELEASE (15 R530). -/
def execVrAlertRelease (s : State) : Out := .next s.vrAlertHigh
/-- EMERGENCY_NORMAL (15 R531). -/
def execEmergencyNormal (s : State) : Out := s.live s.emergencyNormal
/-- THERMAL_TRIP (15 R532). -/
def execThermalTrip (s : State) : Out := .next s.thermalTrip
/-- THERMAL_TRIP_RELEASE (15 R532). -/
def execThermalTripRelease (s : State) : Out := .next s.thermalTripRelease
/-- PMBUS_POLL (15 R533, R535). -/
def execPmbusPoll (rail : Fin 8) (answer : Option VrAnswer) (s : State) : Out := s.live (s.pmbusPoll (rail + 1) answer)
/-- VR_FAULT_CLEAR (15 R535). -/
def execVrFaultClear (p : Port) (answers : List (Fin 8 × VrAnswer)) (s : State) : Out := s.live (s.clearAndPoll p (answers.map (fun x => (x.1.val, x.2))))
/-- REFERENCE_CLOCK_LOSS (18 R582). -/
def execReferenceClockLoss (s : State) : Out := .next (s.reference true)
/-- REFERENCE_CLOCK_RETURN (18 R582). -/
def execReferenceClockReturn (s : State) : Out := .next (s.reference false)

/-! ### Security (16) -/

/-- FLOOR_RAISE (16 R542). -/
def execFloorRaise (p : Port) (value : BitVec 32) (s : State) : Out := s.live (s.portWrite p 0x6800 6 (leBytes 4 value.toNat))
/-- REVOKE_SLOT (16 R544, R545). -/
def execRevokeSlot (p : Port) (cmd : BitVec 1280) (s : State) : Out := s.live (s.portWrite p 0x6800 8 (leBytes 160 cmd.toNat))
/-- RAISE_OTP_FLOOR (16 R544, R545). -/
def execRaiseOtpFloor (p : Port) (cmd : BitVec 1280) (s : State) : Out := s.live (s.portWrite p 0x6800 8 (leBytes 160 cmd.toNat))
/-- RAISE_DEBUG_LOCK (16 R544, R545). -/
def execRaiseDebugLock (p : Port) (cmd : BitVec 1280) (s : State) : Out := s.live (s.portWrite p 0x6800 8 (leBytes 160 cmd.toNat))
/-- DEBUG_UNLOCK (16 R544, R547). -/
def execDebugUnlock (p : Port) (cmd : BitVec 1280) (s : State) : Out := s.live (s.portWrite p 0x6800 8 (leBytes 160 cmd.toNat))
/-- ATTEST_REQUEST (16 R549, R550). -/
def execAttestRequest (p : Port) (nonce : BitVec 256) (s : State) : Out := s.live (s.portWrite p 0x6800 0x10 (leBytes 32 nonce.toNat))
/-- ATTEST_READY (16 R549, R551). -/
def execAttestReady (s : State) : Out := s.live s.attestReady

end Sys2Proof.Machine
end

