-- ==== Sys2Proof/Machine/Dispatch.lean ====
section
/-! DEFINITION. The dispatch: each command is given its meaning by one call. -/

namespace Sys2Proof.Machine

def exec (i : Instr) (s : State) : Host.Outcome State Fault Refusal :=
  match i with
  | .regionDefine p r desc => Sys2Proof.Machine.execRegionDefine p r desc s
  | .regionDelete p r desc => Sys2Proof.Machine.execRegionDelete p r desc s
  | .queueDb tag q value => Sys2Proof.Machine.execQueueDb tag q value s
  | .queueAbort p q => Sys2Proof.Machine.execQueueAbort p q s
  | .mvm q => Sys2Proof.Machine.execMvm q s
  | .mvg q => Sys2Proof.Machine.execMvg q s
  | .ldwCopy q => Sys2Proof.Machine.execLdwCopy q s
  | .ldwAdopt q => Sys2Proof.Machine.execLdwAdopt q s
  | .kap q => Sys2Proof.Machine.execKap q s
  | .nrm q => Sys2Proof.Machine.execNrm q s
  | .smx q => Sys2Proof.Machine.execSmx q s
  | .actRead q => Sys2Proof.Machine.execActRead q s
  | .actWrite q => Sys2Proof.Machine.execActWrite q s
  | .actAdd q => Sys2Proof.Machine.execActAdd q s
  | .actSave q => Sys2Proof.Machine.execActSave q s
  | .actRestore q => Sys2Proof.Machine.execActRestore q s
  | .actRelease q => Sys2Proof.Machine.execActRelease q s
  | .xfr q => Sys2Proof.Machine.execXfr q s
  | .wtk q => Sys2Proof.Machine.execWtk q s
  | .spb q => Sys2Proof.Machine.execSpb q s
  | .spc q => Sys2Proof.Machine.execSpc q s
  | .spq q => Sys2Proof.Machine.execSpq q s
  | .fnc q => Sys2Proof.Machine.execFnc q s
  | .opDepsComplete q slot => Sys2Proof.Machine.execOpDepsComplete q slot s
  | .streamArm q slot => Sys2Proof.Machine.execStreamArm q slot s
  | .opStart q slot => Sys2Proof.Machine.execOpStart q slot s
  | .pass readings => Sys2Proof.Machine.execPass readings s
  | .ambiguousInteger tile => Sys2Proof.Machine.execAmbiguousInteger tile s
  | .columnMapChange tile => Sys2Proof.Machine.execColumnMapChange tile s
  | .passRepeat readings => Sys2Proof.Machine.execPassRepeat readings s
  | .opContribution => Sys2Proof.Machine.execOpContribution s
  | .drainStart => Sys2Proof.Machine.execDrainStart s
  | .drainComplete => Sys2Proof.Machine.execDrainComplete s
  | .preempt => Sys2Proof.Machine.execPreempt s
  | .stallPreempt => Sys2Proof.Machine.execStallPreempt s
  | .suspend => Sys2Proof.Machine.execSuspend s
  | .preemptedResume => Sys2Proof.Machine.execPreemptedResume s
  | .thermalPause => Sys2Proof.Machine.execThermalPause s
  | .thermalPauseEnd => Sys2Proof.Machine.execThermalPauseEnd s
  | .pauseAlarm => Sys2Proof.Machine.execPauseAlarm s
  | .opRetire q => Sys2Proof.Machine.execOpRetire q s
  | .epochRetire e => Sys2Proof.Machine.execEpochRetire e s
  | .peerEpochTimeout source stamp => Sys2Proof.Machine.execPeerEpochTimeout source stamp s
  | .ldwStart q slot => Sys2Proof.Machine.execLdwStart q slot s
  | .ldwComplete q slot => Sys2Proof.Machine.execLdwComplete q slot s
  | .kapStart q slot => Sys2Proof.Machine.execKapStart q slot s
  | .kapComplete q slot => Sys2Proof.Machine.execKapComplete q slot s
  | .refresh r => Sys2Proof.Machine.execRefresh r s
  | .mirrorUncorrectable r granule => Sys2Proof.Machine.execMirrorUncorrectable r granule s
  | .graceEnd r => Sys2Proof.Machine.execGraceEnd r s
  | .digestComplete => Sys2Proof.Machine.execDigestComplete s
  | .clusterRingRewrite c => Sys2Proof.Machine.execClusterRingRewrite c s
  | .stackResetOverrun k => Sys2Proof.Machine.execStackResetOverrun k s
  | .streamDescWrite p c desc => Sys2Proof.Machine.execStreamDescWrite p c desc s
  | .stagingStart p c => Sys2Proof.Machine.execStagingStart p c s
  | .memoryCompletion c => Sys2Proof.Machine.execMemoryCompletion c s
  | .memoryError w => Sys2Proof.Machine.execMemoryError w s
  | .streamHalt c => Sys2Proof.Machine.execStreamHalt c s
  | .resumeDb tag c value => Sys2Proof.Machine.execResumeDb tag c value s
  | .standstill => Sys2Proof.Machine.execStandstill s
  | .xlatInvalidate p value => Sys2Proof.Machine.execXlatInvalidate p value s
  | .patrolScrub granule outcome => Sys2Proof.Machine.execPatrolScrub granule outcome s
  | .stackFail k => Sys2Proof.Machine.execStackFail k s
  | .loopUpdate tile rs fit => Sys2Proof.Machine.execLoopUpdate tile rs fit s
  | .outerUpdate tile => Sys2Proof.Machine.execOuterUpdate tile s
  | .loopLock tile p => Sys2Proof.Machine.execLoopLock tile p s
  | .pilotDeadlineLoss tile p => Sys2Proof.Machine.execPilotDeadlineLoss tile p s
  | .plausibilityFail tile => Sys2Proof.Machine.execPlausibilityFail tile s
  | .pilotComparatorFlag tile p lit => Sys2Proof.Machine.execPilotComparatorFlag tile p lit s
  | .sweepEnd tile p => Sys2Proof.Machine.execSweepEnd tile p s
  | .lineIdentityCheck tile p codes => Sys2Proof.Machine.execLineIdentityCheck tile p codes s
  | .checkForceInsert tile p => Sys2Proof.Machine.execCheckForceInsert tile p s
  | .clusterLoopsStop p c => Sys2Proof.Machine.execClusterLoopsStop p c s
  | .clusterLoopsRestart p c => Sys2Proof.Machine.execClusterLoopsRestart p c s
  | .lowRateEntry c => Sys2Proof.Machine.execLowRateEntry c s
  | .lowRateExit c => Sys2Proof.Machine.execLowRateExit c s
  | .pumpFail link => Sys2Proof.Machine.execPumpFail link s
  | .combReturn link => Sys2Proof.Machine.execCombReturn link s
  | .combReturnTimeout link => Sys2Proof.Machine.execCombReturnTimeout link s
  | .heaterShort tile h => Sys2Proof.Machine.execHeaterShort tile h s
  | .heaterOpen tile h => Sys2Proof.Machine.execHeaterOpen tile h s
  | .tempAlarm tile => Sys2Proof.Machine.execTempAlarm tile s
  | .injectRequest c conv chans => Sys2Proof.Machine.execInjectRequest c conv chans s
  | .injectedSequenceStart c conv first later => Sys2Proof.Machine.execInjectedSequenceStart c conv first later s
  | .monitorFail c conv => Sys2Proof.Machine.execMonitorFail c conv s
  | .monCapture p value => Sys2Proof.Machine.execMonCapture p value s
  | .captureStart c => Sys2Proof.Machine.execCaptureStart c s
  | .carouselWindow tile => Sys2Proof.Machine.execCarouselWindow tile s
  | .calibrationAbandon tile => Sys2Proof.Machine.execCalibrationAbandon tile s
  | .marginTestRound => Sys2Proof.Machine.execMarginTestRound s
  | .lanePass lane bits eyes => Sys2Proof.Machine.execLanePass lane bits eyes s
  | .laneFrame lane word => Sys2Proof.Machine.execLaneFrame lane word s
  | .marginWaitExpire => Sys2Proof.Machine.execMarginWaitExpire s
  | .slotSchedule fiber slot => Sys2Proof.Machine.execSlotSchedule fiber slot s
  | .laneKeepalive lane slot => Sys2Proof.Machine.execLaneKeepalive lane slot s
  | .wr w => Sys2Proof.Machine.execWr w s
  | .rdq w => Sys2Proof.Machine.execRdq w s
  | .rdr w => Sys2Proof.Machine.execRdr w s
  | .ack w => Sys2Proof.Machine.execAck w s
  | .nak w => Sys2Proof.Machine.execNak w s
  | .dbl w => Sys2Proof.Machine.execDbl w s
  | .epc w => Sys2Proof.Machine.execEpc w s
  | .epq w => Sys2Proof.Machine.execEpq w s
  | .epa w => Sys2Proof.Machine.execEpa w s
  | .lctl w => Sys2Proof.Machine.execLctl w s
  | .forward w cut => Sys2Proof.Machine.execForward w cut s
  | .replayTimeout lane => Sys2Proof.Machine.execReplayTimeout lane s
  | .laneSilenceTimeout lane => Sys2Proof.Machine.execLaneSilenceTimeout lane s
  | .laneRetire lane inbound => Sys2Proof.Machine.execLaneRetire lane inbound s
  | .packetAged => Sys2Proof.Machine.execPacketAged s
  | .xfrTimeout tag => Sys2Proof.Machine.execXfrTimeout tag s
  | .doorbellSend p value => Sys2Proof.Machine.execDoorbellSend p value s
  | .fabricStop p => Sys2Proof.Machine.execFabricStop p s
  | .fabricRestart p => Sys2Proof.Machine.execFabricRestart p s
  | .cascadeStop p => Sys2Proof.Machine.execCascadeStop p s
  | .cascadeRestart p => Sys2Proof.Machine.execCascadeRestart p s
  | .probeSend => Sys2Proof.Machine.execProbeSend s
  | .memberLossTimeout m => Sys2Proof.Machine.execMemberLossTimeout m s
  | .linkFrame decoded ctl req rsp => Sys2Proof.Machine.execLinkFrame decoded ctl req rsp s
  | .linkReplayTimeout => Sys2Proof.Machine.execLinkReplayTimeout s
  | .laneLockLoss lane => Sys2Proof.Machine.execLaneLockLoss lane s
  | .linkUp => Sys2Proof.Machine.execLinkUp s
  | .prd h => Sys2Proof.Machine.execPrd h s
  | .pwr h data => Sys2Proof.Machine.execPwr h data s
  | .mrd h => Sys2Proof.Machine.execMrd h s
  | .mwr h data => Sys2Proof.Machine.execMwr h data s
  | .cpl h data => Sys2Proof.Machine.execCpl h data s
  | .cplTimeout tag => Sys2Proof.Machine.execCplTimeout tag s
  | .evt => Sys2Proof.Machine.execEvt s
  | .evtHead tag value => Sys2Proof.Machine.execEvtHead tag value s
  | .hostLevel p level => Sys2Proof.Machine.execHostLevel p level s
  | .sessionClose tag value => Sys2Proof.Machine.execSessionClose tag value s
  | .deviceResetMessage => Sys2Proof.Machine.execDeviceResetMessage s
  | .processorResetMessage => Sys2Proof.Machine.execProcessorResetMessage s
  | .objectWrite p index sub data => Sys2Proof.Machine.execObjectWrite p index sub data s
  | .nvCommit index sub => Sys2Proof.Machine.execNvCommit index sub s
  | .dirEntry p => Sys2Proof.Machine.execDirEntry p s
  | .logEntry p => Sys2Proof.Machine.execLogEntry p s
  | .counterClear p n => Sys2Proof.Machine.execCounterClear p n s
  | .clearAll p => Sys2Proof.Machine.execClearAll p s
  | .basinStop p => Sys2Proof.Machine.execBasinStop p s
  | .basinRestart p => Sys2Proof.Machine.execBasinRestart p s
  | .fpEnable p => Sys2Proof.Machine.execFpEnable p s
  | .fpDisable p => Sys2Proof.Machine.execFpDisable p s
  | .fbSilentAssert => Sys2Proof.Machine.execFbSilentAssert s
  | .fbSilentRelease => Sys2Proof.Machine.execFbSilentRelease s
  | .read id payload => Sys2Proof.Machine.execRead id payload s
  | .write id payload => Sys2Proof.Machine.execWrite id payload s
  | .segInit id payload => Sys2Proof.Machine.execSegInit id payload s
  | .segment id payload => Sys2Proof.Machine.execSegment id payload s
  | .segAck id payload => Sys2Proof.Machine.execSegAck id payload s
  | .abort id payload => Sys2Proof.Machine.execAbort id payload s
  | .segTimeout => Sys2Proof.Machine.execSegTimeout s
  | .reset id payload => Sys2Proof.Machine.execReset id payload s
  | .fpResetExecute => Sys2Proof.Machine.execFpResetExecute s
  | .frameTransmit outcome => Sys2Proof.Machine.execFrameTransmit outcome s
  | .tokenRefill => Sys2Proof.Machine.execTokenRefill s
  | .busOff => Sys2Proof.Machine.execBusOff s
  | .flagLimit flags => Sys2Proof.Machine.execFlagLimit flags s
  | .watchdogExpire p pc => Sys2Proof.Machine.execWatchdogExpire p pc s
  | .processorException p pc => Sys2Proof.Machine.execProcessorException p pc s
  | .fwRestartRequest port p => Sys2Proof.Machine.execFwRestartRequest port p s
  | .processorReturn p warm => Sys2Proof.Machine.execProcessorReturn p warm s
  | .dictWaitTimeout => Sys2Proof.Machine.execDictWaitTimeout s
  | .fwCommit p value => Sys2Proof.Machine.execFwCommit p value s
  | .commitVerified => Sys2Proof.Machine.execCommitVerified s
  | .commitWritten => Sys2Proof.Machine.execCommitWritten s
  | .fwActivate p value => Sys2Proof.Machine.execFwActivate p value s
  | .activationSwitch good unreadable => Sys2Proof.Machine.execActivationSwitch good unreadable s
  | .supplyMonitor rail below => Sys2Proof.Machine.execSupplyMonitor rail below s
  | .pwrGoodLow low => Sys2Proof.Machine.execPwrGoodLow low s
  | .rstNPulse cycles honoured => Sys2Proof.Machine.execRstNPulse cycles honoured s
  | .resetRelease => Sys2Proof.Machine.execResetRelease s
  | .bringupStep o => Sys2Proof.Machine.execBringupStep o s
  | .bootLoad p value => Sys2Proof.Machine.execBootLoad p value s
  | .warmResetRequest p => Sys2Proof.Machine.execWarmResetRequest p s
  | .blockResetRequest p => Sys2Proof.Machine.execBlockResetRequest p s
  | .blockResetAssert kind num => Sys2Proof.Machine.execBlockResetAssert kind num s
  | .blockResetRelease kind num => Sys2Proof.Machine.execBlockResetRelease kind num s
  | .securityViolation => Sys2Proof.Machine.execSecurityViolation s
  | .deepStandbyRequest p => Sys2Proof.Machine.execDeepStandbyRequest p s
  | .standbyRequest p => Sys2Proof.Machine.execStandbyRequest p s
  | .wake frame => Sys2Proof.Machine.execWake frame s
  | .clusterSleep c => Sys2Proof.Machine.execClusterSleep c s
  | .clusterWake c => Sys2Proof.Machine.execClusterWake c s
  | .clusterAwake c => Sys2Proof.Machine.execClusterAwake c s
  | .wakeLockTimeout tile p => Sys2Proof.Machine.execWakeLockTimeout tile p s
  | .powerEstimate watts => Sys2Proof.Machine.execPowerEstimate watts s
  | .ladderRise dram reading => Sys2Proof.Machine.execLadderRise dram reading s
  | .ladderFall => Sys2Proof.Machine.execLadderFall s
  | .vrAlert => Sys2Proof.Machine.execVrAlert s
  | .emergencyNormal => Sys2Proof.Machine.execEmergencyNormal s
  | .thermalTrip => Sys2Proof.Machine.execThermalTrip s
  | .thermalTripRelease => Sys2Proof.Machine.execThermalTripRelease s
  | .pmbusPoll rail answer => Sys2Proof.Machine.execPmbusPoll rail answer s
  | .vrFaultClear p answers => Sys2Proof.Machine.execVrFaultClear p answers s
  | .floorRaise p value => Sys2Proof.Machine.execFloorRaise p value s
  | .revokeSlot p cmd => Sys2Proof.Machine.execRevokeSlot p cmd s
  | .raiseOtpFloor p cmd => Sys2Proof.Machine.execRaiseOtpFloor p cmd s
  | .raiseDebugLock p cmd => Sys2Proof.Machine.execRaiseDebugLock p cmd s
  | .debugUnlock p cmd => Sys2Proof.Machine.execDebugUnlock p cmd s
  | .attestRequest p nonce => Sys2Proof.Machine.execAttestRequest p nonce s
  | .attestReady => Sys2Proof.Machine.execAttestReady s
  | .smxComplete => Sys2Proof.Machine.execSmxComplete s
  | .captureComplete c codes => Sys2Proof.Machine.execCaptureComplete c codes s
  | .codewordLock lane => Sys2Proof.Machine.execCodewordLock lane s
  | .referenceClockLoss => Sys2Proof.Machine.execReferenceClockLoss s
  | .referenceClockReturn => Sys2Proof.Machine.execReferenceClockReturn s
  | .vrAlertRelease => Sys2Proof.Machine.execVrAlertRelease s
  | .epochMessageTimeout e => Sys2Proof.Machine.execEpochMessageTimeout e s
  | .busOffRecovery => Sys2Proof.Machine.execBusOffRecovery s
  | .busIdleDetect => Sys2Proof.Machine.execBusIdleDetect s
  | .debugRelease => Sys2Proof.Machine.execDebugRelease s
  | .combOvertemperature link => Sys2Proof.Machine.execCombOvertemperature link s

end Sys2Proof.Machine
end

