-- ==== Sys2Proof/Safety.lean ====
section
/-! DEFINITION. What counts as a sound state and a safe step, and the conditions under which requests are served: the words in
which claims are stated. -/

namespace Sys2Proof.Machine

/-- Device memory is in canonical form: addresses strictly rising, and no listed byte reads as an unlisted one does. -/
def Mem.wf (m : Mem) : Bool := mwf (0 : Byte) m.bytes

/-- The step from a state goes on. -/
def Safe (s : State) : Prop := ∃ t, step s = .next t

/-- The device runs: no cold or warm reset is asserted (14 R491) and the power state is Run (15 Power table 2). -/
def Running (s : State) : Prop := s.dark = false ∧ s.pwr.state = 3

/-- The Barker serves a request that comes by a port, and its answer has room: the link is Up and no request waits before it, or
the field port is Active (11 R428, 12 R450, R457). -/
def Reaches (p : Port) (s : State) : Prop :=
  Running s ∧ s.runs procBarker = true ∧ s.rst.fpRecovery = false ∧
    match p with
    | .host _ => s.hl.state = .up ∧ s.hl.held = []
    | .field _ _ _ => s.fp.state = .active ∧ s.fp.rsp.length < 32

/-- A write by a port is decided by the Barker: it reaches it, and on the field port writes are not inhibited (12 R456). -/
def Writes (p : Port) (s : State) : Prop := Reaches p s ∧ (isField p = true → s.winh = false)

/-- Events that act on a device that is Dark or in Standby too: pins, supplies, trips and what ends a reset or wakes the device
(14 R491, R492, 15 R519, R530, R532, 16 R548, 18 R582). -/
def actsInTheDark : Instr → Bool
  | .fbSilentAssert => true
  | .fbSilentRelease => true
  | .supplyMonitor _ _ => true
  | .pwrGoodLow _ => true
  | .rstNPulse _ _ => true
  | .resetRelease => true
  | .securityViolation => true
  | .wake _ => true
  | .vrAlert => true
  | .vrAlertRelease => true
  | .thermalTrip => true
  | .thermalTripRelease => true
  | .referenceClockLoss => true
  | .referenceClockReturn => true
  | _ => false

end Sys2Proof.Machine
end

