-- ==== Sys2Proof/Certificates/Slice0/Obligations.lean ====
section
/-! DEFINITION. The statements for the provers. -/

set_option linter.unusedVariables false

open Sys2Proof Sys2Proof.Machine

/-- A step takes the command at the front of the queue and runs it with the rest of the queue (00_scope.md, 95_what_each_step_holds.md). -/
def Obligations.FrontCommandRunsFirst : Prop :=
  ∀ (s : State) (c : Instr) (rest : List Instr), s.pending = c :: rest →
    step s = exec c { s with pending := rest }

/-- With no command waiting, a device that is Dark or in Standby only lets one engine cycle pass (log 1) (14_reset_bringup.md, 15_power_thermal.md, 12_object_dictionary.md). -/
def Obligations.EmptyQueueLetsTimePass : Prop :=
  (∀ s : State, s.pending = [] → ∃ t : State, step s = .next t) ∧
  (∀ s : State, s.pending = [] → (s.dark = true ∨ s.pwr.state ≠ 3) → step s = .next { s with time := s.time + 1 })

/-- Every command has an effect in every state: no command stops the block with a fault or a refusal (00_scope.md, 95_what_each_step_holds.md). -/
def Obligations.EveryCommandGoesOn : Prop :=
  (∀ (c : Instr) (s : State), ∃ t : State, exec c s = .next t) ∧ (∀ s : State, Safe s)

/-- No command changes the queue: what waits is taken in order, through resets too (00_scope.md, 14_reset_bringup.md). -/
def Obligations.CommandsKeepTheQueue : Prop :=
  (∀ (c : Instr) (s t : State), exec c s = .next t → t.pending = s.pending) ∧
  (∀ s t : State, step s = .next t → t.pending = s.pending.tail)

/-- Device memory after reset is in canonical form (06_streams_memory.md, 14_reset_bringup.md). -/
def Obligations.ResetMemoryIsCanonical : Prop :=
  State.reset.mem.wf = true ∧ State.reset.mem.bytes = []

/-- Every step keeps device memory in canonical form (06_streams_memory.md, 14_reset_bringup.md). -/
def Obligations.StepsKeepMemoryCanonical : Prop :=
  ∀ s t : State, s.mem.wf = true → step s = .next t → t.mem.wf = true

/-- What the device is right after reset (14_reset_bringup.md, 11_host_link.md, 12_object_dictionary.md, 15_power_thermal.md, 09_fabric.md, 10_cascades.md, 05_operations.md, 06_streams_memory.md). -/
def Obligations.ResetLeavesTheFirstBringupStep : Prop :=
  State.reset.dark = false ∧ State.reset.rst.step = 1 ∧ State.reset.pwr.state = 3 ∧ State.reset.time = 0 ∧
  State.reset.hl.state = .down ∧ State.reset.hl.session = false ∧ State.reset.fp.state = .silent ∧
  State.reset.fab.state = .stopped ∧ State.reset.casc.state = .stopped ∧
  State.reset.light.compute = .dark ∧ State.reset.light.link = .dark ∧ State.reset.basin.state = .stopped ∧
  (∀ r, (State.reset.region r).valid = false ∧ (State.reset.region r).st = .empty) ∧
  State.reset.ops = [] ∧ (∀ q, (State.reset.queue q).submitted = 0 ∧ (State.reset.queue q).done = 0) ∧
  (∀ c, (State.reset.ctx c).st = .idle) ∧ (∀ e, (State.reset.epoch e).st = .closed) ∧
  (∀ n, State.reset.token n = 0) ∧ State.reset.flt.counters = [] ∧ State.reset.pending = []

/-- A device that is Dark or in Standby ignores every command but the events of pins, supplies, trips and wakes (14_reset_bringup.md, 15_power_thermal.md). -/
def Obligations.DarkDeviceIgnoresCommands : Prop :=
  ∀ (c : Instr) (s : State), (s.dark = true ∨ s.pwr.state ≠ 3) → actsInTheDark c = false → exec c s = .next s

/-- An answer to a request of the host is one CPL with the request's tag and the status of Host link table 4 (11_host_link.md, 12_object_dictionary.md). -/
def Obligations.AnswersOnTheHostLink : Prop :=
  ∀ (s : State) (tag index sub : Nat),
    (s.hl.state = .up →
      (∀ d, s.answer (.host tag) index sub (.ok d) =
        { s with hl := { s.hl with tx := s.hl.tx ++ [.cpl tag 0 0 d], sentRsp := s.hl.sentRsp + flits d.length } }) ∧
      s.answer (.host tag) index sub .okIgnored =
        { s with hl := { s.hl with tx := s.hl.tx ++ [.cpl tag 0 1 []], sentRsp := s.hl.sentRsp + 1 } } ∧
      (∀ c k, c < 256 → k < 256 → s.answer (.host tag) index sub (.err c k) =
        { s with hl := { s.hl with tx := s.hl.tx ++ [.cpl tag 1 (c + 256 * k) []], sentRsp := s.hl.sentRsp + 1 } }) ∧
      s.answer (.host tag) index sub .retry =
        { s with hl := { s.hl with tx := s.hl.tx ++ [.cpl tag 2 0 []], sentRsp := s.hl.sentRsp + 1 } } ∧
      (∀ r, s.answer (.host tag) index sub (.refused r) =
        { s with hl := { s.hl with refusal := r, tx := s.hl.tx ++ [.cpl tag 3 r []], sentRsp := s.hl.sentRsp + 1 } })) ∧
    (s.hl.state ≠ .up → ∀ d, s.answer (.host tag) index sub (.ok d) = s)

/-- An answer to a field-port request is one response frame with the 8-byte header, in the order of arrival (12_object_dictionary.md). -/
def Obligations.AnswersOnTheFieldPort : Prop :=
  ∀ (s : State) (node tid service index sub : Nat), service = 2 ∨ service = 4 →
    (s.fp.rsp.length < 32 →
      (∀ d, d.length ≤ 56 → s.answer (.field node tid service) index sub (.ok d) = { s with fp := { s.fp with rsp := s.fp.rsp ++
        [{ service := service, node := node, bytes := [BitVec.ofNat 8 tid, 0, BitVec.ofNat 8 index, BitVec.ofNat 8 (index / 256),
            BitVec.ofNat 8 sub, BitVec.ofNat 8 d.length, 0, 0] ++ d }] } }) ∧
      (∀ d, service = 2 → 56 < d.length → s.answer (.field node tid service) index sub (.ok d) = { s with fp := { s.fp with rsp := s.fp.rsp ++
        [{ service := 2, node := node, bytes := [BitVec.ofNat 8 tid, 0x22, BitVec.ofNat 8 index, BitVec.ofNat 8 (index / 256),
            BitVec.ofNat 8 sub, 0, 0, 0] }] } }) ∧
      (∀ c k, s.answer (.field node tid service) index sub (.err c k) = { s with fp := { s.fp with rsp := s.fp.rsp ++
        [{ service := service, node := node, bytes := [BitVec.ofNat 8 tid, BitVec.ofNat 8 c, BitVec.ofNat 8 index,
            BitVec.ofNat 8 (index / 256), BitVec.ofNat 8 sub, 0, 0, BitVec.ofNat 8 k] }] } })) ∧
    (¬ s.fp.rsp.length < 32 → ∀ d, d.length ≤ 56 → s.answer (.field node tid service) index sub (.ok d) = s.count 0x30)

/-- A write of 0 clears a counter and its SAT flag, any other value is refused, and 7000:03 clears them all (R445). -/
def Obligations.CountersAreCleared : Prop :=
  ∀ (p : Port) (s : State), Writes p s → mwf 0 s.flt.counters = true →
    (∀ n : Fin 55, ∃ u : State, exec (.counterClear p n) s = .next (u.answer p (0x7100 + n) 1 (.ok [])) ∧
      mget 0 u.flt.counters n = 0 ∧ n.val ∉ u.flt.sats ∧ mget 0 (u.count n).flt.counters n = 1 ∧
      (∀ k, k ≠ n.val → mget 0 u.flt.counters k = mget 0 s.flt.counters k ∧ (k ∈ u.flt.sats ↔ k ∈ s.flt.sats)) ∧
      u = { s with flt := { s.flt with counters := u.flt.counters, sats := u.flt.sats } }) ∧
    (∀ (n : Fin 55) (v : BitVec 32), v ≠ 0 →
      exec (.objectWrite p (BitVec.ofNat 16 (0x7100 + n)) 1 (leBytes 4 v.toNat)) s = .next (s.answer p (0x7100 + n) 1 (.err errValue 0))) ∧
    ∃ u : State, exec (.clearAll p) s = .next (u.answer p 0x7000 3 (.ok [])) ∧
      (∀ n : Fin 55, mget 0 u.flt.counters n = 0 ∧ n.val ∉ u.flt.sats) ∧
      u = { s with flt := { s.flt with counters := u.flt.counters, sats := u.flt.sats } }

/-- A counter that reaches 0xFFFF_FFFF stays there and sets its SAT flag, without an event (R444). -/
def Obligations.CountersSaturate : Prop :=
  ∀ (s : State) (n k : Nat), mwf 0 s.flt.counters = true →
    mget 0 (s.count n k).flt.counters n = min (mget 0 s.flt.counters n + k) 0xFFFFFFFF ∧
    (n ∈ (s.count n k).flt.sats ↔ n ∈ s.flt.sats ∨ 0xFFFFFFFF ≤ mget 0 s.flt.counters n + k) ∧
    (∀ j, j ≠ n → mget 0 (s.count n k).flt.counters j = mget 0 s.flt.counters j ∧ (j ∈ (s.count n k).flt.sats ↔ j ∈ s.flt.sats)) ∧
    s.count n k = { s with flt := { s.flt with counters := (s.count n k).flt.counters, sats := (s.count n k).flt.sats } }

/-- An event is one numbered record, logged, queued for the host, and queued on an enabled field port (12_object_dictionary.md, 11_host_link.md). -/
def Obligations.EventsAreRecordedAndDelivered : Prop :=
  ∀ (s : State) (kind severity code payload : Nat), ∃ e : EventRec,
    e = { kind := kind, severity := severity, code := code, seq := (s.dict.seq + 1) % 2 ^ 32, time := s.time, payload := payload } ∧
    let t := s.event kind severity code payload
    t.dict.seq = e.seq ∧ t.dict.log = (s.dict.log ++ [e]).drop (s.dict.log.length + 1 - 4096) ∧
    t.hl.evtQueue = (if s.hl.evtQueue.length < 256 then s.hl.evtQueue ++ [e] else s.hl.evtQueue) ∧
    t.fp.evt = (if s.obj 0x0500 0x0A ≤ severity ∧ (s.fp.state = .active ∨ s.fp.state = .pinned) ∧ (s.proc procBarker).state = .running ∧
      s.fp.evt.length < 64 then s.fp.evt ++ [e] else s.fp.evt) ∧
    t.fp.late = (if s.obj 0x0500 0x0A ≤ severity ∧ (s.fp.state = .active ∨ s.fp.state = .pinned) ∧ (s.proc procBarker).state ≠ .running
      then s.fp.late ++ [e] else s.fp.late) ∧
    (s.hl.evtQueue.length < 256 → s.fp.evt.length < 64 → t.flt = s.flt) ∧
    t = { s with dict := { s.dict with seq := t.dict.seq, log := t.dict.log }, hl := { s.hl with evtQueue := t.hl.evtQueue },
                 fp := { s.fp with evt := t.fp.evt, late := t.fp.late }, flt := { s.flt with counters := t.flt.counters, sats := t.flt.sats } }

/-- A write of a dictionary object stores its value, or is refused by the first check that fails and changes nothing (12_object_dictionary.md, 11_host_link.md). -/
def Obligations.ObjectWritesAreChecked : Prop :=
  (∀ (p : Port) (s : State), Writes p s →
    (∀ v : BitVec 32, 12000 ≤ v.toNat → v.toNat ≤ 1200000 → ∃ u : State,
      exec (.objectWrite p 0x0400 0x0B (leBytes 4 v.toNat)) s = .next (u.answer p 0x0400 0x0B (.ok [])) ∧
      u = { s with dict := { s.dict with objs := mset 60000 s.dict.objs 0x4000B v.toNat, nvDue := u.dict.nvDue } } ∧
      (0x4000B, s.time) ∈ u.dict.nvDue ∧ (∀ e, e.1 ≠ 0x4000B → (e ∈ u.dict.nvDue ↔ e ∈ s.dict.nvDue))) ∧
    (∀ v : BitVec 32, ¬ (12000 ≤ v.toNat ∧ v.toNat ≤ 1200000) →
      exec (.objectWrite p 0x0400 0x0B (leBytes 4 v.toNat)) s = .next (s.answer p 0x0400 0x0B (.err errValue 0))) ∧
    (∀ d, d.length ≠ 4 → exec (.objectWrite p 0x0400 0x0B d) s = .next (s.answer p 0x0400 0x0B (.err errValue 0))) ∧
    (∀ d, exec (.objectWrite p 0x0300 1 d) s = .next (s.answer p 0x0300 1 (.err errNoObject 0))) ∧
    (∀ d, exec (.objectWrite p 0x0400 2 d) s = .next (s.answer p 0x0400 2 (.err errAccess 0)))) ∧
  (∀ s : State, Running s → s.runs procBarker = true → (∃ w, (0x4000B, w) ∈ s.dict.nvDue) → ∃ u : State,
    exec (.nvCommit 0x0400 0x0B) s = .next u ∧
    u = { s with dict := { s.dict with nv := mset 60000 s.dict.nv 0x4000B (s.obj 0x0400 0x0B), nvDue := u.dict.nvDue } } ∧
    (∀ e, e ∈ u.dict.nvDue ↔ e ∈ s.dict.nvDue ∧ e.1 ≠ 0x4000B))

/-- A read of 7800:03 returns the held record at or after the cursor and moves the cursor past it (R448). -/
def Obligations.EventLogIsRead : Prop :=
  (∀ (p : Port) (s : State), Reaches p s →
    (∀ e ∈ s.dict.log, s.obj 0x7800 2 ≤ e.seq → (∀ f ∈ s.dict.log, s.obj 0x7800 2 ≤ f.seq → e.seq ≤ f.seq) →
      (∀ f ∈ s.dict.log, f.seq = e.seq → f = e) →
      exec (.logEntry p) s = .next (({ s with dict := { s.dict with objs := mset 0 s.dict.objs 0x780002 ((e.seq + 1) % 2 ^ 32) } }).answer p 0x7800 3 (.ok e.bytes))) ∧
    ((∀ e ∈ s.dict.log, e.seq < s.obj 0x7800 2) →
      exec (.logEntry p) s = .next (s.answer p 0x7800 3 (.ok (List.replicate 32 0))))) ∧
  (∀ (s : State) (kind severity code payload : Nat), s.dict.log.length ≤ 4096 →
    (s.event kind severity code payload).dict.log.length ≤ 4096) ∧
  (∀ (s : State) (level cause : Nat), s.dark = false → (s.assertReset level cause).dict.log = [])

/-- A read of 0000:03 returns the entry of the first object at or after the cursor and moves the cursor past it (R438). -/
def Obligations.DirectoryIsRead : Prop :=
  ∀ (p : Port) (s : State), Reaches p s →
    let at_ := 256 * bits (s.obj 0 2) 0 16 + bits (s.obj 0 2) 16 8
    (∀ i k, k < 256 → objExists i k = true → at_ ≤ 256 * i + k →
      (∀ j l, l < 256 → objExists j l = true → at_ ≤ 256 * j + l → 256 * i + k ≤ 256 * j + l) →
      exec (.dirEntry p) s = .next (({ s with dict := { s.dict with objs := mset 0 s.dict.objs 2 (i + 65536 * (k + 1)) } }).answer p 0 3
        (.ok (leBytes 16 (dirEntry i k))))) ∧
    ((∀ i k, k < 256 → objExists i k = true → 256 * i + k < at_) →
      exec (.dirEntry p) s = .next (s.answer p 0 3 (.ok (List.replicate 16 0xFF))))

/-- A region descriptor write defines or deletes one region, or is refused with the first reason of Basin table 4 and changes no region (01_basin.md). -/
def Obligations.RegionDescriptorsAreDefinedAndDeleted : Prop :=
  ∀ (p : Port) (r : Fin 256) (d : BitVec 256) (s : State), Writes p s →
    (d.getLsbD 0 = true → s.regionRefusal r d.toNat = none → (s.region r).st = .empty →
      exec (.regionDefine p r d) s = .next (({ s with regions := mset {} s.regions r ({ s.region r with
            valid := true, kind := bits d.toNat 2 2, format := bits d.toNat 4 2, tFirst := bits d.toNat 8 8, tLast := bits d.toNat 16 8,
            gFirst := bits d.toNat 24 7, gLast := bits d.toNat 32 7, mirrorBase := bits d.toNat 64 49,
            hwmC := 0, hwmP := 0, provAppends := [], kapLog := [],
            retiredColumns := s.retiredIn (bits d.toNat 8 8) (bits d.toNat 16 8) (bits d.toNat 24 7) (bits d.toNat 32 7) } : Region) }).answer
        p (0x1100 + r) 1 (.ok []))) ∧
    (d.getLsbD 0 = false → s.regionRefusal r d.toNat = none → (s.region r).valid = true →
      exec (.regionDelete p r d) s = .next (({ s with regions := mset {} s.regions r {}, digests := s.digests.filter (fun g => decide (g.region ≠ r.val)) }).answer p (0x1100 + r) 1 (.ok []))) ∧
    (∀ c, s.regionRefusal r d.toNat = some c →
      exec (.regionDefine p r d) s = .next (({ s with basin := { s.basin with refusal := r + 256 * c } }).answer p (0x1100 + r) 1 (.err errValue c)) ∧
      exec (.regionDelete p r d) s = .next (({ s with basin := { s.basin with refusal := r + 256 * c } }).answer p (0x1100 + r) 1 (.err errValue c)))

/-- A stream descriptor write needs an Idle context and a sound descriptor; a staging copy arms an Idle context of target 5; invalidation drops cached leaves (06_streams_memory.md). -/
def Obligations.StreamDescriptorsAndStagingCopies : Prop :=
  ∀ (p : Port) (c : Fin 64) (s : State), Writes p s →
    (∀ d : BitVec 512, (s.ctx c).st = .idle → streamFault d.toNat = none →
      exec (.streamDescWrite p c d) s = .next (({ s with ctxs := mset {} s.ctxs c { s.ctx c with desc := d.toNat, runs := 0 } }).answer
        p (0x2100 + c) 1 (.ok []))) ∧
    (∀ d : BitVec 512, (s.ctx c).st ≠ .idle →
      exec (.streamDescWrite p c d) s = .next (({ s with streamRefusal := c + 256 }).answer p (0x2100 + c) 1 (.err errValue 1))) ∧
    (∀ (d : BitVec 512) (r : Nat), (s.ctx c).st = .idle → streamFault d.toNat = some r →
      exec (.streamDescWrite p c d) s = .next (({ s with streamRefusal := c + 256 * r }).answer p (0x2100 + c) 1 (.err errValue r))) ∧
    ((s.ctx c).st = .idle → sTarget (s.ctx c).desc = 5 → sElem (s.ctx c).desc ≠ 0 →
      ∃ u : State, exec (.stagingStart p c) s = .next (u.answer p (0x2100 + c) 6 (.ok [])) ∧
        (u.ctx c).st = .armed ∧ (u.ctx c).desc = (s.ctx c).desc ∧
        ((u.ctx c).run.map (fun r => (r.need, r.done, r.write, r.op, r.prio))) = some (sLength (s.ctx c).desc, 0, sDir (s.ctx c).desc, none, 4) ∧
        (∀ k, k ≠ c.val → u.ctx k = s.ctx k) ∧ u = { s with ctxs := u.ctxs, poolProgress := u.poolProgress }) ∧
    ((s.ctx c).st ≠ .idle ∨ sTarget (s.ctx c).desc ≠ 5 →
      exec (.stagingStart p c) s = .next (s.answer p (0x2100 + c) 6 (.ok []))) ∧
    (∀ v : BitVec 64, invalidateOk v.toNat = true →
      (s.usesRange v.toNat s.reqSerial = false →
        exec (.xlatInvalidate p v) s = .next (({ s with xcache := s.xcache.filter (fun e => !inInvalidRange v.toNat e) }).answer p 0x2400 3 (.ok []))) ∧
      (s.usesRange v.toNat s.reqSerial = true →
        exec (.xlatInvalidate p v) s = .next { s with
          xcache := s.xcache.filter (fun e => !inInvalidRange v.toNat e), invals := s.invals ++ [(p, v.toNat, s.reqSerial)] })) ∧
    (∀ v : BitVec 64, invalidateOk v.toNat = false → exec (.xlatInvalidate p v) s = .next (s.answer p 0x2400 3 (.err errValue 0)))

/-- A write of 0 to a run object stops its function and completes at once; a write of 1 restarts a stopped function whose checks pass (12_object_dictionary.md, 01_basin.md, 07_light_and_loops.md, 09_fabric.md, 10_cascades.md). -/
def Obligations.RunObjectsStopAndRestart : Prop :=
  ∀ (p : Port) (s : State), Writes p s →
    exec (.basinStop p) s = .next ((({ s with basin := { s.basin with run := false } }).settle).answer p 0x1000 0x0B (.ok [])) ∧
    (∀ (u : State) (q : Nat), u.basin.run = false → u.canAdmit q = false) ∧
    (s.basinFaults = [] → s.basinStopping = false → ¬ (s.basin.run = true ∧ (s.basin.state = .running ∨ s.basin.state = .paused)) →
      s.light.compute = .locked → (s.proc procRingmaster).state = .running →
      ∃ u : State, exec (.basinRestart p) s = .next (u.answer p 0x1000 0x0B (.ok [])) ∧ u.basin = { s.basin with run := true, state := .running } ∧
        u = { s with basin := u.basin, dict := { s.dict with fails := u.dict.fails }, fw := { s.fw with unreadable := u.fw.unreadable }, queues := u.queues }) ∧
    (s.basin.run = true → s.basin.state = .running → exec (.basinRestart p) s = .next (s.answer p 0x1000 0x0B (.ok []))) ∧
    (s.basinStopping = true → exec (.basinRestart p) s = .next { s with basin := { s.basin with restartDue := s.basin.restartDue ++ [p] } }) ∧
    (∀ c : Fin 98, exec (.clusterLoopsStop p c) s = .next (({ s with
        dict := { s.dict with loops := mset false s.dict.loops c true }
        clusters := mset {} s.clusters c ({ s.cluster c with
          loopsOn := false, goingToSleep := false
          base := if (s.cluster c).base = LoopSt.locked then .held else if (s.cluster c).base = LoopSt.held then .held else .opened } : ClusterSt)
        cols := mmap {} s.cols (fun k (x : ColSt) => if k / 33 / 256 = c ∧ x.loop ≠ .base then
          ({ x.inQ15 with
            loop := if x.loop = LoopSt.locked ∨ x.loop = LoopSt.held then .held else .opened, sweep := none, clean := 0 } : ColSt) else x) } : State).answer
            p (0x4100 + c) 2 (.ok []))) ∧
    (∀ c : Fin 98, s.loopsRun c = true → exec (.clusterLoopsRestart p c) s = .next (s.answer p (0x4100 + c) 2 (.ok []))) ∧
    (∀ c : Fin 98, s.loopsRun c = false → s.loopFaults c = [] → s.loopsAble c = true → s.light.compute ≠ .dark →
      ∃ u : State, exec (.clusterLoopsRestart p c) s = .next (u.answer p (0x4100 + c) 2 (.ok [])) ∧
        (u.cluster c).loopsOn = true ∧ (u.cluster c).loopStart = s.time ∧ (u.cluster c).phase = 0 ∧
        (∀ k, k ≠ c.val → u.cluster k = s.cluster k) ∧
        u = { s with clusters := u.clusters, cols := u.cols, tileLoops := u.tileLoops,
                     dict := { s.dict with loops := mset false s.dict.loops c false, fails := u.dict.fails }, fw := { s.fw with unreadable := u.fw.unreadable } }) ∧
    (s.fab.state = .stopped →
      exec (.fabricStop p) s = .next ((s.setObj 0x3000 2 0).answer p 0x3000 2 (.ok []))) ∧
    (s.fab.state ≠ .stopped →
      exec (.fabricStop p) s = .next (((((s.setObj 0x3000 2 0).fabricDown .stopped)).settle).answer p 0x3000 2 (.ok []))) ∧
    (s.fab.state ≠ .stopped → exec (.fabricRestart p) s = .next (s.answer p 0x3000 2 (.ok []))) ∧
    (s.fab.state = .stopped → s.fabricReasons = [] → s.light.link = .locked →
      ∃ u : State, exec (.fabricRestart p) s = .next (u.answer p 0x3000 2 (.ok [])) ∧ u.fab.state = .testing ∧ u.fab.base = .testing ∧
        u = { s with fab := u.fab, dict := { s.dict with objs := mset 1 s.dict.objs 0x300002 1, fails := u.dict.fails }, fw := { s.fw with unreadable := u.fw.unreadable } }) ∧
    exec (.cascadeStop p) s = .next (({ s with
        casc := { s.casc with state := .stopped, area := [] }
        dict := { s.dict with objs := mset 0 s.dict.objs 0x340002 0 } }).answer p 0x3400 2 (.ok [])) ∧
    (s.casc.state ≠ .stopped → exec (.cascadeRestart p) s = .next (s.answer p 0x3400 2 (.ok []))) ∧
    (s.casc.state = .stopped → s.cascadeReasons = [] →
      ∃ u : State, exec (.cascadeRestart p) s = .next (u.answer p 0x3400 2 (.ok [])) ∧
        (u.casc.state = .formed ∨ u.casc.state = .forming) ∧ u.casc.joined = [] ∧ u.casc.lost = 65535 ∧ (∀ n, 0xF0 ≤ n → n < 0x100 → u.token n = 0 ∨ mwf 0 s.tokens = false) ∧
        u = { s with casc := u.casc, tokens := u.tokens, dict := { s.dict with objs := mset 0 s.dict.objs 0x340002 1, fails := u.dict.fails }, fw := { s.fw with unreadable := u.fw.unreadable } })

/-- A write of 0500:02 through the host link enables a stopped port whose checks pass, and disables it (12_object_dictionary.md). -/
def Obligations.FieldPortIsEnabledAndDisabled : Prop :=
  ∀ (tag : Nat) (s : State), Writes (.host tag) s →
    (s.obj 0x0500 2 = 1 → exec (.fpEnable (.host tag)) s = .next (s.answer (.host tag) 0x0500 2 (.ok []))) ∧
    (s.obj 0x0500 2 ≠ 1 → s.fpFaults = [] → s.fp.state = .silent → s.fp.txErr ≤ 255 →
      ∃ u v : State, exec (.fpEnable (.host tag)) s = .next (u.answer (.host tag) 0x0500 2 (.ok [])) ∧
        u.fp.state = (if s.fp.silentPin then .pinned else .active) ∧ u.fp.refillAt = none ∧ u.obj 0x0500 2 = 1 ∧
        u = State.event v 4 0 4 u.fp.state.code ∧
        v = { s with fp := v.fp, dict := { s.dict with objs := mset 0 s.dict.objs 0x50002 1, fails := v.dict.fails }, fw := { s.fw with unreadable := v.fw.unreadable } }) ∧
    (s.obj 0x0500 2 ≠ 1 → s.fpFaults = [] → (s.fp.state = .busOff ∨ 255 < s.fp.txErr) →
      ∃ u : State, exec (.fpEnable (.host tag)) s = .next (u.answer (.host tag) 0x0500 2 (.ok [])) ∧ u.fp.state = s.fp.state ∧ u.fp.recovering = true) ∧
    (s.fp.state = .silent →
      exec (.fpDisable (.host tag)) s = .next (({ s with
        fp := { s.fp with recovering := false }
        dict := { s.dict with objs := mset 0 s.dict.objs 0x50002 0 } }).answer (.host tag) 0x0500 2 (.ok []))) ∧
    (s.fp.state ≠ .silent →
      exec (.fpDisable (.host tag)) s = .next ((({ s with
        fp := { s.fp with recovering := false, state := .silent, seg := none, pinnedWait := false }
        dict := { s.dict with objs := mset 0 s.dict.objs 0x50002 0 } }).event 4 0 4 FpSt.silent.code).answer (.host tag) 0x0500 2 (.ok [])))

/-- A session opens on a HOST_LEVEL write inside the window, is refused outside it, and closes on a write of 1 to SESSION_CLOSE (11_host_link.md). -/
def Obligations.SessionsOpenAndClose : Prop :=
  (∀ (p : Port) (level : BitVec 16) (s : State), Writes p s → s.hl.session = false →
      s.barkerBundle.hostMin ≤ level.toNat → level.toNat ≤ s.barkerBundle.hostMax →
      exec (.hostLevel p level) s = .next (({ s with hl := { s.hl with
        session := true, level := level.toNat, sessions := (s.hl.sessions + 1) % 65536, evtTail := 0, evtHead := 0 } }).answer p 0x0400 4 (.ok []))) ∧
  (∀ (tag : Nat) (level : BitVec 16) (s : State), Writes (.host tag) s →
    (s.hl.session = true → exec (.hostLevel (.host tag) level) s = .next (s.answer (.host tag) 0x0400 4 (.refused 4))) ∧
    (s.hl.session = false → level.toNat < s.barkerBundle.hostMin →
      exec (.hostLevel (.host tag) level) s = .next (s.answer (.host tag) 0x0400 4 (.refused 1))) ∧
    (s.hl.session = false → s.barkerBundle.hostMin ≤ level.toNat → s.barkerBundle.hostMax < level.toNat →
      exec (.hostLevel (.host tag) level) s = .next (s.answer (.host tag) 0x0400 4 (.refused 2)))) ∧
  (∀ (tag : BitVec 12) (v : BitVec 64) (s : State), Reaches (.host tag.toNat) s →
      (v = 1 → exec (.sessionClose tag v) s = .next (({ s with hl := { s.hl with session := false, level := 0 } }).answer (.host tag.toNat) 0 0 (.ok []))) ∧
      (v = 0 → exec (.sessionClose tag v) s = .next (s.answer (.host tag.toNat) 0 0 (.ok []))) ∧
      (v ≠ 0 → v ≠ 1 → exec (.sessionClose tag v) s = .next (s.answer (.host tag.toNat) 0 0 (.err errValue 0))))

/-- A session ends when the link goes Down and at every cold or warm reset, and the link loses no event that waits (11_host_link.md, 14_reset_bringup.md). -/
def Obligations.SessionEndsWithLinkAndResets : Prop :=
  (∀ s : State, s.linkDown.hl.session = false ∧ s.linkDown.hl.state = .down ∧ ∀ e ∈ s.hl.evtQueue, e ∈ s.linkDown.hl.evtQueue) ∧
  (∀ (s : State) (level cause : Nat), s.dark = false → (s.assertReset level cause).hl.session = false)

/-- QUEUE_ABORT cancels the ops of a queue, MON_CAPTURE takes a sound capture request, DOORBELL_SEND forms a doorbell packet (05_operations.md, 08_converters_calibration.md, 09_fabric.md). -/
def Obligations.QueueAbortCaptureAndDoorbellWrites : Prop :=
  ∀ (p : Port) (s : State), Writes p s →
    (∀ q : Fin 4, exec (.queueAbort p q) s = .next ((s.abortQueue q).answer p (0x1810 + q) 5 (.ok []))) ∧
    (∀ q : Fin 4, s.ops = [] →
      (s.abortQueue q) = (s.cancelUnread q ((s.queue q).submitted - (s.queue q).admitted)).settle) ∧
    (∀ v : BitVec 128, captureOk v.toNat = true → s.captureOn = none →
      exec (.monCapture p v) s = .next (({ s with
        cal := { s.cal with captured := [] }
        clusters := mset {} s.clusters (bits v.toNat 0 7) { s.cluster (bits v.toNat 0 7) with capture := some { req := v.toNat } } }).answer p 0x4800 7 (.ok []))) ∧
    (∀ v : BitVec 128, (captureOk v.toNat = false ∨ s.captureOn ≠ none) →
      exec (.monCapture p v) s = .next (s.answer p 0x4800 7 (.err errValue 0))) ∧
    (∀ v : BitVec 64, bits v.toNat 23 9 = 0 → bits v.toNat 48 16 = 0 → s.obj 0x3000 6 ≠ 1 →
      (bit s.fab.db 0 = false → exec (.doorbellSend p v) s = .next ((s.formDoorbell v.toNat).answer p 0x3000 0x10 (.ok []))) ∧
      (bit s.fab.db 0 = true → exec (.doorbellSend p v) s = .next (s.answer p 0x3000 0x10 (.err errAccess 0)))) ∧
    (∀ v : BitVec 64, bits v.toNat 23 9 ≠ 0 → exec (.doorbellSend p v) s = .next (s.answer p 0x3000 0x10 (.err errValue 0)))

/-- Writes of the firmware page start a restart, a commit or an activation, and a boot load is verified, or each is refused with its reason (13_firmware.md, 14_reset_bringup.md). -/
def Obligations.FirmwareWritesAreAccepted : Prop :=
  ∀ (p : Port) (s : State), Writes p s →
    (∀ n : BitVec 8, n.toNat < 102 →
      exec (.fwRestartRequest p n) s = .next ((s.answer p 0x6000 0x0A (.ok [])).requestProc n.toNat 4 0)) ∧
    (∀ n : BitVec 8, 102 ≤ n.toNat → exec (.fwRestartRequest p n) s = .next (s.answer p 0x6000 0x0A (.err errValue 0))) ∧
    (∀ v : BitVec 128, bits v.toNat 64 64 = 0 → bits v.toNat 0 32 % 4096 = 0 → bits v.toNat 0 32 + bits v.toNat 32 32 ≤ stagingSize →
      (s.committing = false → s.activating = false → s.targetBank.isSome = true →
        exec (.fwCommit p v) s = .next (({ s with fw := { s.fw with
          commitSt := 1, commitReason := 0, commitReq := (bits v.toNat 0 32, bits v.toNat 32 32) } }).answer p 0x6000 3 (.ok []))) ∧
      (s.committing = true → s.targetBank.isSome = true →
        exec (.fwCommit p v) s = .next (({ s with fw := { s.fw with commitReason := 2 } }).answer p 0x6000 3 (.err errValue 2))) ∧
      (s.targetBank = none →
        exec (.fwCommit p v) s = .next (({ s with fw := { s.fw with commitReason := 1, commitSt := 4 } }).answer p 0x6000 3 (.err errValue 1)))) ∧
    (∀ (n : Fin 102) (b : Fin 2), s.activationRefusal n b = none → s.bankOf n ≠ b →
      exec (.fwActivate p (BitVec.ofNat 32 (n + 256 * b))) s = .next (({ s with fw := { s.fw with
        actBank := b, actList := [n.val], actReason := 0, actSt := 1, actCurrent := n } }).answer p 0x6000 6 (.ok []))) ∧
    (∀ (n : Fin 102) (b : Fin 2) (r : Nat), s.activationRefusal n b = some r → s.activating = false →
      exec (.fwActivate p (BitVec.ofNat 32 (n + 256 * b))) s = .next (({ s with fw := { s.fw with actReason := r, actSt := 5 } }).answer p 0x6000 6 (.err errValue r))) ∧
    (∀ v : BitVec 128, (s.strapBoot ≠ 2 ∨ s.rst.step ≠ 3) → exec (.bootLoad p v) s = .next (s.answer p 0x5800 0x0A (.err errAccess 0))) ∧
    (∀ v : BitVec 128, s.strapBoot = 2 → s.rst.step = 3 → bits v.toNat 64 64 = 0 → bits v.toNat 0 32 % 4096 = 0 →
      bits v.toNat 0 32 + bits v.toNat 32 32 ≤ stagingSize →
      ∃ u : State, exec (.bootLoad p v) s = .next (u.answer p 0x5800 0x0A (.ok [])) ∧
        (match s.verifyBundle (s.staging (bits v.toNat 0 32) (bits v.toNat 32 32)) with
        | .ok h => u.rst.step = 4 ∧ u.fw.fromHost = true ∧ u.fw.bundles = mset {} s.fw.bundles 2 h ∧ u = { s with fw := u.fw, procs := u.procs, rst := u.rst }
        | .error _ => u = { s with fw := { s.fw with commitReason := 4 } }))

/-- The host requests warm and block resets, Deep standby and Standby, and clears regulator faults; the field port may not (14_reset_bringup.md, 15_power_thermal.md). -/
def Obligations.ResetAndPowerRequests : Prop :=
  (∀ (tag : Nat) (s : State), Writes (.host tag) s →
    exec (.warmResetRequest (.host tag)) s = .next (({ s with rst := { s.rst with warmAt := some (s.rst.warmAt.getD (s.time + 1200)) } }).answer
      (.host tag) 0x5800 1 (.ok [])) ∧
    (∀ kind num, bits (s.obj 0x5800 2) 0 8 = kind → bits (s.obj 0x5800 2) 8 8 = num → blockOk kind num = true →
      (s.blockReset kind num = false → (kind, num) ∉ s.rst.requests →
        exec (.blockResetRequest (.host tag)) s = .next (({ s with rst := { s.rst with requests := s.rst.requests ++ [(kind, num)] } }).answer
          (.host tag) 0x5800 1 (.ok []))) ∧
      (s.blockReset kind num = true → exec (.blockResetRequest (.host tag)) s = .next (s.answer (.host tag) 0x5800 1 (.ok [])))) ∧
    (s.devState = 2 ∨ s.devState = 3 → ∃ u : State,
      exec (.deepStandbyRequest (.host tag)) s = .next u ∧ u = (s.answer (.host tag) 0x5000 2 (.ok [])).enterDeep ∧
      u.dark = true ∧ u.pwr.seqOff = true ∧ u.pwr.state = 1 ∧ u.hl.state = .down ∧
      u.hl.tx = s.hl.tx ++ [.cpl tag 0 0 []]) ∧
    (s.devState = 3 → (∀ e ∈ s.ctxs, e.2.st = .idle) → ∃ u : State,
      exec (.standbyRequest (.host tag)) s = .next u ∧ u = (s.answer (.host tag) 0x5000 2 (.ok [])).enterStandby ∧
      u.pwr.state = 2 ∧ u.pwr.request = 2 ∧ u.light.compute = .dark ∧ u.light.link = .dark) ∧
    (s.devState ≠ 3 → exec (.standbyRequest (.host tag)) s = .next (s.answer (.host tag) 0x5000 2 (.err errValue 0)))) ∧
  (∀ (node tid service : Nat) (s : State), Writes (.field node tid service) s →
    exec (.warmResetRequest (.field node tid service)) s = .next (s.answer (.field node tid service) 0x5800 1 (.err errAccess 0)) ∧
    exec (.blockResetRequest (.field node tid service)) s = .next (s.answer (.field node tid service) 0x5800 1 (.err errAccess 0)) ∧
    exec (.deepStandbyRequest (.field node tid service)) s = .next (s.answer (.field node tid service) 0x5000 2 (.err errValue 0)) ∧
    exec (.standbyRequest (.field node tid service)) s = .next (s.answer (.field node tid service) 0x5000 2 (.err errValue 0))) ∧
  (∀ (p : Port) (s : State), Writes p s → s.runs procPower = true → ∃ u : State,
    exec (.vrFaultClear p []) s = .next (u.answer p 0x5000 0x0F (.ok [])) ∧ u.pwr.vrFault = s.pwr.vrFault ∧
    (∀ i < 8, s.vrLatched (i + 1) = true → ((s.obj (0x5101 + i) 1, 3, 0) : Nat × Nat × Nat) ∈ u.pwr.pmbus) ∧
    u = { s with pwr := { s.pwr with pmbus := u.pwr.pmbus, clearing := u.pwr.clearing } })

/-- The security floor only rises, option commands are checked in order and applied once signed, and an attestation takes its snapshot at the request (16_security.md). -/
def Obligations.SecurityWrites : Prop :=
  (∀ (tag : Nat) (s : State), Writes (.host tag) s → s.runs procSecurity = true →
    (∀ v : BitVec 32, s.sec.floorNv ≤ v.toNat → (∀ x ∈ s.mappedVersions, v.toNat ≤ x) →
      exec (.floorRaise (.host tag) v) s = .next (({ s with sec := { s.sec with floorNv := v.toNat } }).answer (.host tag) 0x6800 6 (.ok []))) ∧
    (∀ v : BitVec 32, v.toNat < s.sec.floorNv → exec (.floorRaise (.host tag) v) s = .next (s.answer (.host tag) 0x6800 6 (.err errValue 0))) ∧
    (∀ (c : BitVec 1280) (i : Instr), i = .revokeSlot (.host tag) c ∨ i = .raiseOtpFloor (.host tag) c ∨ i = .raiseDebugLock (.host tag) c ∨ i = .debugUnlock (.host tag) c →
      (∀ r, s.optionForm c.toNat = some r →
        exec i s = .next (({ s with sec := { s.sec with optionResult := r } }).answer (.host tag) 0x6800 8
          (if bits c.toNat 56 8 ≠ 0 ∨ bits c.toNat 416 96 ≠ 0 then .err errValue 0 else .ok []))) ∧
      (s.optionForm c.toNat = none → ∃ u v : State, exec i s = .next (u.answer (.host tag) 0x6800 8 (.ok [])) ∧ u = v.newChallenge ∧
        v.sec.optionResult = (if s.optionSigned c.toNat then (s.optionRule c.toNat).getD 0 else 4) ∧
        (s.optionSigned c.toNat = false ∨ (s.optionRule c.toNat).isSome = true → v = { s with sec := { s.sec with optionResult := v.sec.optionResult } }) ∧
        (s.optionSigned c.toNat = true → s.optionRule c.toNat = none →
          (bits c.toNat 48 8 = 1 → v.sec.revoked = s.sec.revoked ||| 2 ^ bits c.toNat 384 32 ∧ v.sec.floorOtp = s.sec.floorOtp ∧ v.sec.debugLock = s.sec.debugLock) ∧
          (bits c.toNat 48 8 = 2 → v.sec.floorOtp = bits c.toNat 384 32 ∧ v.sec.floorSteps = s.sec.floorSteps - 1 ∧ v.sec.revoked = s.sec.revoked) ∧
          (bits c.toNat 48 8 = 3 → v.sec.debugLock = bits c.toNat 384 32 ∧ v.sec.revoked = s.sec.revoked) ∧
          (bits c.toNat 48 8 = 4 → v.sec.debugOpen = true ∧ v.sec.debugLock = s.sec.debugLock)) ∧
        v = { s with sec := v.sec }))) ∧
  (∀ (node tid service : Nat) (c : BitVec 1280) (s : State), Writes (.field node tid service) s → s.runs procSecurity = true →
    exec (.debugUnlock (.field node tid service) c) s = .next (s.answer (.field node tid service) 0x6800 8 (.err errAccess 0))) ∧
  (∀ (p : Port) (nonce : BitVec 256) (s : State), Writes p s → s.runs procSecurity = true →
    (s.sec.attest ≠ 1 → exec (.attestRequest p nonce) s = .next (({ s with sec := { s.sec with
      attest := 1, snapshot := s.snapshot nonce.toNat } }).answer p 0x6800 0x10 (.ok []))) ∧
    (s.sec.attest = 1 → exec (.attestRequest p nonce) s = .next (s.answer p 0x6800 0x10 (.err errAccess 0)))) ∧
  (∀ s : State, Running s → s.runs procSecurity = true → s.sec.attest = 1 →
    exec .attestReady s = .next { s with sec := { s.sec with
      attest := 2, report := s.sec.snapshot ++ ecdsaSign identityKey s.sec.snapshot, snapshot := [] } })

/-- A signed option command that passes its checks revokes its slot, raises the OTP floor or the debug lock, or opens debug, draws a new challenge and answers OK (16_security.md). -/
def Obligations.OptionCommandsApplyOnceSigned : Prop :=
  ∀ (tag : Nat) (c : BitVec 1280) (s : State), Writes (.host tag) s → s.runs procSecurity = true →
    s.optionForm c.toNat = none → s.optionSigned c.toNat = true → s.optionRule c.toNat = none →
      let a := bits c.toNat 384 32
      (bits c.toNat 48 8 = 1 → exec (.revokeSlot (.host tag) c) s = .next ((({ s with
        sec := { s.sec with revoked := s.sec.revoked ||| 2 ^ a, revoked2 := s.sec.revoked2 ||| 2 ^ a, optionResult := 0 } } : State).newChallenge).answer (.host tag) 0x6800 8 (.ok []))) ∧
      (bits c.toNat 48 8 = 2 → exec (.raiseOtpFloor (.host tag) c) s = .next ((({ s with
        sec := { s.sec with floorOtp := a, floorOtp2 := a, floorSteps := s.sec.floorSteps - 1, optionResult := 0 } } : State).newChallenge).answer (.host tag) 0x6800 8 (.ok []))) ∧
      (bits c.toNat 48 8 = 3 → exec (.raiseDebugLock (.host tag) c) s = .next ((({ s with
        sec := { s.sec with debugLock := a, debugLock2 := a, optionResult := 0 } } : State).newChallenge).answer (.host tag) 0x6800 8 (.ok []))) ∧
      (bits c.toNat 48 8 = 4 → exec (.debugUnlock (.host tag) c) s = .next ((({ s with
        sec := { s.sec with debugOpen := true, optionResult := 0 } } : State).newChallenge).answer (.host tag) 0x6800 8 (.ok [])))

/-- A sound PRD reads the part of an object's value that it names, and a sound PWR is a write of that object by the host (11_host_link.md, 12_object_dictionary.md). -/
def Obligations.HostReadsAndWritesObjects : Prop :=
  ∀ (h : BitVec 256) (data : List Byte) (s : State), Reaches (.host (bits h.toNat 12 12)) s →
    let i := bits h.toNat 64 16
    let k := bits h.toNat 80 8
    (bits h.toNat 0 8 = 1 → badHeader h.toNat = false → tcrcOk h.toNat [] = true → objExists i k = true →
      (objRow i k).map (·.1.acc) ≠ some 2 → ¬ (i = 0 ∧ k = 3) → ¬ (i = 0x7800 ∧ k = 3) → s.mustWait i k = none →
      ∀ b, s.value i k = some b →
        exec (.prd h) s = .next (s.answer (.host (bits h.toNat 12 12)) i k (.ok ((b.drop (bits h.toNat 88 24)).take (bits h.toNat 32 13))))) ∧
    (bits h.toNat 0 8 = 1 → badHeader h.toNat = false → tcrcOk h.toNat [] = true → objExists i k = false → s.mustWait i k = none →
      exec (.prd h) s = .next (s.answer (.host (bits h.toNat 12 12)) i k (.err errNoObject 0))) ∧
    (bits h.toNat 0 8 = 2 → badHeader h.toNat = false → tcrcOk h.toNat data = true → data.length = bits h.toNat 32 13 → bits h.toNat 88 24 = 0 →
      exec (.pwr h data) s = .next (s.portWrite (.host (bits h.toNat 12 12)) i k data) ∧
      exec (.pwr h data) s = exec (.objectWrite (.host (bits h.toNat 12 12)) (BitVec.ofNat 16 i) (BitVec.ofNat 8 k) data) s) ∧
    (bits h.toNat 0 8 = 1 → tcrcOk h.toNat [] = false → exec (.prd h) s = .next s.frameFails) ∧
    (bits h.toNat 0 8 = 1 → badHeader h.toNat = true → tcrcOk h.toNat [] = true →
      exec (.prd h) s = .next (s.answer (.host (bits h.toNat 12 12)) 0 0 (.err errMalformed 0)))

/-- MRD and MWR of physical memory read and write exactly the bytes they name, for every address that holds something (11_host_link.md, 06_streams_memory.md). -/
def Obligations.HostReadsAndWritesMemory : Prop :=
  ∀ (h : BitVec 256) (data : List Byte) (s : State), Running s → s.hl.state = .up → s.hl.held = [] →
    badHeader h.toNat = false → bits h.toNat 8 2 = 1 →
    let tag := bits h.toNat 12 12
    let a := bits h.toNat 64 64
    let n := bits h.toNat 192 13
    (bits h.toNat 0 8 = 3 → tcrcOk h.toNat [] = true → badSpan 1 a n = false → s.hostWaits h.toNat [] = false →
      (physOk a = true → physOk (a + n - 1) = true → s.mem.errs a n = false →
        exec (.mrd h) s = .next (s.answer (.host tag) 0 0 (.ok (s.mem.readN a n)))) ∧
      (physOk a = false → exec (.mrd h) s = .next (s.answer (.host tag) 0 0 (.err errNoAddr 0)))) ∧
    (bits h.toNat 0 8 = 4 → tcrcOk h.toNat data = true → data.length = bits h.toNat 32 13 → badSpan 1 a data.length = false →
      s.hostWaits h.toNat data = false →
      (physOk a = true → physOk (a + data.length - 1) = true → s.mem.storeErrs a data.length = false →
        exec (.mwr h data) s = .next ((s.store a data).answer (.host tag) 0 0 (.ok [])) ∧
        (∀ x, x < a ∨ a + data.length ≤ x → (s.store a data).mem.read x = s.mem.read x) ∧
        (s.mem.wf = true → ∀ j (hj : j < data.length), (s.store a data).mem.read (a + j) = data[j])) ∧
      (physOk a = false → exec (.mwr h data) s = .next (s.answer (.host tag) 0 0 (.err errNoAddr 0))))

/-- A CPL ends the device request whose tag it carries; one for no request is dropped and counted; a late request ends in error (11_host_link.md). -/
def Obligations.DeviceRequestsEndOnCompletions : Prop :=
  (∀ (h : BitVec 256) (data : List Byte) (s : State), Running s → s.hl.state = .up → bits h.toNat 0 8 = 7 → badCpl h.toNat = false →
    tcrcOk h.toNat data = true → data.length = bits h.toNat 32 13 →
    (∀ r, s.hostReq (bits h.toNat 12 12) = some r → r.ctx ≠ 64 →
      (bits h.toNat 24 8 = 0 → r.write = false → data.length = r.len → ∃ u : State,
        exec (.cpl h data) s = .next (u.arrive r data none) ∧ u = { s with hl := { s.hl with mwrOut := s.hl.mwrOut.filter (· ≠ r.tag) } }) ∧
      (bits h.toNat 24 8 ≠ 0 → ∃ u : State,
        exec (.cpl h data) s = .next (u.arrive r [] (some 0)) ∧ u = { s with hl := { s.hl with mwrOut := s.hl.mwrOut.filter (· ≠ r.tag) } })) ∧
    (∀ r, s.hostReq (bits h.toNat 12 12) = some r → r.ctx = 64 → r.write = true → ∃ u : State,
      exec (.cpl h data) s = .next (u.epochHostWrite r.tag (decide (bits h.toNat 24 8 ≠ 0))) ∧
      u = { s with hl := { s.hl with mwrOut := s.hl.mwrOut.filter (· ≠ r.tag) } }) ∧
    (s.hostReq (bits h.toNat 12 12) = none → ∃ u : State, exec (.cpl h data) s = .next (u.count 0x2C) ∧
      u = { s with hl := { s.hl with tags := s.hl.tags.filter (· ≠ bits h.toNat 12 12) } })) ∧
  (∀ (tag : BitVec 12) (r : Req) (s : State), Running s → s.hostReq tag.toNat = some r → r.ctx ≠ 64 →
    (r.time + s.obj 0x0400 0x0B ≤ s.time → ∃ u : State, exec (.cplTimeout tag) s = .next (u.arrive r [] (some 0)) ∧
      u = { s with hl := { s.hl with tags := s.hl.tags ++ [tag.toNat], mwrOut := s.hl.mwrOut.filter (· ≠ r.tag) } }) ∧
    (s.time < r.time + s.obj 0x0400 0x0B → exec (.cplTimeout tag) s = .next s))

/-- The host link locks lane by lane, comes Up once both ends have accepted a frame, and goes Down when a lane loses lock (11_host_link.md). -/
def Obligations.LinkComesUpAndGoesDown : Prop :=
  ∀ s : State, Running s →
    (∀ lane : Fin 4, 4 ≤ s.rst.step → s.hl.state ≠ .up →
      exec (.codewordLock lane) s = .next { s with hl := { s.hl with state := .locking, lanes := s.hl.lanes ||| BitVec.ofNat 4 (2 ^ lane.val) } }) ∧
    (s.hl.state = .locking → s.hl.lanes = 15 → s.hl.peerSeen = true →
      exec .linkUp s = .next { s with hl := { s.hl with
        state := .up, ups := min (s.hl.ups + 1) 65535, upsMod := (s.hl.upsMod + 1) % 256, rxNext := 0, gap := false, nakDue := false,
        txNext := 0, uncovered := 0, lastCover := s.time, replays := 0, reqGranted := 1024, rspGranted := 512, peerReq := 0, peerRsp := 0,
        sentReq := 0, sentRsp := 0 } }) ∧
    (s.hl.lanes ≠ 15 → exec .linkUp s = .next s) ∧
    (∀ lane : Fin 4, s.hl.lanes.getLsbD lane = true →
      (s.hl.state = .up ∨ s.hl.lanes = BitVec.ofNat 4 (2 ^ lane.val) → exec (.laneLockLoss lane) s = .next s.linkDown) ∧
      (s.hl.state ≠ .up → s.hl.lanes ≠ BitVec.ofNat 4 (2 ^ lane.val) → exec (.laneLockLoss lane) s = .next { s with hl := { s.hl with
        lanes := s.hl.lanes &&& ~~~(BitVec.ofNat 4 (2 ^ lane.val)), peerSeen := false } })) ∧
    (∀ lane : Fin 4, s.hl.lanes.getLsbD lane = false → exec (.laneLockLoss lane) s = .next s)

/-- On a link that is Up a frame is accepted exactly in order, frees the frames it acknowledges, and a frame in error or out of order opens a gap (11_host_link.md). -/
def Obligations.FramesAreAcceptedInOrder : Prop :=
  ∀ s : State, Running s → s.hl.state = .up →
    (∀ (ctl : BitVec 64) (req rsp : Fin 11), bits ctl.toNat 34 6 = 0 → bits ctl.toNat 0 12 = s.hl.rxNext → bit ctl.toNat 24 = false →
      ∃ u : State, exec (.linkFrame true ctl req rsp) s = .next u ∧ u.hl.rxNext = (s.hl.rxNext + 1) % 4096 ∧ u.hl.gap = false ∧
        u.hl.reqGranted = (s.hl.reqGranted + req) % 4096 ∧ u.hl.rspGranted = (s.hl.rspGranted + rsp) % 4096 ∧
        u.hl.peerReq = bits ctl.toNat 40 12 ∧ u.hl.peerRsp = bits ctl.toNat 52 12 ∧
        u.hl.streak = streakOf s.hl.streak (bits ctl.toNat 32 2) (bits ctl.toNat 25 7) ∧
        (let n := (bits ctl.toNat 12 12 + 1 + 4096 - (s.hl.txNext + 4096 - s.hl.uncovered) % 4096) % 4096
         u.hl.uncovered = if 0 < n ∧ n ≤ s.hl.uncovered then s.hl.uncovered - n else s.hl.uncovered) ∧
        u = { s with hl := { s.hl with
          rxNext := u.hl.rxNext, gap := false, reqGranted := u.hl.reqGranted, rspGranted := u.hl.rspGranted,
          peerReq := u.hl.peerReq, peerRsp := u.hl.peerRsp, streak := u.hl.streak, uncovered := u.hl.uncovered, lastCover := u.hl.lastCover,
          replays := u.hl.replays } }) ∧
    (∀ (ctl : BitVec 64) (req rsp : Fin 11), s.hl.gap = false →
      exec (.linkFrame false ctl req rsp) s = .next { s with hl := { s.hl with gap := true, nakDue := true } }) ∧
    (∀ (ctl : BitVec 64) (req rsp : Fin 11), s.hl.gap = true → exec (.linkFrame false ctl req rsp) s = .next s) ∧
    (∀ (ctl : BitVec 64) (req rsp : Fin 11), bits ctl.toNat 34 6 = 0 → bits ctl.toNat 0 12 ≠ s.hl.rxNext →
      (bits ctl.toNat 0 12 + 1) % 4096 ≠ s.hl.rxNext → s.hl.gap = false →
      exec (.linkFrame true ctl req rsp) s = .next { s with hl := { s.hl with gap := true, nakDue := true } }) ∧
    (0 < s.hl.uncovered → s.hl.lastCover + 4800 ≤ s.time →
      (s.hl.replays < 7 → ∃ u : State, exec .linkReplayTimeout s = .next u ∧
        u = { s.count 0x2B with hl := { s.hl with lastCtl := u.hl.lastCtl, nakDue := false, replays := s.hl.replays + 1, lastCover := s.time } }) ∧
      (s.hl.replays = 7 → ∃ u : State, exec .linkReplayTimeout s = .next u.linkDown ∧
        u = { s.count 0x2B with hl := { s.hl with lastCtl := u.hl.lastCtl, nakDue := false, replays := 8, lastCover := s.time } }))

/-- EVT delivers the oldest waiting record into the event ring where there is room, and EVT_HEAD moves the head (11_host_link.md). -/
def Obligations.EventRecordsReachTheHost : Prop :=
  ∀ s : State, Running s → s.hl.state = .up →
    (∀ (e : EventRec) (rest : List EventRec), s.hl.evtQueue = e :: rest → s.hl.session = true → s.hl.mwrOut = [] → s.obj 0x0400 9 ≠ 0 →
      (s.hl.evtTail + 2 ^ 32 - s.hl.evtHead) % 2 ^ 32 < s.obj 0x0400 9 → (s.hl.peerRsp + 4096 - s.hl.sentRsp % 4096) % 4096 ≠ 0 →
      17 ≤ s.hl.peerRsp →
      exec .evt s = .next { s with hl := { s.hl with
        evtQueue := rest, evtTail := (s.hl.evtTail + 1) % 2 ^ 32, sentRsp := s.hl.sentRsp + 1,
        tx := s.hl.tx ++ [.evt (s.obj 0x0400 8 + 32 * (s.hl.evtTail % s.obj 0x0400 9)) e] } }) ∧
    (s.hl.session = false → exec .evt s = .next s) ∧
    (∀ (tag : BitVec 12) (v : BitVec 64), s.hl.held = [] →
      (v.toNat < 2 ^ 32 → (s.hl.evtTail + 2 ^ 32 - v.toNat) % 2 ^ 32 ≤ s.obj 0x0400 9 →
        exec (.evtHead tag v) s = .next (({ s with hl := { s.hl with evtHead := v.toNat } }).answer (.host tag.toNat) 0 0 (.ok []))) ∧
      (v.toNat < 2 ^ 32 → s.obj 0x0400 9 < (s.hl.evtTail + 2 ^ 32 - v.toNat) % 2 ^ 32 →
        exec (.evtHead tag v) s = .next (s.answer (.host tag.toNat) 0 0 (.err errMalformed 0))) ∧
      (2 ^ 32 ≤ v.toNat → exec (.evtHead tag v) s = .next (s.answer (.host tag.toNat) 0 0 (.err errValue 0))))

/-- A queue doorbell submits the ops up to the new tail; one that would leave more than 1,024 ops submitted and not retired is ignored and counted (R166). -/
def Obligations.HostDoorbells : Prop :=
  (∀ (tag : BitVec 12) (q : Fin 4) (v : BitVec 64) (s : State), Running s → s.hl.state = .up → s.hl.held = [] →
    (s.hl.session = false → exec (.queueDb tag q v) s = .next (s.answer (.host tag.toNat) 0 0 (.refused 3))) ∧
    (s.hl.session = true → (s.queue q).confRing = 0xFFFFFFFF → exec (.queueDb tag q v) s = .next (s.answer (.host tag.toNat) 0 0 (.err errAccess 0))) ∧
    (s.hl.session = true → (s.queue q).confRing ≠ 0xFFFFFFFF → (s.queue q).confCpl ≠ 0xFFFFFFFF →
      let n := (v.toNat + 65536 - (s.queue q).tail % 65536) % 65536
      (2 ^ 16 ≤ v.toNat → exec (.queueDb tag q v) s = .next (s.answer (.host tag.toNat) 0 0 (.err errValue 0))) ∧
      (v.toNat < 2 ^ 16 → n ≠ 0 → n + ((s.queue q).submitted - (s.queue q).done) ≤ 1024 →
        exec (.queueDb tag q v) s = .next (({ s with queues := mset {} s.queues q ({ s.queue q with tail := v.toNat, submitted := (s.queue q).submitted + n } : QueueSt) }).answer (.host tag.toNat) 0 0 (.ok []))) ∧
      (v.toNat < 2 ^ 16 → n ≠ 0 → 1024 < n + ((s.queue q).submitted - (s.queue q).done) →
        exec (.queueDb tag q v) s = .next ((s.count 0x0B).answer (.host tag.toNat) 0 0 .okIgnored)) ∧
      (v.toNat < 2 ^ 16 → n = 0 → exec (.queueDb tag q v) s = .next (s.answer (.host tag.toNat) 0 0 .okIgnored)))) ∧
  (∀ (s : State) (q : Nat), s.nextDesc q = leNat (s.mem.readN (stagingBase + (s.queue q).confRing + 64 * ((s.queue q).admitted % 1024)) 64))

/-- A resume doorbell acts only on the halted context and fault it names; eight frames of a reset message reset the device or a processor (06_streams_memory.md, 11_host_link.md, 13_firmware.md, 14_reset_bringup.md). -/
def Obligations.ResumesAndResetMessages : Prop :=
  (∀ (tag : BitVec 12) (c : Fin 64) (v : BitVec 64) (s : State), Running s → s.hl.state = .up → s.hl.held = [] → v.toNat < 2 ^ 16 →
    (∀ run a, (s.ctx c).run = some run → (s.ctx c).st = .halted → v.toNat = (s.ctx c).faultSeq →
      s.translateFresh run.write ((s.ctx c).addr run run.issued) = .ok a → ∃ u : State,
      exec (.resumeDb tag c v) s = .next ((u.settle).answer (.host tag.toNat) 0 0 (.ok [])) ∧
      u = { s with
        xcache := s.xcache.filter (fun e => decide (((s.ctx c).addr run run.issued).toNat / pageSize e.level ≠ e.page * 2 ^ 16 / pageSize e.level))
        ctxs := mset {} s.ctxs c { s.ctx c with st := .armed } }) ∧
    ((s.ctx c).st ≠ .halted ∨ v.toNat ≠ (s.ctx c).faultSeq →
      exec (.resumeDb tag c v) s = .next ((s.count 0x11).answer (.host tag.toNat) 0 0 .okIgnored))) ∧
  (∀ s : State, Running s →
    (s.hl.streak.1 = 1 → 8 ≤ s.hl.streak.2.2 → ∃ u : State, exec .deviceResetMessage s = .next (u.linkDown.assertReset 2 0x05) ∧
      u = { s with hl := { s.hl with streak := (0, 0, 0) } }) ∧
    (s.hl.streak.2.2 < 8 → exec .deviceResetMessage s = .next s ∧ exec .processorResetMessage s = .next s) ∧
    (s.hl.streak.1 = 2 → 8 ≤ s.hl.streak.2.2 →
      (s.hl.streak.2.1 < 102 → exec .processorResetMessage s =
        .next (({ s with hl := { s.hl with streak := (0, 0, 0) } }).requestProc s.hl.streak.2.1 3 0)) ∧
      (102 ≤ s.hl.streak.2.1 → exec .processorResetMessage s = .next { s with hl := { s.hl with streak := (0, 0, 0) } })))

/-- READ, WRITE, SEG_INIT, SEG_ACK, SEGMENT, ABORT and RESET frames for this node are served while the port is Active (12_object_dictionary.md). -/
def Obligations.FieldPortFramesAreServed : Prop :=
  ∀ (id : BitVec 29) (d : List Byte) (s : State), Running s → s.fp.state = .active → s.runs procBarker = true → s.fp.rsp.length < 32 →
    bits id.toNat 0 8 = s.obj 0x0500 4 → bits id.toNat 8 8 ≠ 0 → bits id.toNat 8 8 ≠ 0xFF → bits id.toNat 8 8 ≠ s.obj 0x0500 4 →
    let node := bits id.toNat 8 8
    let index := pByte d 2 + 256 * pByte d 3
    (bits id.toNat 16 8 = 1 → exec (.read id d) s = .next (s.readNow (.field node (pByte d 0) 2) index (pByte d 4) 0 0)) ∧
    (bits id.toNat 16 8 = 3 → s.winh = false → pByte d 5 ≤ 56 → 8 + pByte d 5 ≤ d.length →
      exec (.write id d) s = .next (s.writeNow (.field node (pByte d 0) 4) index (pByte d 4) ((d.drop 8).take (pByte d 5)) 0)) ∧
    (bits id.toNat 16 8 = 3 → s.winh = true → exec (.write id d) s =
      .next ((s.count 0x2F).fpRespond { service := 4, node := node, bytes := fpHeader (pByte d 0) 0x23 index (pByte d 4) 0 0 })) ∧
    (bits id.toNat 16 8 = 5 → s.winh = false → pByte d 6 % 2 = 1 → s.fp.seg = none → 12 ≤ d.length →
      0 < leAt d 8 4 → leAt d 8 4 ≤ 65535 →
      exec (.segInit id d) s = .next { s with fp := { s.fp with
        seg := some { node := node, tid := pByte d 0, write := true, index := index, sub := pByte d 4, total := leAt d 8 4, last := s.time },
        rsp := s.fp.rsp ++ [{ service := 6, node := node, bytes := fpHeader (pByte d 0) 0 index (pByte d 4) 4 0 ++ leBytes 4 (leAt d 8 4) }] } }) ∧
    (∀ g : Seg, s.fp.seg = some g → bits id.toNat 16 8 = 7 → s.winh = false → g.write = true → g.done = false → g.node = node → g.tid = pByte d 0 →
      pByte d 2 = g.next % 256 → d.length = 64 → 60 < g.total - g.data.length → pByte d 3 % 2 = 0 →
      exec (.segment id d) s = .next { s with fp := { s.fp with
        seg := some { g with data := g.data ++ d.drop 4, next := g.next + 1, last := s.time, done := false, status := 0 },
        rsp := s.fp.rsp ++ [{ service := 8, node := node, bytes := [BitVec.ofNat 8 g.tid, 0, BitVec.ofNat 8 (pByte d 2), 0] }] } }) ∧
    (∀ g : Seg, s.fp.seg = some g → bits id.toNat 16 8 = 8 → g.write = false → g.done = false → g.node = node → g.tid = pByte d 0 →
      pByte d 2 = (g.next - 1) % 256 →
      (60 * g.next < g.total → exec (.segAck id d) s = .next { s with fp := { s.fp with
        seg := some { g with next := g.next + 1, last := s.time }, rsp := s.fp.rsp ++ [g.frame g.next] } }) ∧
      (g.total ≤ 60 * g.next → exec (.segAck id d) s = .next { s with fp := { s.fp with seg := none } })) ∧
    (∀ g : Seg, s.fp.seg = some g → bits id.toNat 16 8 = 9 → g.done = false → g.node = node → g.tid = pByte d 0 →
      exec (.abort id d) s = .next { s with fp := { s.fp with seg := none } }) ∧
    (bits id.toNat 16 8 = 0x0B → bit s.rst.options 24 = true → s.winh = false → pByte d 8 = s.obj 0x0500 4 → pByte d 9 = s.obj 0x0500 4 ^^^ 0xFF →
      exec (.reset id d) s = .next { s with fp := { s.fp with
        rsp := { service := 0x0C, node := node, bytes := fpHeader (pByte d 0) 0 index (pByte d 4) 0 0 } :: s.fp.rsp,
        resetAt := some (s.fp.resetAt.getD s.time) } })

/-- A field port that is not Active only counts requests for it, and a frame for another node or from no node does nothing (12_object_dictionary.md). -/
def Obligations.FieldPortDiscardsWhenNotActive : Prop :=
  ∀ (id : BitVec 29) (d : List Byte) (s : State) (i : Instr), Running s →
    i = .read id d ∨ i = .write id d ∨ i = .segInit id d ∨ i = .segment id d ∨ i = .segAck id d ∨ i = .abort id d ∨ i = .reset id d →
    (bits id.toNat 0 8 ≠ s.obj 0x0500 4 ∨ bits id.toNat 8 8 = 0 ∨ bits id.toNat 8 8 = 0xFF ∨ bits id.toNat 8 8 = s.obj 0x0500 4 →
      exec i s = .next s) ∧
    (s.fp.state ≠ .active → exec i s = .next s ∨ exec i s = .next (s.count 0x2E))

/-- A frame starts only with a token on an Active port, responses before events; a sent frame leaves its queue, a lost or spoiled one stays (12_object_dictionary.md). -/
def Obligations.FieldPortTransmitsUnderTheTokenBucket : Prop :=
  ∀ s : State, Running s →
    (s.fp.state = .active → s.fp.silentPin = false → s.fp.txErr ≤ 255 → 0 < s.fp.tokens →
      (∀ f rest, s.fp.rsp = f :: rest → ∃ u : State, exec (.frameTransmit .sent) s = .next u ∧
        u.fp.rsp = rest ∧ u.fp.evt = s.fp.evt ∧ u.fp.sent = s.fp.sent ++ [s.onBus f] ∧ u.fp.tokens = s.fp.tokens - 1 ∧ u.fp.txErr = s.fp.txErr - 1 ∧
        u = { s with fp := { s.fp with
          rsp := rest, sent := u.fp.sent, tokens := s.fp.tokens - 1, refillAt := u.fp.refillAt, txErr := s.fp.txErr - 1, resetSent := u.fp.resetSent } }) ∧
      (∀ e rest, s.fp.rsp = [] → s.fp.evt = e :: rest → ∃ u : State, exec (.frameTransmit .sent) s = .next u ∧
        u.fp.evt = rest ∧ u.fp.rsp = [] ∧ u.fp.sent = s.fp.sent ++ [s.onBus (s.eventFrame e)] ∧ u.fp.tokens = s.fp.tokens - 1) ∧
      (∀ f rest, s.fp.rsp = f :: rest → exec (.frameTransmit .lost) s = .next { s with fp := { s.fp with
        tokens := s.fp.tokens - 1,
        refillAt := if s.obj 0x0500 9 ≤ s.fp.tokens then some (s.time + 150 * (8000000 / s.obj 0x0500 8)) else s.fp.refillAt } }) ∧
      (∀ f rest, s.fp.rsp = f :: rest → ∃ u : State, exec (.frameTransmit .error) s = .next u ∧
        u.fp.rsp = s.fp.rsp ∧ u.fp.txErr = min (s.fp.txErr + 8) 65535 ∧ u.fp.tokens = s.fp.tokens - 1)) ∧
    (s.fp.tokens = 0 → ∀ o, exec (.frameTransmit o) s = .next s) ∧
    (s.fp.rsp = [] → s.fp.evt = [] → ∀ o, exec (.frameTransmit o) s = .next s) ∧
    (∀ w, s.fp.refillAt = some w →
      (w ≤ s.time → s.fp.tokens < s.obj 0x0500 9 → ∃ u : State, exec .tokenRefill s = .next u ∧ u.fp.tokens = s.fp.tokens + 1 ∧
        u = { s with fp := { s.fp with tokens := s.fp.tokens + 1, refillAt := u.fp.refillAt } }) ∧
      (s.time < w → exec .tokenRefill s = .next s))

/-- Bus-off and the flag limit disable the port until it is enabled again, FB_SILENT pins it, and an accepted RESET executes (12_object_dictionary.md, 14_reset_bringup.md). -/
def Obligations.FieldPortFaultConfinement : Prop :=
  (∀ s : State, Running s →
    (255 < s.fp.txErr → s.fp.state = .active → ∃ u : State, exec .busOff s = .next u ∧ u.fp.state = .busOff ∧ u.dict.objs = mset 0 s.dict.objs 0x50002 0 ∧ u.fp.seg = none ∧
      u = (((s.setObj 0x0500 2 0).fpEnter .busOff).event 4 1 2 (field 0 8 (min (s.fp.txErr - 8) 255)))) ∧
    (s.fp.txErr ≤ 255 → exec .busOff s = .next s) ∧
    (s.fp.recovering = true → s.fp.state = .busOff → ∃ u : State, exec .busOffRecovery s = .next u ∧ u.fp.txErr = 0 ∧ u.fp.rxErr = 0 ∧
      u.fp.recovering = false ∧ u.fp.state = (if s.fp.silentPin then .pinned else .active)) ∧
    (s.fp.state = .active → ∀ n : Fin 256,
      let kept := s.fp.errFlags.filter (fun t => decide (s.time < t + 1200000000)) ++
        List.replicate (if s.fp.txErr ≤ 127 then min n.val (128 - s.fp.rxErr) else 0) s.time
      (kept.length ≤ s.obj 0x0500 0x0B → exec (.flagLimit n) s = .next { s with fp := { s.fp with rxErr := min (s.fp.rxErr + n) 255, errFlags := kept } }) ∧
      (s.obj 0x0500 0x0B < kept.length → ∃ u : State, exec (.flagLimit n) s = .next u ∧ u.fp.state = .flagLimit ∧ u.dict.objs = mset 0 s.dict.objs 0x50002 0)) ∧
    (s.fp.pinnedWait = true → s.fp.state = .pinned → ∃ u : State, exec .busIdleDetect s = .next u ∧ u.fp.state = .active ∧ u.fp.pinnedWait = false) ∧
    (s.fp.pinnedWait = false → exec .busIdleDetect s = .next s) ∧
    (∀ g : Seg, s.fp.seg = some g → s.time < g.last + 1200000000 → exec .segTimeout s = .next s) ∧
    (∀ g : Seg, s.fp.seg = some g → g.last + 1200000000 ≤ s.time → ∃ u : State, exec .segTimeout s = .next u ∧ u.fp.seg = none ∧
      (g.done = false → s.fp.rsp.length < 32 → u.fp.rsp = s.fp.rsp ++ [{ service := 9, node := g.node, bytes := fpHeader g.tid 0x24 g.index g.sub 0 0 }])) ∧
    (∀ w, s.fp.resetAt = some w →
      (s.fp.resetSent = true ∨ w + 120000000 ≤ s.time → ∃ u : State, exec .fpResetExecute s = .next u ∧ u.dark = true ∧ u = s.assertReset 2 0x0A) ∧
      (s.fp.resetSent = false → s.time < w + 120000000 → exec .fpResetExecute s = .next s))) ∧
  (∀ s : State, (∃ u : State, exec .fbSilentAssert s = .next u ∧ u.fp.silentPin = true ∧ u.fp.pinnedWait = false ∧
      u.fp.state = (if s.fp.state = .active then .pinned else s.fp.state)) ∧
    (exec .fbSilentRelease s = .next { s with fp := { s.fp with silentPin := false, pinnedWait := decide (s.fp.state = .pinned) } }))

/-- Every converter code gives the integer of R57, the class of its residual, and an out-of-range integer is ambiguous and clamped (R57, R58, R59). -/
def Obligations.ReadingsConvertByTheirResidual : Prop :=
  ∀ high : Bool, ∀ lo hi : Int, lo = (if high then -512 else 0) → hi = (if high then 448 else 960) →
    (∀ n r : Int, lo ≤ n → n ≤ hi → -2 ≤ r → r ≤ 2 → convert high (256 + 8 * (n - lo) + r) = (n, .clean)) ∧
    (∀ n r : Int, lo ≤ n → n ≤ hi → r = -3 ∨ r = 3 → convert high (256 + 8 * (n - lo) + r) = (n, .warn)) ∧
    (∀ n : Int, lo ≤ n → n ≤ hi → convert high (256 + 8 * (n - lo) + 4) = (n, .ambiguous)) ∧
    (∀ c : Int, (c - 256 + 3) / 8 + lo < lo → convert high c = (lo, .ambiguous)) ∧
    (∀ c : Int, hi < (c - 256 + 3) / 8 + lo → convert high c = (hi, .ambiguous))

/-- The weighted bit-planes of an element sum to the element, and the digits of a weight recombine to the weight (02_digit_arithmetic.md). -/
def Obligations.PlanesAndDigitsRecombine : Prop :=
  (∀ (b : Nat) (x : Int), 1 ≤ b → -(2 ^ (b - 1) : Int) ≤ x → x < (2 ^ (b - 1) : Int) →
    ((List.range b).map (fun p => if (toU b x).testBit p then planeWeight b p else 0)).sum = x) ∧
  (∀ w : Int, -8 ≤ w → w ≤ 7 → ∃ h, digitsOf 0 w = [h] ∧ digitVal true h = w) ∧
  (∀ w : Int, -128 ≤ w → w ≤ 127 → ∃ h l, digitsOf 1 w = [h, l] ∧ 16 * digitVal true h + digitVal false l = w) ∧
  (∀ w : Int, -2048 ≤ w → w ≤ 2047 → ∃ h m l, digitsOf 2 w = [h, m, l] ∧ 256 * digitVal true h + 16 * digitVal false m + digitVal false l = w)

/-- A contribution is added exactly inside the alignment window, counted, and flagged where it saturates; a zero one only counts (R73, R74, R75). -/
def Obligations.AccumulatorsAddExactlyOrFlag : Prop :=
  ∀ (x : Acc) (r e : Int),
    (x.count < 2 ^ 30 → (x.add r e).count = x.count + 1) ∧
    (x.count = 2 ^ 30 → (x.add r e).count = 2 ^ 30 ∧ (x.add r e).inexact = true) ∧
    (r = 0 → (x.add r e).a = x.a ∧ (x.add r e).overrange = x.overrange ∧ (x.count < 2 ^ 30 → (x.add r e).inexact = x.inexact)) ∧
    (x.overrange = false → 0 ≤ e - x.exp → e - x.exp ≤ 56 →
      let y := x.a + r * 2 ^ (e - x.exp).toNat
      (-(2 ^ 127 : Int) ≤ y → y ≤ 2 ^ 127 - 1 → (x.add r e).a = y ∧ (x.add r e).overrange = false ∧ (x.count < 2 ^ 30 → (x.add r e).inexact = x.inexact)) ∧
      (r ≠ 0 → y < -(2 ^ 127 : Int) → (x.add r e).a = -(2 ^ 127 : Int) ∧ (x.add r e).overrange = true) ∧
      (r ≠ 0 → 2 ^ 127 - 1 < y → (x.add r e).a = 2 ^ 127 - 1 ∧ (x.add r e).overrange = true)) ∧
    (x.overrange = true → (x.add r e).a = x.a ∧ (x.add r e).overrange = true) ∧
    (x.add r e).exp = x.exp ∧ (x.add r e).poison = x.poison ∧ (x.add r e).pass = x.pass

/-- Each op command admits the queue's next descriptor where it is of that op; a faulty descriptor ends at admission (05_operations.md, 04_weight_residency.md, 03_weir.md, 09_fabric.md). -/
def Obligations.DescriptorsAreAdmitted : Prop :=
  ∀ (q : Fin 4) (s : State), Running s →
    let d := s.nextDesc q
    let n := (s.queue q).admitted
    let o : Op := { queue := q, seq := n, desc := d, kind := opKind (dOpcode d), tag := dTag d, ordered := s.admissions }
    let u : State := { s with ops := s.ops ++ [o], admissions := s.admissions + 1, queues := mset {} s.queues q { s.queue q with admitted := n + 1 } }
    (∀ x ∈ s.ops, ¬ (x.queue = q.val ∧ x.seq = n)) → s.slotErrs q n = false →
      (s.canAdmit q = true → s.admitFault d = none → dInEpoch d = false →
        (opKind (dOpcode d) = .mvm → dResume d = false → exec (.mvm q) s = .next (u.consider q n)) ∧
        (opKind (dOpcode d) = .mvg → dResume d = false → exec (.mvg q) s = .next (u.consider q n)) ∧
        (opKind (dOpcode d) = .ldw → dMode d = false → exec (.ldwCopy q) s = .next (u.consider q n)) ∧
        (opKind (dOpcode d) = .ldw → dMode d = true → exec (.ldwAdopt q) s = .next (u.consider q n)) ∧
        (opKind (dOpcode d) = .kap → exec (.kap q) s = .next (u.consider q n)) ∧
        (opKind (dOpcode d) = .nrm → exec (.nrm q) s = .next (u.consider q n)) ∧
        (opKind (dOpcode d) = .smx → exec (.smx q) s = .next (u.consider q n)) ∧
        (opKind (dOpcode d) = .act → dFunc d = 0 → exec (.actRead q) s = .next (u.consider q n)) ∧
        (opKind (dOpcode d) = .act → dFunc d = 1 → exec (.actWrite q) s = .next (u.consider q n)) ∧
        (opKind (dOpcode d) = .act → dFunc d = 2 → exec (.actAdd q) s = .next (u.consider q n)) ∧
        (opKind (dOpcode d) = .act → dFunc d = 3 → exec (.actSave q) s = .next (u.consider q n)) ∧
        (opKind (dOpcode d) = .act → dFunc d = 4 → exec (.actRestore q) s = .next (u.consider q n)) ∧
        (opKind (dOpcode d) = .act → dFunc d = 5 → exec (.actRelease q) s = .next (u.consider q n)) ∧
        (opKind (dOpcode d) = .xfr → exec (.xfr q) s = .next (u.consider q n)) ∧
        (opKind (dOpcode d) = .wtk → exec (.wtk q) s = .next (u.consider q n)) ∧
        (opKind (dOpcode d) = .spb → exec (.spb q) s = .next (u.consider q n)) ∧
        (opKind (dOpcode d) = .spc → exec (.spc q) s = .next (u.consider q n)) ∧
        (opKind (dOpcode d) = .spq → exec (.spq q) s = .next (u.consider q n)) ∧
        (opKind (dOpcode d) = .fnc → exec (.fnc q) s = .next (u.consider q n))) ∧
      (u.canSchedule = false ∨ u.depsDone o = false → u.consider q n = u) ∧
      (∀ (c : Instr) (mine : Prop), (c, mine) ∈ [
        (Instr.mvm q, opKind (dOpcode d) = .mvm), (.mvg q, opKind (dOpcode d) = .mvg),
        (.ldwCopy q, opKind (dOpcode d) = .ldw ∧ dMode d = false), (.ldwAdopt q, opKind (dOpcode d) = .ldw ∧ dMode d = true),
        (.kap q, opKind (dOpcode d) = .kap), (.nrm q, opKind (dOpcode d) = .nrm), (.smx q, opKind (dOpcode d) = .smx),
        (.actRead q, opKind (dOpcode d) = .act ∧ dFunc d = 0), (.actWrite q, opKind (dOpcode d) = .act ∧ dFunc d = 1),
        (.actAdd q, opKind (dOpcode d) = .act ∧ dFunc d = 2), (.actSave q, opKind (dOpcode d) = .act ∧ dFunc d = 3),
        (.actRestore q, opKind (dOpcode d) = .act ∧ dFunc d = 4), (.actRelease q, opKind (dOpcode d) = .act ∧ dFunc d = 5),
        (.xfr q, opKind (dOpcode d) = .xfr), (.wtk q, opKind (dOpcode d) = .wtk), (.spb q, opKind (dOpcode d) = .spb),
        (.spc q, opKind (dOpcode d) = .spc), (.spq q, opKind (dOpcode d) = .spq), (.fnc q, opKind (dOpcode d) = .fnc)] → mine →
        s.canAdmit q = true → ∀ b, s.admitFault d = some b → ∃ t : State, exec c s = .next t ∧
        (t.op q n).map (fun x => (x.stage, x.status, x.detail, x.tag)) = some (.completed, 1, b % 2 ^ 32, dTag d) ∧
        t.queues = u.queues ∧ t.admissions = u.admissions) ∧
      (s.canAdmit q = false → ∀ c ∈ ([
        .mvm q, .mvg q, .ldwCopy q, .ldwAdopt q, .kap q, .nrm q, .smx q, .actRead q, .actWrite q, .actAdd q, .actSave q, .actRestore q, .actRelease q, .xfr q, .wtk q, .spb q, .spc q, .spq q, .fnc q] : List Instr), exec c s = .next s)

/-- An admitted op whose dependencies have completed is failed by a failed one, or becomes ready and starts as its kind does (05_operations.md, 06_streams_memory.md). -/
def Obligations.DependenciesStartOrFailOps : Prop :=
  ∀ (q : Fin 4) (slot : Fin 1024) (o : Op) (s : State), Running s → s.slotOp q slot = some o → s.op q o.seq = some o → o.queue = q →
    (o.stage = .admitted → s.canSchedule = true → s.depsDone o = true →
      (∀ f, s.depFailed o = some f → exec (.opDepsComplete q slot) s = .next ((s.complete q o.seq 0x21 f).settle)) ∧
      (s.depFailed o = none →
        let r := s.modOp q o.seq (fun x => { x with ready := true })
        (o.kind = .mvm ∨ o.kind = .mvg ∨ o.kind = .ldw ∨ o.kind = .kap → exec (.opDepsComplete q slot) s = .next r.settle) ∧
        (o.kind = .fnc → exec (.opDepsComplete q slot) s = .next (r.modOp q o.seq (fun x => { x with stage := .started })).settle) ∧
        (o.kind = .spb → (s.epoch (dNamed o.desc)).st = .closed → ∃ u : State, exec (.opDepsComplete q slot) s = .next u.settle ∧
          (u.epoch (dNamed o.desc)).st = .opened ∧ (u.epoch (dNamed o.desc)).stamp = (s.epochSerial % 8192) * 8 + dNamed o.desc ∧
          (u.epoch (dNamed o.desc)).serial = s.epochSerial + 1 ∧ u.epochSerial = s.epochSerial + 1 ∧
          u.lastStamp = (s.epochSerial % 8192) * 8 + dNamed o.desc ∧ (∀ k, k ≠ dNamed o.desc → u.epoch k = s.epoch k)) ∧
        (o.kind = .wtk → o.epoch = none → dCount o.desc ≤ s.token (dToken o.desc) → ¬ (s.casc.state = .broken ∧ 0xF0 ≤ dToken o.desc) →
          mwf 0 s.tokens = true → s.token (dToken o.desc) < 2 ^ 32 → ∃ u : State, exec (.opDepsComplete q slot) s = .next u.settle ∧
          u.token (dToken o.desc) = s.token (dToken o.desc) - dCount o.desc ∧ (∀ k, k ≠ dToken o.desc → u.token k = s.token k)) ∧
        (o.kind = .spc → (s.epoch (dNamed o.desc)).st = .opened → (s.epoch (dNamed o.desc)).doomed = false → ∃ u : State,
          exec (.opDepsComplete q slot) s = .next u.settle ∧ (u.epoch (dNamed o.desc)).st = .committing ∧
          (u.epoch (dNamed o.desc)).spc = some (q.val, o.seq) ∧ (∀ k, k ≠ dNamed o.desc → u.epoch k = s.epoch k)))) ∧
    (s.canSchedule = false ∨ s.depsDone o = false → exec (.opDepsComplete q slot) s = .next s) ∧
    (s.nextToArm = some o → s.canSchedule = true → s.blockReset 2 0 = false → o.mvm = none → o.kind = .ldw → (s.region (dRegion o.desc)).valid = true →
      o.stage = .admitted → s.unfitUse o (s.usesOf o) = none → ((s.usesOf o).map CtxUse.extra).sum ≤ s.poolFree →
      ∃ u : State, exec (.streamArm q slot) s = .next u.settle ∧ (u.ctx (dStream o.desc)).st = .armed ∧
        ((u.ctx (dStream o.desc)).run.map (fun r => (r.done, r.op))) = some (0, some (q.val, o.seq)) ∧
        (u.op q o.seq).map (·.armed) = some [dStream o.desc] ∧
        u = { s with ctxs := u.ctxs, ops := u.ops })

/-- Op start gives the Basin to the first op that can have it; each pass is issued once and advances the op by one; a repeat takes the lowest pass that awaits it (01_basin.md, 02_digit_arithmetic.md, 03_weir.md, 05_operations.md). -/
def Obligations.PassesAreIssuedAndRepeated : Prop :=
  ∀ s : State, Running s →
    (∀ (q : Fin 4) (slot : Fin 1024) (o : Op), s.slotOp q slot = some o → o.waitsStart = true → s.canSchedule = true →
      (∀ st det, s.atStart o = .err st det → exec (.opStart q slot) s = .next ((s.complete q o.seq st det).settle)) ∧
      (∀ k bs e b xs, s.atStart o = .go k → s.basinFree o = true → s.nextToStart = some o → s.feed o = some bs →
        parseInput ((s.opRegions o).headD {}).T bs = some (e, b, xs) → dResume o.desc = false →
        ∃ u : State, exec (.opStart q slot) s = .next u ∧ u = s.takeBasin o k e b xs ∧ u.basin.running = some (o.queue, o.seq) ∧
          (s.basin.running.isSome = true → u.basin.finishing = s.basin.running) ∧ (u.set k).st = .filling) ∧
      (∀ k, s.atStart o = .go k → s.basinFree o = false → exec (.opStart q slot) s = .next s)) ∧
    (∀ (o : Op) (m : MvmRun) (rd : List Reading), s.issueOp = some o → o.mvm = some m →
      (m.reread = false → s.holdsIssue o m = false → m.next < m.bits → s.mayIssue o = true → s.heldByFinishing = false →
        let cs := s.convs m m.next rd
        let u := ((((s.noteWarns cs).count 0x01 (ambigsOf m.next cs).length).addPartials m m.next cs (fun d => decide (d ∉ ambiguousCols cs))).takeSlot o m (decide (m.next + 1 = m.bits)))
        exec (.pass rd) s = .next (u.modRun o (fun x => { x with
          next := m.next + 1, fresh := x.fresh ++ ambigsOf m.next cs, firstAmb := x.firstAmb ++ ambigsOf m.next cs,
          repeats := if ambiguousCols cs = [] then x.repeats else x.repeats ++ [{ pass := m.next, cols := ambiguousCols cs }] }))) ∧
      (s.holdsIssue o m = true ∨ m.bits ≤ m.next ∨ s.heldByFinishing = true → exec (.pass rd) s = .next s)) ∧
    (∀ (o : Op) (m : MvmRun) (tile : Fin 25088) (a : Ambig), s.ambiguousOp tile = some o → o.mvm = some m → m.fresh = [a] → 128 * a.tier + a.group = tile →
        (∃ u : State, exec (.ambiguousInteger tile) s = .next u ∧
          u = (((if (m.repeats.any (fun r => decide (r.pass = a.pass))) = true ∧ m.stopIssue = false then s.startFault 0x010F 0 else s)).modRun o (fun x => { x with
            fresh := x.fresh.filter (fun b => decide (b ∉ [a])),
            stopIssue := x.stopIssue || m.repeats.any (fun r => decide (r.pass = a.pass)) })).spareTakes tile a.col .relieved)) ∧
    (∀ (o : Op) (m : MvmRun) (rd : List Reading) (r : RepeatCol), s.passOp = some o → o.mvm = some m → m.lowestRepeat = some r → m.reread = false →
        m.stopIssue = true → m.freshFirst = [] → s.mayIssue o = true →
        s.litTilesWith o (fun t => t.pendingMap.any (fun m => decide (m.why ≠ .carousel))) = [] → (∀ f ∈ s.flt.starts, f.1 ≠ 0x010F) → ∃ u v : State, exec (.passRepeat rd) s = .next u ∧
        v = ((((((s.noteWarns (s.convs m r.pass rd)).count 0x01 (ambigsOf r.pass (s.convs m r.pass rd)).length).addPartials
          m r.pass (s.convs m r.pass rd) (fun d => decide (d ∈ r.cols))).takeSlot o m (decide (m.next = m.bits) && decide (m.repeats.length = 1))).count 0x02).modOp
          o.queue o.seq (fun x => x.flag flagRepeated)) ∧
        u = v.modRun o (fun x => { x with
          repeats := x.repeats.filter (fun y => decide (y.pass ≠ r.pass)), stopIssue := decide (x.repeats.length ≠ 1),
          poisonCols := (x.poisonCols ++ (ambiguousCols (s.convs m r.pass rd)).filter (fun d => decide (d ∈ r.cols))).dedup,
          fresh := x.fresh ++ (ambigsOf r.pass (s.convs m r.pass rd)).filter (fun a => decide (a.d ∈ r.cols)),
          firstAmb := x.firstAmb ++ (ambigsOf r.pass (s.convs m r.pass rd)).filter (fun a => decide (a.d ∈ r.cols)) })) ∧
    (∀ (tile : Fin 25088) (why : SpareUse), (s.tile tile).pendingMap = [{ col := none, why := why }] → (s.tile tile).suspended = none →
      (s.tile tile).calib = none → s.mapReady tile = true → exec (.columnMapChange tile) s = .next ((({ s with
        tiles := mset {} s.tiles tile { s.tile tile with pendingMap := [], serves := none, why := .idle, loading := none } } : State).fillColumn tile 32 0).loadSpare tile))

/-- The last pass contributes the pass registers to the set, drains run one at a time in order, and completed ops retire in order with a record (03_weir.md, 05_operations.md). -/
def Obligations.ContributionsDrainAndRetire : Prop :=
  ∀ s : State, Running s →
    (∀ (o : Op) (m : MvmRun), s.contribOp = some o → o.mvm = some m → m.next < m.bits → exec .opContribution s = .next s) ∧
    (∀ (o : Op) (m : MvmRun), s.contribOp = some o → o.mvm = some m → m.bits ≤ m.next → m.repeats = [] → m.fresh = [] → m.poisonCols = [] → m.set < 2 →
      dDrainMode o.desc ≠ 2 → ∃ u : State, exec .opContribution s = .next u ∧ u.basin.running ≠ some (o.queue, o.seq) ∧
        u.basin.finishing ≠ some (o.queue, o.seq) ∧ (u.set m.set).st = .draining ∧
        u.drainOrder = s.drainOrder ++ [(o.queue, o.seq)] ∧ (u.op o.queue o.seq).map (·.stage) = some .draining) ∧
    (s.drainBusy = true → exec .drainStart s = .next s) ∧
    (∀ (o : Op) (q n k : Nat), s.drainBusy = false → s.drainOrder.head? = some (q, n) → s.op q n = some o → o.set = some k → ∃ u : State,
      exec .drainStart s = .next u ∧ u.drainBusy = true ∧ u.drainOrder = s.drainOrder ∧
      (u.op q n).map (·.bytes) = some (s.drained o k).record) ∧
    (∀ (o : Op) (q n k : Nat) (p : OutPlan) (run : Run), s.drainBusy = true → s.drainOrder.head? = some (q, n) → s.op q n = some o → o.set = some k →
      o.plan = some p → (s.ctx o.drainCtx).run = some run →
      (run.done < run.need → exec .drainComplete s = .next s) ∧
      (run.need ≤ run.done → o.bytes = [] → oMaskOff p.ocb = 0xFFFFFFFF → exec .drainComplete s = .next
        (((s.toSet k (afterDrain (if o.kind = .nrm then dNrmDrain o.desc else dDrainMode o.desc))).complete q n 0 0).settle))) ∧
    (∀ (o : Op) (q n : Nat), s.helper = some (q, n) → s.op q n = some o → o.epoch = none → o.cancel = 0 → o.due ≤ s.time →
      s.mem.storeErrs (stagingBase + dOutOff o.desc) o.bytes.length = false →
      exec .smxComplete s = .next (((s.store (stagingBase + dOutOff o.desc) o.bytes).complete o.queue o.seq 0 0).settle)) ∧
    (∀ (q : Fin 4) (o : Op), s.op q (s.queue q).done = some o → o.stage = .completed → s.runs procRingmaster = true → ∃ u : State,
      exec (.opRetire q) s = .next (if dNotify o.desc then u.event 1 0 0 o.eventPayload else u) ∧
      (u.op q o.seq) = none ∧ (u.queue q).done = (s.queue q).done + 1 ∧ (u.queue q).retired = ((s.queue q).retired + 1) % 65536 ∧
      u.mem = s.mem.store (stagingBase + (s.queue q).confCpl + 32 * (o.seq % 1024)) (leBytes 32 o.record) ∧
      u = { s with mem := u.mem, ops := u.ops, queues := u.queues }) ∧
    (∀ (q : Fin 4) (o : Op), s.op q (s.queue q).done = some o → o.stage ≠ .completed → exec (.opRetire q) s = .next s)

/-- A running op gives way at a pass boundary only where the rules hold, and epochs retire or time out (05_operations.md, 09_fabric.md). -/
def Obligations.PreemptionAndEpochEnds : Prop :=
  ∀ s : State, Running s →
    (∀ (o : Op) (m : MvmRun), s.runningOp = some o → o.mvm = some m →
      (dSave o.desc ≠ offNone → s.obj 0x1800 1 < m.left → s.basin.preempted = none → s.mapsDue = false → s.pauseDue = false →
        (∃ x ∈ s.ops, x.queue < o.queue ∧ s.couldStart x (some m.set) = true) →
        ∃ u : State, exec .preempt s = .next u ∧ u = s.doPreempt o ∧ u.basin.running = none ∧ u.basin.preempted = some (o.queue, o.seq)) ∧
      (dSave o.desc = offNone ∨ m.left ≤ s.obj 0x1800 1 ∨ s.basin.preempted ≠ none → exec .preempt s = .next s) ∧
      (∀ w, s.basin.stalledAt = some w → dSave o.desc ≠ offNone → w + s.obj 0x1800 2 ≤ s.time → s.basin.preempted = none → s.mapsDue = false → s.pauseDue = false →
        (∃ x ∈ s.ops, s.couldStart x (some m.set) = true) → exec .stallPreempt s = .next (s.doPreempt o)) ∧
      (s.basin.stalledAt = none → exec .stallPreempt s = .next s)) ∧
    (∀ (o : Op) (m : MvmRun), s.preemptedOp = some o → o.mvm = some m →
      (m.saved = false → m.fresh = [] → stagingOk (dSave o.desc) (s.saveArea o m).length = true →
        s.mem.storeErrs (stagingBase + dSave o.desc) (s.saveArea o m).length = false → exec .suspend s = .next
        ((s.store (stagingBase + dSave o.desc) (s.saveArea o m)).modRun o (fun m => { m with suspended := true, saved := true }))) ∧
      (m.saved = true ∨ m.fresh ≠ [] → exec .suspend s = .next s) ∧
      (s.basinFree o = true → s.couldResume o = true → s.mayResume = true → s.mapsDue = false →
        (∀ x ∈ s.ops, x.queue < o.queue → s.couldStart x none = false) → ∃ u : State, exec .preemptedResume s = .next u ∧
        u.basin.running = some (o.queue, o.seq) ∧ u.basin.preempted = none ∧ u = { s with basin := u.basin, ops := u.ops })) ∧
    (∀ e : Fin 8, s.mayRetire e = false → exec (.epochRetire e) s = .next s) ∧
    (∀ e : Fin 8, s.mayRetire e = true → (∀ w ∈ s.specWrites, w.key ≠ .local_ (s.epoch e).serial ∧ w.key ≠ .self (s.epoch e).serial) →
      ∃ u : State, exec (.epochRetire e) s = .next u.settle ∧ (u.epoch e).retired = true ∧ (u.epoch e).taken = []) ∧
    (∀ (source : BitVec 17) (stamp : BitVec 16), (∀ w ∈ s.specWrites, w.key = .peer source.toNat stamp.toNat → s.time < w.born + s.obj 0x1800 7) →
      (∀ p ∈ s.provTokens, p.key = .peer source.toNat stamp.toNat → s.time < p.born + s.obj 0x1800 7) →
      exec (.peerEpochTimeout source stamp) s = .next s) ∧
    (∀ (source : BitVec 17) (stamp : BitVec 16) (w : SpecWrite), w ∈ s.specWrites → w.key = .peer source.toNat stamp.toNat →
      w.born + s.obj 0x1800 7 ≤ s.time → exec (.peerEpochTimeout source stamp) s = .next (s.dropPeer source.toNat stamp.toNat true)) ∧
    (∀ e : Fin 8, ((s.epoch e).awaiting = [] ∧ ∀ m ∈ s.epochMsgs, m.for_ ≠ e.val) ∨ s.time < (s.epoch e).firstSent + s.obj 0x1800 7 → exec (.epochMessageTimeout e) s = .next s) ∧
    (∀ (e : Fin 8) (w q n : Nat), (s.epoch e).awaiting = [w] → (s.fabTag w).busy = true → (s.fabTag w).kind = .epoch →
      (s.epoch e).firstSent + s.obj 0x1800 7 ≤ s.time → (s.epoch e).spc = some (q, n) →
      let m : State := { s with epochMsgs := s.epochMsgs.filter (fun m => decide (m.for_ ≠ e.val)) }
      exec (.epochMessageTimeout e) s = .next (((((m.releaseTag w).notAwaited w).finish q n 0x11 causeTimeout).modEpoch e (fun _ => {})).settle))

/-- Loads, appends, refresh, grace and digests take a region from Loading to Resident, Mirror-damaged or Failed (04_weight_residency.md). -/
def Obligations.WeightsLoadAppendAndRefresh : Prop :=
  ∀ s : State, Running s →
    (∀ (q : Fin 4) (slot : Fin 1024) (o : Op), s.slotOp q slot = some o → o.queue = q → s.op q o.seq = some o →
      (s.loadMayStart o = true → (∀ st det, s.loadCheck o = .error (st, det) → exec (.ldwStart q slot) s = .next ((s.complete q o.seq st det).settle)) ∧
        (∀ ps, s.loadCheck o = .ok ps → (∀ t ∈ (s.region (dRegion o.desc)).tileList, (s.tile t).calib = none ∧ (s.tile t).why ≠ .carousel) → ∃ u : State,
          exec (.ldwStart q slot) s = .next (u.loadStep q o.seq) ∧ (u.region (dRegion o.desc)).st = .loading ∧
          (u.region (dRegion o.desc)).hwmC = dMark o.desc ∧ (u.region (dRegion o.desc)).hwmP = dMark o.desc ∧
          (u.region (dRegion o.desc)).kapLog = [] ∧ (u.region (dRegion o.desc)).digestState = 1 ∧
          (∀ k, k ≠ dRegion o.desc → u.region k = s.region k) ∧
          u = { s with regions := u.regions, digests := u.digests, ops := u.ops })) ∧
      (s.loadMayStart o = false → exec (.ldwStart q slot) s = .next s) ∧
      (o.kind = .ldw → o.stage = .started → (s.region (dRegion o.desc)).mirrorBytes ≤ o.pos → s.writing (q.val, o.seq) = false → ∃ u : State,
        exec (.ldwComplete q slot) s = .next ((u.complete q o.seq 0 0).settle) ∧ (u.region (dRegion o.desc)).st = .resident ∧
        (u.region (dRegion o.desc)).pages = (s.region (dRegion o.desc)).pendingPages ∧ (∀ k, k ≠ dRegion o.desc → u.region k = s.region k) ∧
        u = { s with regions := u.regions, mem := { s.mem with bad := u.mem.bad } }) ∧
      (o.kind = .kap → o.stage = .admitted → o.ready = true → s.canSchedule = true → s.kapHeld o = false → s.kapBehind o = false → ∀ st det, s.kapCheck o = some (st, det) →
        exec (.kapStart q slot) s = .next ((s.complete q o.seq st det).settle)) ∧
      (∀ bs, o.kind = .kap → o.stage = .admitted → o.ready = true → s.canSchedule = true → s.kapHeld o = false → s.kapBehind o = false → s.kapCheck o = none →
        s.ringsReady (s.region (dRegion o.desc)) = true → s.kapVector o = some bs → dMode o.desc = false →
        (∀ v ∈ (List.range (dKapLen o.desc)).map (kapElem (s.region (dRegion o.desc)).format bs), kapInRange (s.region (dRegion o.desc)).format v = true) →
        s.mem.bad = [] → s.mem.failed = [] → ∃ u : State,
        exec (.kapStart q slot) s = .next (u.modOp q o.seq (fun x => { x with stage := .started, pos := (s.region (dRegion o.desc)).hwmP })) ∧
        u.writes = (s.askDigits 2 (q.val, o.seq) ((s.region (dRegion o.desc)).kapDigits (s.region (dRegion o.desc)).hwmP
          ((List.range (dKapLen o.desc)).map (kapElem (s.region (dRegion o.desc)).format bs)))).writes ∧
        u.region (dRegion o.desc) = { s.region (dRegion o.desc) with kapBegan := (s.region (dRegion o.desc)).kapBegan ++ o.epoch.toList } ∧
        (∀ k, k ≠ dRegion o.desc → u.region k = s.region k) ∧ u = { s with mem := u.mem, writes := u.writes, regions := u.regions }) ∧
      (o.kind = .kap → o.stage = .started → o.epoch = none → s.writing (q.val, o.seq) = false → ∃ u : State, exec (.kapComplete q slot) s = .next ((u.complete q o.seq 0 0).settle) ∧
        (u.region (dRegion o.desc)).hwmP = o.pos + 1 ∧ (u.region (dRegion o.desc)).hwmC = o.pos + 1 ∧
        (∀ k, k ≠ dRegion o.desc → u.region k = s.region k) ∧ u = { s with regions := u.regions })) ∧
    (∀ r : Fin 256, (∀ gs, (s.region r).valid = false ∨ (s.region r).st = .loading ∨ (s.region r).st = .failed → exec (.refresh ⟨r, gs⟩) s = .next s) ∧
      (∀ gs, (s.region r).valid = true → (s.region r).st = .resident ∨ (s.region r).st = .mirrorDamaged →
        exec (.refresh ⟨r, gs⟩) s = .next ((s.mirrorCorrected r gs).rewriteTiles r ((s.region r).tileList.filter (fun t => !(s.cluster (t / 256)).asleep)))) ∧
      (∀ g, (s.region r).mirrorHas g = true → (s.region r).st = .resident → ∃ u : State, exec (.mirrorUncorrectable r g) s = .next u ∧
        (u.region r).st = .mirrorDamaged ∧ (u.region r).graceStart = s.time ∧ g ∈ (u.region r).badGranules ∧ (∀ k, k ≠ r.val → u.region k = s.region k)) ∧
      (∀ g, (s.region r).mirrorHas g = false → exec (.mirrorUncorrectable r g) s = .next s) ∧
      ((s.region r).st = .mirrorDamaged → (s.region r).graceStart + 8 * refreshPeriod ≤ s.time →
        exec (.graceEnd r) s = .next (({ s with regions := mset {} s.regions r { s.region r with st := .failed, graceLeft := 0 } }).condition 0x010E 2 (field 0 8 r))) ∧
      (s.time < (s.region r).graceStart + 8 * refreshPeriod → exec (.graceEnd r) s = .next s)) ∧
    (∀ d ds, s.digests = d :: ds → 8 + (s.region d.region).mirrorBytes ≤ d.message.length → (s.region d.region).st ≠ .loading → ∃ u : State,
      exec .digestComplete s = .next u ∧ (u.region d.region).digest = sha384 d.message ∧ u.digests = ds ∧ (∀ k, k ≠ d.region → u.region k = s.region k) ∧
      u = { s with regions := u.regions, digests := ds }) ∧
    (s.digests = [] → exec .digestComplete s = .next s) ∧
    (∀ c : Fin 98, (s.cluster c).needRewrite = true → s.loopsLocked c = true → (s.cluster c).asleep = false → (s.cluster c).rewriting = false →
      (s.cluster c).inReset = false → exec (.clusterRingRewrite c) s = .next (s.rewriteCluster c)) ∧
    (∀ c : Fin 98, (s.cluster c).needRewrite = false → exec (.clusterRingRewrite c) s = .next s) ∧
    (∀ k : Fin 2, k.val ∉ s.mem.inReset → exec (.stackResetOverrun k) s = .next s) ∧
    (∀ (k : Fin 2) (b : BlockReset), k.val ∈ s.mem.inReset → b ∈ s.rst.blocks → b.kind = 4 → b.num = k → b.since + 2 * refreshPeriod ≤ s.time →
      (∀ x ∈ s.rst.blocks, x.kind = 4 → x.num = k → x = b) → exec (.stackResetOverrun k) s = .next (s.stackMirrors k (b.since + 2 * refreshPeriod)))

/-- The oldest local request of a context moves its bytes, errors stop at the first bad granule, streams halt where they cannot translate (06_streams_memory.md, 17_faults_counters.md). -/
def Obligations.MemoryRequestsCompleteOrFail : Prop :=
  ∀ s : State, Running s →
    (∀ (c : Fin 64) (r : Req) (run : Run), s.oldestLocal c = some r → (s.ctx c).run = some run →
      (¬ (stackOf r.addr ∈ s.mem.inReset ∧ r.addr < dramEnd) → s.mem.bad = [] → s.mem.failed = [] →
        (∀ gs, r.write = false → r.ctx = c → ∃ u : State, exec (.memoryCompletion ⟨c, gs⟩) s = .next (u.arrive r (s.see run.epoch r.addr r.len) none) ∧
          u = { s.noteRead run.epoch r.addr r.len with flt := u.flt }) ∧
        (∀ gs, r.write = true → r.ctx = c → ∃ u : State, exec (.memoryCompletion ⟨c, gs⟩) s =
          .next ((u.store r.addr ((run.data.drop r.pos).take r.len)).arrive r ((run.data.drop r.pos).take r.len) none) ∧ u = { s with flt := u.flt })) ∧
      (∀ gs, stackOf r.addr ∈ s.mem.inReset → r.addr < dramEnd → exec (.memoryCompletion ⟨c, gs⟩) s = .next s)) ∧
    (∀ (c : Fin 64) (r : Req) (run : Run), s.reqs = [r] → r.ctx = c → r.arrived = none → r.path < 2 → (s.ctx c).run = some run → r.addr < dramEnd →
      exec (.memoryError (.stream c)) s = .next (if r.write then (s.markBad (r.addr / 64)).localWrite run r else (s.markBad (r.addr / 64)).localRead run r)) ∧
    (∀ g : Fin 3145728, stagingBase / 64 + g.val ∉ s.mem.bad →
      exec (.memoryError (.staging g)) s = .next { s with mem := { s.mem with bad := s.mem.bad ++ [stagingBase / 64 + g.val] } }) ∧
    (∀ c : Fin 64, (s.ctx c).st ≠ .armed → exec (.streamHalt c) s = .next s) ∧
    (∀ (c : Fin 64) (run : Run) (n code : Nat), s.standsAt c = some (n, code) → (s.ctx c).run = some run →
      (∀ x o, run.op = some x → s.op x.1 x.2 = some o → o.kind ≠ .xfr) → ∃ u : State,
      exec (.streamHalt c) s = .next ((u.count 0x0F).faultEvent run.op run.epoch
        (streamFaultPayload c code run.write (((s.ctx c).faultSeq + 1) % 65536) (toU 49 ((s.ctx c).addr run n)))) ∧
      (u.ctx c).st = .halted ∧ (u.ctx c).faultSeq = ((s.ctx c).faultSeq + 1) % 65536 ∧ (∀ k, k ≠ c.val → u.ctx k = s.ctx k) ∧
      u = { (if code = 6 then s.count 0x13 else s) with ctxs := u.ctxs, poolProgress := u.poolProgress }) ∧
    (s.standing = false → exec .standstill s = .next s) ∧
    (∀ c, s.standing = true → s.yielder = some c → exec .standstill s = .next (s.yieldLines c)) ∧
    (∀ g, 64 * g < dramEnd → g ∉ s.mem.bad →
      exec (.patrolScrub g .clean) s = .next s ∧
      (s.mirrorsWith g = [] → stackOf (64 * g) ∉ s.mem.inReset → exec (.patrolScrub g .corrected) s = .next (s.count 0x12) ∧
        exec (.patrolScrub g .uncorrectable) s = .next ((s.becomeBad g).condition 0x0201 1 (field 0 40 (64 * g))) ∧ g ∈ (s.becomeBad g).mem.bad) ∧
      (s.mirrorsWith g ≠ [] → stackOf (64 * g) ∉ s.mem.inReset → exec (.patrolScrub g .corrected) s = .next ((s.count 0x12).count 0x08))) ∧
    (∀ k : Fin 2, k.val ∈ s.mem.failed → exec (.stackFail k) s = .next s) ∧
    (∀ k : Fin 2, k.val ∉ s.mem.failed →
      exec (.stackFail k) s = .next ((({ s with mem := { s.mem with failed := s.mem.failed ++ [k.val] } }).condition 0x0202 2 (field 0 1 k)).stackMirrors k s.time))

/-- A comb whose pump fails is lost while the cold spare starts; it returns, or is lost for good after 250 ms, after a second pump, or by heat (07_light_and_loops.md, 09_fabric.md, 15_power_thermal.md, 17_faults_counters.md). -/
def Obligations.CombsFailReturnOrStayLost : Prop :=
  ∀ (link : Bool) (s : State), Running s →
    let dead : State := { s with
      light := { s.light with
        linkDead := link || s.light.linkDead
        computeDead := !link || s.light.computeDead } }
    let gone (s : State) (dead : Bool) : State :=
      if link then (({ s with light := { s.light with link := .lost, linkLostAt := some s.time, linkDead := dead } } : State).condition 0x0102 2 1).fabricDown .faulted
      else (({ s with light := { s.light with compute := .lost, computeLostAt := some s.time, computeDead := dead } } : State).condition 0x0102 2 0).computeGone
    (s.comb link = .dark → exec (.pumpFail link) s = .next s ∧ exec (.combOvertemperature link) s = .next s) ∧
    (s.comb link = .locked ∨ s.comb link = .starting → s.pumps link < 2 →
      exec (.pumpFail link) s = .next (gone ((s.setPumps link (if s.pumps link = 0 then 3 else 4)).condition 0x0101 1 (b2n link + 2 * (1 - s.pumps link))) false)) ∧
    (s.comb link = .locked ∨ s.comb link = .starting → s.pumps link = 3 ∨ s.pumps link = 4 →
      exec (.pumpFail link) s = .next (gone (s.setPumps link (if s.pumps link = 3 then 7 else 6)) true)) ∧
    (s.comb link = .locked ∨ s.comb link = .starting → exec (.combOvertemperature link) s = .next (gone s true)) ∧
    (s.comb link = .lost → exec (.combOvertemperature link) s = .next dead) ∧
    (∀ t, s.combWaits link = some t →
      (s.time ≤ t + 300000000 → exec (.combReturn link) s = .next (if link then
          (({ s with light := { s.light with link := .locked, linkLostAt := none } } : State).condition 0x0103 0 1).fabricReturn
        else (({ s with light := { s.light with compute := .locked, computeLostAt := none, recheck := true } } : State).condition 0x0103 0 0).allLoops .sweeping)) ∧
      (t + 300000000 < s.time → exec (.combReturn link) s = .next s) ∧
      (s.time < t + 300000000 → exec (.combReturnTimeout link) s = .next s) ∧
      (t + 300000000 ≤ s.time → exec (.combReturnTimeout link) s = .next dead)) ∧
    (s.combWaits link = none → exec (.combReturn link) s = .next s ∧ exec (.combReturnTimeout link) s = .next s)

/-- A tile's loop update touches that tile alone; loops close without a jump, lock after 16 clean updates, and pause the Basin when hot (07_light_and_loops.md, 08_converters_calibration.md). -/
def Obligations.LoopsUpdateLockAndPause : Prop :=
  ∀ s : State, Running s →
    (∀ (tile : Fin 25088) (rs : List MonReading) (stim : Stimulus) (fit : Option CalFit),
      let x := s.cluster (tile / 256)
      let n := s.updateNow (tile / 256)
      (x.loopsOn = true → x.asleep = false → x.inReset = false → (s.tileLoop tile).updated ≤ n → x.updatesAt n = true →
        (∀ r ∈ rs, r.entry.val ≠ 36) → ∃ u : State, exec (.loopUpdate tile ⟨rs, stim⟩ none) s = .next u ∧ (u.tileLoop tile).updated = n + 1 ∧ (∀ t, t ≠ tile.val → u.tileLoop t = s.tileLoop t) ∧
        (∀ k, k / 33 ≠ tile.val → mget {} u.cols k = mget {} s.cols k) ∧ (∀ k, k / 34 ≠ tile.val → mget {} u.heaters k = mget {} s.heaters k)) ∧
      (x.loopsOn = true → x.asleep = false → x.inReset = false → s.light.compute ≠ .lost → (s.tileLoop tile).updated = n + 1 →
        (s.tileLoop tile).inner = 8 * ((s.tileLoop tile).outer + 1) → ∃ u : State, exec (.outerUpdate tile) s = .next u ∧
        (u.tileLoop tile).outer = (s.tileLoop tile).outer + 1 ∧ (∀ t, t / 32 ≠ tile.val / 32 → u.tileLoop t = s.tileLoop t) ∧
        ((∀ t, t / 32 = tile.val / 32 → (s.tileLoop t).obfp = false) → (∃ p ∈ s.serving tile, s.loopOf tile p ≠ .locked) →
          u.tileLoop tile = (s.tileLoop tile).outerStep
            { kp := s.coeff tile 10, ki := s.coeff tile 11, kd := s.coeff tile 12, ad := s.coeff tile 13, nb0 := s.coeff tile 14
              nb1 := s.coeff tile 15, nb2 := s.coeff tile 16, na1 := s.coeff tile 17, na2 := s.coeff tile 18, bt := 0, low := x.lowAt n }
            (s.coeff tile 19) ∧ (∀ t, t ≠ tile.val → u.tileLoop t = s.tileLoop t)) ∧
        u = { s with
          tileLoops := u.tileLoops, cols := u.cols, light := u.light, clusters := u.clusters, dict := u.dict, hl := u.hl, fp := u.fp, flt := u.flt }) ∧
      (x.loopsOn = false → s.light.compute ≠ .lost → exec (.loopUpdate tile ⟨rs, stim⟩ fit) s = .next s) ∧
      (x.loopsOn = false → exec (.outerUpdate tile) s = .next s)) ∧
    (∀ (k : LoopIn) (c d : ColSt) (x : ℚ), c.close k x = some d → 0 ≤ c.pc → c.pc ≤ 32767 →
      heaterPower k.bt d.oc d.y1 = c.pc ∧ d = { d with pc := c.pc, oc := c.oc, kc := c.kc, slots := c.slots, loop := .closed, clean := 0 }) ∧
    (∀ (l : TileLoop) (w a b c t : Int), 0 ≤ w → -32768 ≤ l.bt → l.bt ≤ 32767 →
      l.bt - w ≤ (l.model w a b c t).bt ∧ (l.model w a b c t).bt ≤ l.bt + w ∧ 0 ≤ (l.model w a b c t).qapp ∧ (l.model w a b c t).qapp ≤ 32767 ∧
      (l.model w a b c t).activity = 0) ∧
    (∀ (tile : Fin 25088) (p : Fin 33),
      ((s.col tile p).loop = .closed → 16 ≤ (s.col tile p).clean → p.val ∈ (s.tile tile).recovs ∨ s.light.recheck = true →
        exec (.loopLock tile p) s = .next { (({ s with
          cols := mset {} s.cols (33 * tile + p) { s.col tile p with loop := .locked } } : State).fillColumn tile p 1 false) with
          cal := { s.cal with checks := s.cal.checks ++ [({ tile := tile, p := p, since := s.time } : Check)] } }) ∧
      ((s.col tile p).loop = .closed → 16 ≤ (s.col tile p).clean → p.val ∉ (s.tile tile).recovs → s.light.recheck = false → ∃ u : State,
        exec (.loopLock tile p) s = .next u ∧ u.col tile p = { s.col tile p with loop := .locked, failed := 0 } ∧ u = { s with cols := u.cols }) ∧
      ((s.col tile p).loop ≠ .closed ∨ (s.col tile p).clean < 16 → exec (.loopLock tile p) s = .next s) ∧
      (16 ≤ (s.col tile p).missedRun → p.val ∉ (s.tile tile).recovs →
        exec (.pilotDeadlineLoss tile p) s = .next ((s.pilotLoss tile p).enterRecovery tile p 3)) ∧
      ((s.col tile p).missedRun < 16 ∨ p.val ∈ (s.tile tile).recovs → exec (.pilotDeadlineLoss tile p) s = .next s)) ∧
    (∀ tile : Fin 25088, let bad := columns.filter (fun p => decide (2 ≤ (s.col tile p).plaus ∧ ((s.col tile p).loop = .closed ∨ (s.col tile p).loop = .locked)))
      (bad = [] ∨ (s.tile tile).modelSuspect = true → exec (.plausibilityFail tile) s = .next s) ∧
      (∀ p, bad = [p] → (s.tile tile).modelSuspect = false → exec (.plausibilityFail tile) s =
        .next (((s.count 0x15).modCol tile p (fun c => { c with plaus := 0 })).enterRecovery tile p 2)) ∧
      (4 ≤ bad.length → (s.tile tile).modelSuspect = false → ∃ u v : State, exec (.plausibilityFail tile) s = .next u ∧
        v = ({ s with cols := v.cols, flt := v.flt } : State) ∧ v.tiles = s.tiles ∧
        u = ((v.modTile tile (fun t => { t with modelSuspect := true })).count 0x16).condition 0x0104 1 (field 0 15 tile))) ∧
    (s.basin.state = .running → s.pauseTiles.any (fun t => (s.serving t).any (s.columnHot t)) = true → s.mapsDue = false → exec .thermalPause s = .next { s with
      basin := { s.basin with state := .paused }
      light := { s.light with pausing := true, pauseStart := s.time, alerted := false } }) ∧
    (s.basin.state ≠ .running → exec .thermalPause s = .next s) ∧
    (s.basin.state = .paused → s.light.pausing = true → s.pauseTiles.all (fun t => (s.serving t).all (fun p => decide (s.detOf t p = .clean))) = true →
      (∀ t ∈ s.pauseTiles, ∃ a, (s.tileLoop t).at_ = some a ∧ s.light.pauseStart < a) →
      let n := (s.time - s.light.pauseStart) % 2 ^ 32
      exec .thermalPauseEnd s = .next ((({ s with
        basin := { s.basin with state := .running }
        light := { s.light with pausing := false, lastPause := n } } : State).count 0x1A).condition 0x0105 0 (field 0 32 n))) ∧
    (s.basin.state ≠ .paused → exec .thermalPauseEnd s = .next s ∧ exec .pauseAlarm s = .next s) ∧
    (s.basin.state = .paused → s.light.alerted = false → s.obj 0x4000 8 < (s.time - s.light.pauseStart) / 4800 →
      exec .pauseAlarm s = .next (({ s with light := { s.light with alerted := true } } : State).condition 0x0106 1 (field 0 32 ((s.time - s.light.pauseStart) / 4800)))) ∧
    (s.light.alerted = true → exec .pauseAlarm s = .next s)

/-- Pilot flags recover columns outside the band, sweeps end at the best step in the window, checks return columns, quiet clusters slow down (07_light_and_loops.md, 08_converters_calibration.md). -/
def Obligations.FlagsSweepsChecksAndRates : Prop :=
  ∀ s : State, Running s →
    (∀ (tile : Fin 25088) (p : Fin 33) (lit : Bool),
      let inPass : Bool := lit && (s.passOp.toList ++ s.issueOp.toList).any (fun o => s.lights o tile)
      let t : State := { s with cols := mset {} s.cols (33 * tile + p) { s.col tile p with clean := 0 } }
      let u : State := if inPass then { t with basin := { t.basin with flagged := t.basin.flagged ++ [(tile.val, p.val)] } } else t.pilotLoss tile p
      (s.detOf tile p = .out → exec (.pilotComparatorFlag tile p lit) s = .next u) ∧
      (s.detOf tile p ≠ .out → exec (.pilotComparatorFlag tile p lit) s = .next (u.enterRecovery tile p (if inPass then 0 else 1)))) ∧
    (∀ (tile : Fin 25088) (p : Fin 33) (w : Sweep), (s.col tile p).loop = .sweeping → (s.col tile p).sweep = some w →
      (w.step < 66 → exec (.sweepEnd tile p) s = .next s) ∧
      (66 ≤ w.step → w.found = true →
        let pc := sweepPower (dacPower (s.parkCode tile p)) w.best
        exec (.sweepEnd tile p) s = .next ((({ s with
          cols := mset {} s.cols (33 * tile + p) { s.col tile p with loop := .closing, sweep := none, pc := pc } } : State)).setTarget tile p (dacCode pc))) ∧
      (66 ≤ w.step → w.found = false →
        exec (.sweepEnd tile p) s = .next (s.attemptFailed tile p))) ∧
    (∀ (tile : Fin 25088) (p : Fin 33), (s.col tile p).loop ≠ .sweeping → exec (.sweepEnd tile p) s = .next s) ∧
    (∀ (tile : Fin 25088) (p : Fin 33) (codes : List (Fin 8192)),
      ((∀ k ∈ s.cal.checks, ¬ (k.tile = tile ∧ k.p = p)) → exec (.lineIdentityCheck tile p codes) s = .next s) ∧
      (∀ k, s.cal.checks = [k] → k.tile = tile → k.p = p → s.checkReady k = true →
        let good : Bool := decide (codes.map (fun c => convert false (c : Nat)) =
          [(32, .clean), (32, .clean), (32, .clean), (32, .clean), (32, .clean), (32, .clean), (64, .clean), (0, .clean)])
        let warns := (codes.filter (fun c => decide ((convert false (c : Nat)).2 = .warn))).length
        let ambs := (codes.filter (fun c => decide ((convert false (c : Nat)).2 = .ambiguous))).length
        let u : State := { s with
          cal := { s.cal with checks := [], driven := mset 0 s.cal.driven (tile / 128) (s.time + 48) }
          basin := { s.basin with slot := s.basin.slot + (if k.forced then 8 else 0) } }
        let n := (u.count 0x00 warns).count 0x01 ambs
        let v := if warns = 0 then n else n.modTile tile (fun t => { t with warned := if p.val ∈ t.warned then t.warned else t.warned ++ [p.val] })
        (k.carousel = false → good = true → exec (.lineIdentityCheck tile p codes) s = .next (v.columnBack tile p)) ∧
        (k.carousel = false → good = false → exec (.lineIdentityCheck tile p codes) s = .next (v.attemptFailed tile p)) ∧
        (∀ c, k.carousel = true → (s.tile tile).calib = some c → c.p = p → c.ended = false → good = true →
          exec (.lineIdentityCheck tile p codes) s = .next (v.modTile tile (fun t => { t with calib := some { c with step := 9, made := 0 } })))) ∧
      exec (.checkForceInsert tile p) s = .next { s with
        cal := { s.cal with
          checks := s.cal.checks.map (fun (k : Check) => { k with forced := k.forced || decide (k.tile = tile ∧ k.p = p ∧ k.since + 300000 ≤ s.time) }) } }) ∧
    (∀ c : Fin 98, let x := s.cluster c
      let n := s.updateNow c
      (x.loopsOn = true → x.asleep = false → x.lowAt n = false → s.atUpdateBoundary c = true → s.recovering c = 0 → x.capture = none → x.lastAct + 4800 * s.obj 0x4800 1 ≤ s.time →
        exec (.lowRateEntry c) s = .next { s with
          clusters := mset {} s.clusters c { x with lowFrom := some n, lowTo := none, phase := x.phaseOf n, phaseAt := n, announced := false } }) ∧
      (x.loopsOn = false ∨ s.recovering c ≠ 0 ∨ s.time < x.lastAct + 4800 * s.obj 0x4800 1 → exec (.lowRateEntry c) s = .next s) ∧
      (x.lowAt n = true → x.lowTo = none → x.announced = true → exec (.lowRateExit c) s = .next { s with
        clusters := mset {} s.clusters c { x with lowTo := some (n + 1), phase := x.phaseOf (n + 1), phaseAt := n + 1 } }) ∧
      (x.lowAt n = false ∨ x.announced = false → exec (.lowRateExit c) s = .next s))

/-- Heater faults latch and park, converters queue injected work and fail over, captures and calibration windows begin and end (08_converters_calibration.md, 17_faults_counters.md). -/
def Obligations.HeatersMonitorsCapturesAndWindows : Prop :=
  ∀ s : State, Running s →
    (∀ (tile : Fin 25088) (h : Fin 34),
      let fault (short : Bool) : State := (((s.modHeater tile h (fun x => { x with short := short, open_ := !short, target := none, applied := none })).count 0x1E).condition
        0x0108 2 (field 0 15 tile + field 15 6 h + field 21 1 (b2n short) + field 22 1 (b2n (!short)))).startFault 0x0108 tile
      ((s.heater tile h).short = true ∨ (s.heater tile h).open_ = true → exec (.heaterShort tile h) s = .next s ∧ exec (.heaterOpen tile h) s = .next s) ∧
      ((s.heater tile h).short = false → (s.heater tile h).open_ = false →
        let t := (fault true).trigger tile 1 ((List.range 34).map (senseChan tile))
        exec (.heaterShort tile h) s = .next (if h = 33 then (t.parkTile tile).makeUnusable tile true
          else if (t.col tile h).retired then t else (t.columnOut tile h .retired).retireColumn tile h)) ∧
      ((s.heater tile h).lowSenses < 2 ∨ 2 ≤ (s.cluster (tile / 256)).monFailed.length → exec (.heaterOpen tile h) s = .next s) ∧
      ((s.heater tile h).short = false → (s.heater tile h).open_ = false → 2 ≤ (s.heater tile h).lowSenses →
        (s.cluster (tile / 256)).monFailed.length < 2 → (s.col tile h).retired = false →
        exec (.heaterOpen tile h) s = .next (if h = 33 then ((fault false).parkTile tile).makeUnusable tile true
          else ((fault false).columnOut tile h .retired).retireColumn tile h))) ∧
    (∀ tile : Fin 25088, let c := tile.val / 256
      let m := (s.cluster c).hostOf (convOf tile) (tile % 16)
      let queued := ((s.cluster c).queued.filter (fun t => decide (t.conv = m))).length
      ((((s.tileLoop tile).tTile : Int) : ℚ) / 256 ≤ f32Val (s.obj 0x4800 2) → exec (.tempAlarm tile) s = .next s) ∧
      (f32Val (s.obj 0x4800 2) < (((s.tileLoop tile).tTile : Int) : ℚ) / 256 →
        (queued < 4 → exec (.tempAlarm tile) s = .next (s.modCluster c (fun x => { x with
          queued := x.queued ++ [({ conv := m, kind := 2, chans := List.replicate 4 (tempChan tile), since := s.time } : Trigger)] }))) ∧
        (5 ≤ queued → exec (.tempAlarm tile) s = .next (s.count 0x1B)))) ∧
    (∀ (c : Fin 98) (conv : Fin 16) (chans : List (Fin 17424)) (first : Fin 4096) (later codes : List (Fin 4096)),
      let x := s.cluster c
      (chans ≠ [] → chans.length ≤ 32 → s.runs (procCluster c) = true → conv.val ∉ x.monFailed → (∀ ch ∈ chans, ch.val < 17408 ∧ chanConv ch = conv) →
        (x.queued.filter (fun t => decide (t.conv = conv.val))).length < 4 → exec (.injectRequest c conv chans) s = .next { s with
          clusters := mset {} s.clusters c { x with
            queued := x.queued ++ [({ conv := conv, kind := 4, chans := chans.map (·.val), since := s.time } : Trigger)] } }) ∧
      (chans = [] ∨ 32 < chans.length → exec (.injectRequest c conv chans) s = .next s) ∧
      ((∀ t ∈ x.queued, t.conv ≠ conv.val) → exec (.injectedSequenceStart c conv first later) s = .next s) ∧
      (∀ t, x.queued = [t] → t.conv = conv.val → t.chans.length = later.length + 1 → x.asleep = false → x.inReset = false →
        let since := 2 * (t.since - x.loopStart)
        let len := x.slotLen (since / 9600)
        let start := max (cdiv since len * len) (x.injectedEnd conv)
        (s.halfNow c < start → exec (.injectedSequenceStart c conv first later) s = .next s) ∧
        (start ≤ s.halfNow c → ∃ u : State, exec (.injectedSequenceStart c conv first later) s = .next u ∧ (u.cluster c).queued = [] ∧
          (u.cluster c).injected = x.injected.filter (fun y => decide (9600 * (s.updateNow c - 4) < y.2.2)) ++ [(conv.val, start, start + len * t.chans.length)] ∧
          (∀ k, k ≠ c.val → u.cluster k = s.cluster k) ∧ u = { s with clusters := u.clusters, cols := u.cols, heaters := u.heaters, flt := u.flt })) ∧
      (conv.val ∈ x.monFailed → exec (.monitorFail c conv) s = .next s) ∧
      (∀ m, x.monFailed = [m] → m ≠ conv.val →
        let y : ClusterSt := { x with
          monFailed := [m, conv.val]
          failing := x.failing.filter (fun f => decide (s.updateNow c ≤ f.2)) ++ [(conv.val, s.updateNow c)] }
        exec (.monitorFail c conv) s = .next (({ s with clusters := mset {} s.clusters c { y with
          queued := y.queued.map (fun (t : Trigger) =>
            if t.conv = conv.val then { t with conv := y.hostOf conv (chanTile (t.chans.headD 0) % 16) } else t) } } : State).condition
          0x010C 1 (field 0 7 c + field 7 4 conv + field 11 2 2))) ∧
      (x.capture = none → exec (.captureStart c) s = .next s ∧ exec (.captureComplete c codes) s = .next s) ∧
      (∀ q, x.capture = some q → q.started = false → exec (.captureComplete c codes) s = .next s ∧
        (s.basinOps = [] → s.atUpdateBoundary c = true → exec (.captureStart c) s = .next { s with
          clusters := mset {} s.clusters c { x with capture := some { q with started := true, since := s.time }, lastAct := s.time } }) ∧
        (s.atUpdateBoundary c = false → exec (.captureStart c) s = .next s)) ∧
      (∀ q, x.capture = some q → q.started = true → exec (.captureStart c) s = .next s ∧
        (2 * s.time < 2 * q.since + 15 * bits q.req 25 13 ∨ codes.length ≠ 2 * bits q.req 25 13 → exec (.captureComplete c codes) s = .next s) ∧
        (2 * q.since + 15 * bits q.req 25 13 ≤ 2 * s.time → codes.length = 2 * bits q.req 25 13 → exec (.captureComplete c codes) s = .next { s with
          cal := { s.cal with captured := codes.map (·.val) }
          clusters := mset {} s.clusters c { x with capture := none, lastAct := s.time } }))) ∧
    (∀ tile : Fin 25088, let t := s.tile tile
      let n := s.updateNow (tile.val / 256)
      (s.obj 0x4C00 1 = 0 ∨ n % 50 ≠ 0 ∨ t.calib.isSome = true → exec (.carouselWindow tile) s = .next s) ∧
      (s.skipped tile = false → s.obj 0x4C00 1 = 1 → n % 50 = 0 → (s.tileLoop tile).lastWindow ≠ some n → t.calib = none → t.why = .idle → t.pendingMap = [] →
        t.awaiting = [] → t.warned = [] → t.pointer = 32 → exec (.carouselWindow tile) s = .next { s with
          tileLoops := mset {} s.tileLoops tile { s.tileLoop tile with lastWindow := some n }
          tiles := mset {} s.tiles tile { t with calib := some { p := 32, start := n }, lastPriority := false, pointer := 0 } }) ∧
      (∀ k, t.calib = some k → n < k.start + 250 → exec (.calibrationAbandon tile) s = .next s) ∧
      (t.calib = none → exec (.calibrationAbandon tile) s = .next s) ∧
      (∀ k, t.calib = some k → k.ended = false → s.runs (procCluster (tile / 256)) = true → k.start + 250 ≤ n → k.p = 32 → t.why = .idle →
        exec (.calibrationAbandon tile) s = .next (((s.count 0x20).abandonCalib tile).fillColumn tile 32 0)))

/-- Lanes pass by counted bits and frames, rounds and the wait move the margin test, slots take packets, silent or failing lanes retire (09_fabric.md, 14_reset_bringup.md). -/
def Obligations.LanesAreTestedKeptAndRetired : Prop :=
  ∀ s : State, Running s →
    (∀ e, s.fab.state = .testing → s.fab.testEnd = some e →
      (e + 2400000 * s.fab.round ≤ s.time + 150 * s.obj 0x3000 0x0A → exec .marginTestRound s = .next { s with
        fab := { s.fab with
          round := s.fab.round + 1
          slots := (List.range 432).filterMap (fun k => if 24 * (s.fab.round % 6) + k % 24 < 128 then some (k, 24 * (s.fab.round % 6) + k % 24 + 1) else none)
          frames := s.fab.frames ++ (List.range 432).filterMap (fun k => if 24 * (s.fab.round % 6) + k % 24 < 128 then
            some (128 * (k / 24) + (24 * (s.fab.round % 6) + k % 24), BitVec.ofNat 64 (s.frameWord (128 * (k / 24) + (24 * (s.fab.round % 6) + k % 24)) true)) else none) } }) ∧
      (s.time + 150 * s.obj 0x3000 0x0A < e + 2400000 * s.fab.round → exec .marginTestRound s = .next s) ∧
      (e ≤ s.time → exec .marginWaitExpire s = .next (((List.range 3).filter (fun d => decide (1 < s.dimSize d))).foldl State.dimCheck { s with
        fab := { s.fab with
          state := .running
          testEnd := none
          base := .excluded
          lanes := mmap {} s.fab.lanes (fun _ (l : Lane) => { l with
            out := if l.out = some .testing then some .excluded else l.out
            inn := if l.inn = some .testing then some .excluded else l.inn }) } })) ∧
      (s.time < e → exec .marginWaitExpire s = .next s)) ∧
    (s.fab.state ≠ .testing → exec .marginTestRound s = .next s ∧ exec .marginWaitExpire s = .next s) ∧
    (∀ (lane : Fin 2304) (n : Nat) (eyes : Bool) (w : BitVec 64) (slot : Fin 24), s.blockReset 3 (lane / 128) = true →
      exec (.lanePass lane n eyes) s = .next s ∧ exec (.laneFrame lane w) s = .next s ∧ exec (.laneKeepalive lane slot) s = .next s) ∧
    (∀ (fiber : Fin 18) (slot : Fin 24), s.blockReset 3 fiber = true → exec (.slotSchedule fiber slot) s = .next s) ∧
    (∀ (lane : Fin 2304) (dev n : Nat) (eyes : Bool) (w : BitVec 64), s.blockReset 3 (lane / 128) = false → s.laneFrom lane = some dev → s.fabLit = true → mwf {} s.fab.lanes = true →
      (s.inLane lane = .testing ∨ s.inLane lane = .excluded ∨ s.inLane lane = .retired → (s.lane lane).wiring = false →
        let total := if eyes then (s.lane lane).bits + n else 0
        (total < 600000000 ∨ dev ∈ s.fab.mismatched → ∃ u : State, exec (.lanePass lane n eyes) s = .next u ∧
          u = { s with fab := { s.fab with lanes := mset {} s.fab.lanes lane { s.lane lane with bits := total } } }) ∧
        (600000000 ≤ total → dev ∉ s.fab.mismatched → ∃ u : State, exec (.lanePass lane n eyes) s = .next ((u.enterAll dev).testDone) ∧
          u.lane lane = { s.lane lane with
            bits := total, goodIn := true, inn := some .inService, lseqRx := 1023, errors := [], lastFrame := s.time } ∧
          u = { s with fab := { s.fab with lanes := u.fab.lanes } })) ∧
      (bits w.toNat 0 16 ≠ 0x4F1B → exec (.laneFrame lane w) s = .next { s with
        fab := { s.fab with
          lanes := mset {} s.fab.lanes lane { s.lane lane with
            errors := (s.lane lane).errors.filter (fun t => decide (s.time < t + 1200000)) ++ [s.time] } } }) ∧
      (bits w.toNat 0 16 = 0x4F1B → bits w.toNat 16 17 ≠ dev → s.inLane lane = .testing → (s.lane lane).wiring = false → ∃ u : State,
        exec (.laneFrame lane w) s = .next (u.condition 0x0302 1 (field 0 12 lane + field 12 17 (bits w.toNat 16 17))) ∧
        u.lane lane = { s.lane lane with
          lastFrame := s.time, peerLevel := bits w.toNat 41 4, inn := some .excluded, wiring := true, goodIn := false, bits := 0 } ∧
        u = { s with fab := { s.fab with lanes := u.fab.lanes } }) ∧
      (bits w.toNat 0 16 = 0x4F1B → bits w.toNat 16 17 = dev → bits w.toNat 41 4 = s.obj 0x3000 6 →
        (∀ m < 128 / routerSize (laneDim lane), bit w.toNat (33 + m) = (s.lane (128 * (lane / 128) +
          (coord dev (laneDim lane) + routerSize (laneDim lane) - coord s.ownDev (laneDim lane)) % routerSize (laneDim lane) + routerSize (laneDim lane) * m)).goodOut) →
        exec (.laneFrame lane w) s = .next ((({ s with
          fab := { s.fab with
            lanes := mset {} s.fab.lanes lane { s.lane lane with lastFrame := s.time, peerLevel := bits w.toNat 41 4 }
            mismatched := s.fab.mismatched.filter (· ≠ dev) } } : State).enterAll dev).testDone))) ∧
    (∀ (fiber : Fin 18) (slot : Fin 24), s.blockReset 3 fiber = false →
      (s.fabLit = false → exec (.slotSchedule fiber slot) s = .next s) ∧
      (s.fabLit = true → slotCap s.ladderLevel ≤ slot → exec (.slotSchedule fiber slot) s = .next { s with
        fab := { s.fab with slots := mset 0 s.fab.slots (24 * fiber + slot) 0 } }) ∧
      (s.fabLit = true → slot < slotCap s.ladderLevel →
        (∀ dev e lane, s.fab.entries = [(dev, e)] → s.takeLane fiber slot dev false = some lane →
          exec (.slotSchedule fiber slot) s = .next (s.sendEntries fiber slot lane dev)) ∧
        (∀ dev lane q, s.fab.entries = [] → s.nextPeer fiber slot = some dev → s.takeLane fiber slot dev = some lane →
          (s.peerQueue (fiberDim fiber) dev 1 ++ s.peerQueue (fiberDim fiber) dev 0).head? = some q →
          exec (.slotSchedule fiber slot) s = .next (s.sendQueued fiber slot lane q)) ∧
        (s.fab.entries = [] → s.nextPeer fiber slot = none → s.fab.state = .testing → exec (.slotSchedule fiber slot) s = .next s))) ∧
    (∀ (lane : Fin 2304) (slot : Fin 24), s.blockReset 3 (lane / 128) = false →
      (s.fabLit = true → s.outLane lane = .inService → (s.lane lane).lastSent + 4800 ≤ s.time → slot < slotCap s.ladderLevel →
        s.lineFree (lane / 128) slot (lane % 128) = true → exec (.laneKeepalive lane slot) s = .next { s with
          fab := { s.fab with
            slots := mset 0 s.fab.slots (24 * (lane / 128) + slot) (lane % 128 + 1)
            frames := s.fab.frames ++ [(lane.val, BitVec.ofNat 64 (s.frameWord lane true))]
            lanes := mset {} s.fab.lanes lane { s.lane lane with lastSent := s.time } } }) ∧
      (s.outLane lane ≠ .inService ∨ s.time < (s.lane lane).lastSent + 4800 → exec (.laneKeepalive lane slot) s = .next s)) ∧
    (∀ (lane : Nat) (test : Bool), bits (s.frameWord lane test) 0 16 = 0x4F1B ∧ bits (s.frameWord lane test) 16 17 = s.ownDev % 2 ^ 17 ∧
      bits (s.frameWord lane test) 37 4 = s.barkerBundle.fabLevel % 16 ∧ bits (s.frameWord lane test) 41 4 = s.obj 0x3000 6 % 16 ∧
      bits (s.frameWord lane test) 45 1 = (if test then 1 else 0)) ∧
    (∀ lane : Fin 2304,
      (s.fabLit = true → (s.lane lane).lastFrame + 9600 ≤ s.time → exec (.laneSilenceTimeout lane) s = .next (s.retireIn lane)) ∧
      (s.time < (s.lane lane).lastFrame + 9600 → exec (.laneSilenceTimeout lane) s = .next s) ∧
      (16 < ((s.lane lane).errors.filter (fun t => decide (s.time < t + 1200000))).length → exec (.laneRetire lane true) s = .next (s.retireIn lane)) ∧
      ((s.lane lane).errors.length ≤ 16 → exec (.laneRetire lane true) s = .next s) ∧
      (4 ≤ (s.lane lane).replays → (s.lane lane).lastEntry + 1200 ≤ s.time → exec (.laneRetire lane false) s = .next (s.retireOut lane true)) ∧
      ((s.lane lane).replays < 4 → exec (.laneRetire lane false) s = .next s) ∧
      (s.inLane lane = .inService → (s.retireIn lane).lane lane = { s.lane lane with
        inn := some (if 2 ≤ (s.lane lane).retiresIn then .barred else .retired), retiresIn := (s.lane lane).retiresIn + 1, goodIn := false, bits := 0 }) ∧
      (s.outLane lane = .inService → (s.retireOut lane true).lane lane = { s.lane lane with
        out := some (if 2 ≤ (s.lane lane).retiresOut then .barred else .retired), retiresOut := (s.lane lane).retiresOut + 1 }) ∧
      (∀ t, (s.lane lane).busyAt = some t →
        (s.time < t + 308 → exec (.replayTimeout lane) s = .next s) ∧
        (t + 308 ≤ s.time → s.outLane lane = .inService → (s.lane lane).replay ≠ [] → exec (.replayTimeout lane) s =
          .next ((({ s with
            fab := { s.fab with
              sent := s.fab.sent ++ (s.lane lane).replay.map (fun e => (lane.val, e.2.pkt))
              frames := s.fab.frames ++ [(lane.val, BitVec.ofNat 64 (s.frameWord lane false))]
              lanes := mset {} s.fab.lanes lane { s.lane lane with lastEntry := s.time, lastSent := s.time, busyAt := none } } } : State)).count 0x24))) ∧
      ((s.lane lane).busyAt = none →
        (s.time < (s.lane lane).lastEntry + 1200 → exec (.replayTimeout lane) s = .next s) ∧
        ((s.lane lane).lastEntry + 1200 ≤ s.time → s.outLane lane = .inService → (s.lane lane).replay ≠ [] → 4 ≤ (s.lane lane).replays →
          exec (.replayTimeout lane) s = .next (s.retireOut lane true))))

/-- A packet is accepted once, in order and whole, by the command of its type; requests are answered, responses without a use are counted (09_fabric.md). -/
def Obligations.PacketsAreTakenInOrderAndServed : Prop :=
  ∀ (s : State) (w : FabricPacket), Running s →
    let p := fpPacket w
    let lane := w.lane.val
    (∀ (c : Instr) (t : Nat), (c, t) ∈ ([
        (.wr w, ptWR), (.rdq w, ptRDQ), (.rdr w, ptRDR), (.ack w, ptACK), (.nak w, ptNAK), (.dbl w, ptDBL), (.epc w, ptEPC), (.epq w, ptEPQ),
        (.epa w, ptEPA), (.lctl w, ptLCTL)] : List (Instr × Nat)) →
      (headerOk w = true → p.dest ≠ s.ownDev → p.ptype ≠ ptLCTL → exec c s = .next s) ∧
      (headerOk w = true → p.ptype ≠ t → (ptVL p.ptype).isSome = true → exec c s = .next s) ∧
      (headerOk w = false → s.fabLit = true → s.inLane lane = .inService → exec c s = .next
        (((s.modLane lane (fun l => { l with lastFrame := s.time })).laneError lane).reportLane lane entNak)) ∧
      (s.fabLit = false ∨ s.inLane lane ≠ .inService → exec c s = .next s)) ∧
    (headerOk w = true → payloadOk w = true → s.badPacket p = false → s.fabLit = true → s.inLane lane = .inService →
      (p.ptype = ptLCTL → exec (.lctl w) s = .next ((s.modLane lane (fun l => { l with lastFrame := s.time })).onLCTL p)) ∧
      (p.dest = s.ownDev → bits w.header.toNat 112 10 = ((s.lane lane).lseqRx + 1) % 1024 → mwf {} s.fab.lanes = true →
        let u : State := ({ s with
          fab := { s.fab with
            lanes := mset {} s.fab.lanes lane { s.lane lane with lastFrame := s.time, lseqRx := bits w.header.toNat 112 10 } } } : State).reportLane lane 0
        (p.ptype = ptWR → exec (.wr w) s = .next (u.onWR p)) ∧
        (p.ptype = ptRDQ → exec (.rdq w) s = .next (u.onRDQ p)) ∧
        (p.ptype = ptRDR → exec (.rdr w) s = .next (u.onRDR p)) ∧
        (p.ptype = ptACK → exec (.ack w) s = .next (u.onACK p)) ∧
        (p.ptype = ptNAK → exec (.nak w) s = .next (u.onNAK p)) ∧
        (p.ptype = ptDBL → exec (.dbl w) s = .next (u.onDBL p)) ∧
        (p.ptype = ptEPC → exec (.epc w) s = .next (u.onEPC p)) ∧
        (p.ptype = ptEPQ → exec (.epq w) s = .next (u.onEPQ p)) ∧
        (p.ptype = ptEPA → exec (.epa w) s = .next (u.onEPA p)))) ∧
    (∀ q : Packet,
      (∀ e v, s.applyWR (if q.spec then some (.peer q.src q.stamp) else none) none q.addr q.data = v →
        (v = .error e → e.1 ≠ causeRemoteMemory → e.1 ≠ causeRemoteFault → s.onWR q = s.refuseRequest q e.1 e.2) ∧
        (∀ u, v = .ok u → q.tokenEn = false → q.spec = true → s.onWR q = u.respond q { ptype := ptACK, count := q.data.length })) ∧
      (bit (s.obj 0x3000 7) 1 = false → s.onRDQ q = s.refuseRequest q causeDenied 1) ∧
      (∀ a, bit (s.obj 0x3000 7) 1 = true → s.translate false (q.addr : Int) = .ok (.local_ a) → (s.cacheLeaf q.addr).mem.errs a q.count = false →
        s.onRDQ q = (s.cacheLeaf q.addr).respond q { ptype := ptRDR, data := (s.cacheLeaf q.addr).mem.readN a q.count }) ∧
      (bit (s.obj 0x3000 7) 2 = false → s.onDBL q = s.refuseRequest q causeDenied 2) ∧
      (s.fresh q = false → s.onACK q = s.count 0x27 ∧ s.onRDR q = s.count 0x27 ∧ s.onNAK q = s.count 0x27 ∧ s.onEPA q = s.count 0x27) ∧
      (s.fresh q = true → (s.fabTag q.tag).kind = .doorbell → s.onACK q = { s.releaseTag q.tag with fab := { (s.releaseTag q.tag).fab with db := 2 } } ∧
        s.onNAK q = { s.releaseTag q.tag with fab := { (s.releaseTag q.tag).fab with db := 256 * q.cause } } ∧ s.onRDR q = s.count 0x27 ∧ s.onEPA q = s.count 0x27) ∧
      (q.data = [] → s.onLCTL q = s)) ∧
    (headerOk w = true → p.dest = s.ownDev ∨ p.ptype = ptLCTL → ∀ cut, exec (.forward w cut) s = .next s) ∧
    (∀ u, s.takePacket w = (u, some p) → p.dest ≠ s.ownDev → p.ptype ≠ ptLCTL → ∀ cut,
      (p.hops = 2 → exec (.forward w cut) s = .next (u.count 0x22)) ∧
      (∀ v, p.hops ≠ 2 → u.queuePacket { p with hops := p.hops + 1 } true = .ok v → exec (.forward w cut) s = .next v))

/-- Aged packets are dropped and counted, uses end with a timeout, probes go out on time, and a silent member breaks the cascade (09_fabric.md, 10_cascades.md). -/
def Obligations.FabricUsesAndCascadesTimeOut : Prop :=
  ∀ s : State, Running s →
    ((∀ q ∈ s.fab.queues, s.time < q.born + 18600) → (∀ e ∈ s.fab.lanes, ∀ x ∈ e.2.replay, s.time < x.2.born + 18600) → exec .packetAged s = .next s) ∧
    ((∃ q ∈ s.fab.queues, q.born + 18600 ≤ s.time) → ∃ n : Nat, exec .packetAged s = .next ((({ s with
      fab := { s.fab with
        queues := s.fab.queues.filter (fun q => decide (s.time < q.born + 18600))
        lanes := mmap {} s.fab.lanes (fun _ (l : Lane) => { l with replay := l.replay.filter (fun x => decide (s.time < x.2.born + 18600)) }) } } : State)).count 0x26 n) ∧
      n = (s.fab.queues.filter (fun q => decide (q.born + 18600 ≤ s.time))).length +
        ((s.fab.lanes.map (fun e => (e.2.replay.filter (fun x => decide (x.2.born + 18600 ≤ s.time))).length)).sum)) ∧
    (∀ tag : BitVec 16,
      ((s.fabTag tag.toNat).busy = false ∨ s.time < (s.fabTag tag.toNat).lastFormed + s.obj 0x3000 8 → exec (.xfrTimeout tag) s = .next s) ∧
      ((s.fabTag tag.toNat).busy = true → (s.fabTag tag.toNat).lastFormed + s.obj 0x3000 8 ≤ s.time →
        ((s.fabTag tag.toNat).kind = .probe → exec (.xfrTimeout tag) s = .next (s.releaseTag tag.toNat)) ∧
        ((s.fabTag tag.toNat).kind = .doorbell → exec (.xfrTimeout tag) s = .next
          { s.releaseTag tag.toNat with fab := { (s.releaseTag tag.toNat).fab with db := 512 } }))) ∧
    (∀ t : Nat, s.releaseTag t = { s with
      fab := { s.fab with
        freeOrder := s.fab.freeOrder + 1
        tags := mset {} s.fab.tags t { gen := (s.fabTag t).gen, busy := false, freedAt := s.fab.freeOrder + 1 } } }) ∧
    (s.casc.state = .stopped ∨ s.time < s.casc.lastProbe + s.obj 0x3400 8 → exec .probeSend s = .next s) ∧
    (s.casc.state ≠ .stopped → s.casc.lastProbe + s.obj 0x3400 8 ≤ s.time →
      (s.fab.tags.filter (fun e => e.2.busy)).length + (if s.cascI = 0 then s.cascM - 1 else 1) ≤ 65536 →
      let u : State := { s with casc := { s.casc with seq := (s.casc.seq + 1) % 2 ^ 32, lastProbe := s.time } }
      let word := s.cascWord ((s.casc.seq + 1) % 2 ^ 32)
      (s.cascI = 0 → s.cascM ≤ 1 → exec .probeSend s = .next u) ∧
      (s.cascI = 0 → s.cascM = 2 → exec .probeSend s = .next (u.probe word 1)) ∧
      (s.cascI ≠ 0 → exec .probeSend s = .next (u.probe word 0)) ∧
      bits word 0 16 = s.obj 0x3400 3 % 2 ^ 16 ∧ bits word 16 16 = s.obj 0x3400 4 % 2 ^ 16 ∧ bits word 32 12 = s.cascI % 2 ^ 12 ∧
      bits word 48 2 = s.casc.state.code ∧ bits word 64 13 = s.cascM % 2 ^ 13 ∧ bits word 96 32 = (s.casc.seq + 1) % 2 ^ 32) ∧
    (∀ i : Fin 4096,
      (s.casc.state ≠ .formed ∨ s.time < mget 0 s.casc.lastWord i + 239999 ∨ (s.cascI ≠ 0 ∧ i ≠ 0) ∨ s.cascM ≤ i ∧ s.cascI = 0 →
        exec (.memberLossTimeout i) s = .next s) ∧
      (s.casc.state = .formed → mget 0 s.casc.lastWord i + 239999 ≤ s.time → (if s.cascI = 0 then 1 ≤ i.val ∧ i < s.cascM else i.val = 0) → ∃ u : State,
        exec (.memberLossTimeout i) s = .next u ∧ u.casc = { s.casc with state := .broken, lost := i }))

/-- Stopped processors restart, fall to Held at the fourth restart in a second, and return; commits and activations go step by step (13_firmware.md, 14_reset_bringup.md, 12_object_dictionary.md, 16_security.md). -/
def Obligations.FirmwareRestartsCommitsAndSwitches : Prop :=
  ∀ s : State, Running s →
    (∀ (p : Fin 102) (pc : BitVec 32),
      let x := s.proc p
      let recent := x.recent.filter (fun t => decide (s.time < t + 1200000000)) ++ [s.time]
      let crash (cause : Nat) := crashRecord p cause (satAdd 16 x.restarts 1) pc.toNat s.time x.version 0
      (x.state ≠ .running → exec (.watchdogExpire p pc) s = .next s ∧ exec (.processorException p pc) s = .next s) ∧
      (x.state = .running → s.rst.reachedHeld = false → exec (.watchdogExpire p pc) s = .next (s.assertReset 2 0x06) ∧
        exec (.processorException p pc) s = .next (s.assertReset 2 0x06)) ∧
      (x.state = .running → s.rst.reachedHeld = true → recent.length < 4 →
        let u (cause : Nat) : State := (({ s with
          procs := mset {} s.procs p { x with
            state := .restarting, restarts := satAdd 16 x.restarts 1, crash := crash cause, recent := recent, stopAt := s.time, cause := cause }
          fw := { s.fw with crashLog := (s.fw.crashLog ++ [crash cause]).drop (s.fw.crashLog.length + 1 - 16) } } : State).count 0x32).pushCause 3 0x0B
        exec (.watchdogExpire p pc) s = .next (((u 1).count 0x33).condition 0x0401 1 (field 0 7 p + field 7 4 1)) ∧
        exec (.processorException p pc) s = .next ((u 2).condition 0x0401 1 (field 0 7 p + field 7 4 2))) ∧
      (∀ c cause, (c, cause) = (Instr.watchdogExpire p pc, 1) ∨ (c, cause) = (.processorException p pc, 2) →
        x.state = .running → s.rst.reachedHeld = true → 4 ≤ recent.length → x.activated = false → ∃ u : State, exec c s = .next u ∧
        u.proc p = { x with
          state := .held, restarts := satAdd 16 x.restarts 1, crash := crash cause, recent := recent, stopAt := s.time, cause := cause } ∧
        u = { s with
          procs := u.procs, fw := u.fw, rst := u.rst, dict := u.dict, hl := u.hl, fp := u.fp, flt := u.flt })) ∧
    (∀ (p : Fin 102) (warm : Bool), ((s.proc p).state ≠ .restarting → (s.proc p).state ≠ .running → exec (.processorReturn p warm) s = .next s) ∧
      (4 ≤ p.val → (s.proc p).state = .restarting → (s.proc p).cause ≤ 2 → s.dict.waiting = [] → mwf {} s.procs = true → ∃ u : State,
        exec (.processorReturn p warm) s = .next u ∧
        u.proc p = { s.proc p with state := .running, crash := setBits (s.proc p).crash 192 32 (s.time - (s.proc p).stopAt) } ∧
        u = { s with procs := u.procs, fw := u.fw, flt := u.flt, tiles := u.tiles, cal := u.cal })) ∧
    ((∀ w ∈ s.dict.waiting, s.time < w.since + 42000) → exec .dictWaitTimeout s = .next s) ∧
    (∀ w, s.dict.waiting = [w] → w.since + 42000 ≤ s.time →
      exec .dictWaitTimeout s = .next (({ s with dict := { s.dict with waiting := [] } } : State).answer w.port w.index w.sub .retry)) ∧
    (s.fw.commitSt ≠ 1 → exec .commitVerified s = .next s) ∧
    (s.fw.commitSt = 1 → s.runs procSecurity = true → s.targetBank = some 1 → exec .commitVerified s = .next (match s.verifyBundle s.staged with
      | .error r => { s with fw := { s.fw with commitSt := 4, commitReason := r } }
      | .ok _ => { s with fw := { s.fw with commitSt := 2, bankState1 := 1, recSeq := (s.fw.recSeq + 1) % 2 ^ 16 } })) ∧
    (s.fw.commitSt ≠ 2 → exec .commitWritten s = .next s) ∧
    (s.fw.commitSt = 2 → s.runs procBarker = true → s.runs procSecurity = true → s.targetBank = some 1 → (∃ h, s.verifyBundle s.staged = .ok h) →
      exec .commitWritten s = .next { s with fw := { s.fw with
        commitSt := 3, bundles := mset {} s.fw.bundles 1 (bundleHeader s.staged), data1 := s.staged, version1 := (bundleHeader s.staged).version
        compat1 := (bundleHeader s.staged).compat, bankState1 := 2, recSeq := (s.fw.recSeq + 1) % 2 ^ 16 } }) ∧
    (s.fw.commitSt = 2 → s.runs procBarker = true → s.runs procSecurity = true → s.targetBank = some 1 → (∃ r, s.verifyBundle s.staged = .error r) →
      exec .commitWritten s = .next { s with fw := { s.fw with
        commitSt := 4, commitReason := 4, bankState1 := 3, recSeq := (s.fw.recSeq + 1) % 2 ^ 16 } }) ∧
    (∀ good un, s.fw.actList = [] → exec (.activationSwitch good un) s = .next s) ∧
    (∀ p ps un, s.fw.actList = p :: ps → s.fw.actSt = 1 ∨ s.fw.actSt = 2 → s.runs procSecurity = true → (s.proc p).state = .running →
      exec (.activationSwitch false un) s = .next { s with fw := { s.fw with actSt := 5, actReason := 7, actList := [], actCurrent := 127 } } ∧
      (s.pwr.emergency = true → exec (.activationSwitch true un) s = .next { s with fw := { s.fw with actSt := 2 } }) ∧
      (s.pwr.emergency = false → s.runs procPower = true → p ≠ procBarker → s.rst.reachedHeld = true →
        exec (.activationSwitch true un) s = .next (({ s with fw := { s.fw with actSt := 3 } } : State).restartProc p 5 0))) ∧
    (s.rst.haltDebug = false → exec .debugRelease s = .next s) ∧
    (s.rst.haltDebug = true → mwf {} s.procs = true → ∃ u : State, exec .debugRelease s = .next u ∧
      (∀ p < 102, u.proc p = if (s.proc p).state = .debugHalted then { s.proc p with state := .running } else s.proc p) ∧
      u = { s with rst := { s.rst with haltDebug := false }, procs := u.procs })

/-- Supplies, pins and violations assert resets, a release waits for their cause, bring-up goes step by step, blocks are reset alone (14_reset_bringup.md, 16_security.md, 18_package_electrical.md). -/
def Obligations.ResetsAreAssertedHeldAndReleased : Prop :=
  ∀ s : State,
    (∀ (rail : Fin 8), let u : State := { s with rst := { s.rst with rails := BitVec.ofNat 8 (setBits s.rst.rails.toNat rail 1 0) } }
      let v : State := { s with rst := { s.rst with rails := BitVec.ofNat 8 (setBits s.rst.rails.toNat rail 1 1) } }
      (rail = 6 → exec (.supplyMonitor rail true) s = .next (u.assertReset 1 0x01)) ∧
      (rail ≠ 6 → s.pwr.seqOff = false → exec (.supplyMonitor rail true) s = .next (u.assertReset 2 0x02)) ∧
      (rail ≠ 6 → rail ≠ 7 → s.pwr.seqOff = true → exec (.supplyMonitor rail true) s = .next u) ∧
      (s.dark = false ∨ v.resetHeld = true → exec (.supplyMonitor rail false) s = .next v) ∧
      (s.dark = true → v.resetHeld = false → exec (.supplyMonitor rail false) s = .next { v with rst := { v.rst with clearAt := s.time + 1200 } })) ∧
    (s.pwr.seqOff = false → exec (.pwrGoodLow true) s = .next (({ s with rst := { s.rst with pwrGood := false } } : State).assertReset 2 0x03)) ∧
    (s.dark = false → exec (.pwrGoodLow false) s = .next { s with rst := { s.rst with pwrGood := true } }) ∧
    (∀ n honoured, bit s.rst.rails.toNat 6 = true →
      (n < 40 ∨ n < 80 ∧ honoured = false → exec (.rstNPulse n honoured) s = .next { s with rst := { s.rst with rstnIgnored := satAdd 16 s.rst.rstnIgnored 1 } }) ∧
      (80 ≤ n ∨ 40 ≤ n ∧ honoured = true → s.pwr.seqOff = false → s.pwr.state = 3 → exec (.rstNPulse n honoured) s = .next (s.assertReset 2 0x04).holdEnds)) ∧
    (s.dark = false → ∀ level cause, level = 1 ∨ level = 2 → let t := s.assertReset level cause
      t.rst.asserted = some level ∧ t.rst.record = some (level, cause) ∧ t.pending = s.pending ∧ t.ops = [] ∧ t.regions = [] ∧ t.queues = [] ∧
      t.hl.state = .down ∧ t.fp.state = .silent ∧ t.fab.state = .stopped ∧ t.light.compute = .dark ∧ t.light.link = .dark ∧
      t.hl.tx = s.hl.tx ∧ t.sec.violations = s.sec.violations ∧ t.fw.map = s.fw.map ∧
      (level = 2 → mwf 0 s.rst.backup = true → mget 0 t.rst.backup 3 = s.time % 2 ^ 64 ∧ mget 0 t.rst.backup 2 = min s.rst.step 10) ∧
      (level = 1 → t.rst.backup = [])) ∧
    (s.dark = false ∨ s.resetHeld = true ∨ s.time < s.rst.clearAt → exec .resetRelease s = .next s) ∧
    (s.dark = true → s.resetHeld = false → s.rst.clearAt ≤ s.time → exec .resetRelease s = .next { s with
      time := 0, rst := { s.rst with asserted := none, clearAt := 0, group := 1, step := 1, bringupStart := 0 }, pwr := { s.pwr with state := 3 } }) ∧
    (Running s → ∀ o : StepOutcome,
      (s.rst.failed = true ∨ s.rst.stopped = true ∨ s.rst.haltDebug = true → exec (.bringupStep o) s = .next s) ∧
      (s.rst.failed = false → s.rst.stopped = false → s.rst.haltDebug = false →
        (∀ l c, s.rst.step = 1 → s.rst.record = some (l, c) → ∃ u : State, exec (.bringupStep o) s = .next u ∧ u.rst.step = 2 ∧ u.rst.lastCause = c ∧
          u.rst.lastLevel = l ∧ u.rst.record = none ∧ u = { s with rst := u.rst }) ∧
        (s.rst.step = 5 → o.failedStacks = [] → exec (.bringupStep o) s = .next { s with
          mem := { s.mem with bytes := s.mem.bytes.filter (fun e => decide (dramEnd ≤ e.1)), bad := [] }
          rst := { s.rst with step := 6, group := max s.rst.group 6 } }) ∧
        (s.rst.step = 9 → s.fab.state = .testing → exec (.bringupStep o) s = .next s) ∧
        (s.rst.step = 9 → s.fab.state ≠ .testing → ∃ u : State, exec (.bringupStep o) s = .next u ∧ u.rst.step = 10 ∧ u.rst.reachedHeld = true))) ∧
    (Running s → ∀ kind num : BitVec 8,
      (blockOk kind.toNat num.toNat = false ∨ s.blockReset kind.toNat num.toNat = true → exec (.blockResetAssert kind num) s = .next s) ∧
      (blockOk kind.toNat num.toNat = true → s.blockReset kind.toNat num.toNat = false → s.rst.reachedHeld = false →
        exec (.blockResetAssert kind num) s = .next (s.assertReset 2 0x06)) ∧
      (kind = 1 → num.toNat < 98 → s.blockReset 1 num.toNat = false → s.rst.reachedHeld = true → ∃ u : State, exec (.blockResetAssert kind num) s = .next u ∧
        u = ((({ s with
          rst := { s.rst with
            requests := s.rst.requests.filter (· ≠ (1, num.toNat))
            blocks := s.rst.blocks ++ [({ kind := 1, num := num.toNat, since := s.time } : BlockReset)] } } : State).pushCause 4
              (if (1, num.toNat) ∈ s.rst.requests then 0x09 else 0x0C)).clusterCleared num.toNat) ∧
        (u.cluster num.toNat).inReset = true ∧ (u.cluster num.toNat).needRewrite = true ∧ (u.cluster num.toNat).loopsOn = false) ∧
      ((∀ b ∈ s.rst.blocks, b.kind = kind.toNat → b.num = num.toNat → s.time < b.since + 12000) → s.hl.held = [] →
        exec (.blockResetRelease kind num) s = .next s) ∧
      (∀ b ∈ s.rst.blocks, b.kind = 3 → b.num = num.toNat → b.since + 12000 ≤ s.time → s.hl.held = [] → kind = 3 →
        exec (.blockResetRelease kind num) s = .next (({ s with
          rst := { s.rst with blocks := s.rst.blocks.filter (fun b => !(decide (b.kind = 3) && decide (b.num = num.toNat))) } } : State).planeBack num.toNat))) ∧
    (s.dark = false → ∃ u : State, exec .securityViolation s = .next u ∧ u.rst.asserted = some 1 ∧ u.rst.record = some (1, 0x07) ∧
      u.sec.violations = satAdd 8 s.sec.violations 1 ∧ u.fw.crashLog = [] ∧ u.cols = [] ∧ u.calNv = s.calNv ∧ (∀ a, dramEnd ≤ a → mget 0 u.mem.bytes a = 0)) ∧
    (s.strapClk ≤ 1 → exec .referenceClockLoss s = .next s ∧ exec .referenceClockReturn s = .next s) ∧
    (2 ≤ s.strapClk → exec .referenceClockLoss s = .next { s with rst := { s.rst with refLost := true } } ∧
      exec .referenceClockReturn s = .next { s with rst := { s.rst with refLost := false } })

/-- Estimates and readings raise the ladder at once and holds lower it, alerts and trips act, clusters sleep and wake, rails are polled (15_power_thermal.md, 04_weight_residency.md). -/
def Obligations.PowerLevelsTripsAndSleep : Prop :=
  ∀ s : State,
    (Running s → ∀ w : BitVec 32, (f32Bad w.toNat = true → exec (.powerEstimate w) s = .next s ∧ ∀ dram, exec (.ladderRise dram w) s = .next s) ∧
      (f32Bad w.toNat = false →
        (∃ (u : State) (l : Nat), exec (.powerEstimate w) s = .next u ∧ u.pwr.levelPower = max s.pwr.levelPower l ∧ u.pwr.estimate = w.toNat ∧ l ≤ 5 ∧
          (0 < l → s.powerEntry l ≤ f32Val w.toNat ∧ s.powerEntry l ≤ f32Val s.pwr.estimate) ∧
          (∀ k, l < k → k ≤ 5 → f32Val w.toNat < s.powerEntry k ∨ f32Val s.pwr.estimate < s.powerEntry k) ∧
          u = { s with pwr := u.pwr, flt := u.flt }) ∧
        (∃ (u : State) (l : Nat), exec (.ladderRise false w) s = .next u ∧ u.pwr.levelThermal = max s.pwr.levelThermal l ∧ l ≤ 5 ∧
          (0 < l → s.thermalEntry l ≤ f32Val w.toNat) ∧ (∀ k, l < k → k ≤ 5 → f32Val w.toNat < s.thermalEntry k) ∧ u = { s with pwr := u.pwr, flt := u.flt }))) ∧
    (Running s → ∃ u : State, exec .ladderFall s = .next u ∧ u = { s with pwr := u.pwr } ∧
      u.pwr.levelPower = (if s.holdDone s.pwr.powerBelow s.pwr.levelPower s.pwr.powerEntered 1200000 then s.pwr.levelPower - 1 else s.pwr.levelPower) ∧
      u.pwr.levelThermal = (if s.holdDone s.pwr.thermalBelow s.pwr.levelThermal s.pwr.thermalEntered 12000000 then s.pwr.levelThermal - 1 else s.pwr.levelThermal)) ∧
    (∃ u : State, exec .vrAlert s = .next u ∧ u.pwr.vrAlert = true ∧ u.pwr.vrAlertHold = none ∧ u = { s with pwr := u.pwr, flt := u.flt } ∧
      (s.dark = false → u.pwr.emergency = true ∧ 3 ≤ u.ladderLevel)) ∧
    (s.pwr.vrAlert = false → exec .vrAlertRelease s = .next s) ∧
    (s.pwr.vrAlert = true → ∃ u : State, exec .vrAlertRelease s = .next u ∧ u.pwr.vrAlert = false ∧ u.pwr.vrAlertHold = some (s.time + 1200000) ∧
      u = { s with pwr := u.pwr }) ∧
    (Running s → (s.pwr.quietSince = none ∨ s.emergent = true → exec .emergencyNormal s = .next s) ∧
      (∀ t, s.pwr.quietSince = some t → (s.time < t + 12000000 → exec .emergencyNormal s = .next s) ∧
        (s.pwr.emergency = true → t + 12000000 ≤ s.time → s.runs procPower = true → s.emergent = false →
          exec .emergencyNormal s = .next { s with pwr := { s.pwr with emergency := false, quietSince := none } }))) ∧
    (s.pwr.trip = true ∨ s.pwr.seqOff = true ∨ bit s.rst.rails.toNat 6 = false → exec .thermalTrip s = .next s) ∧
    (s.dark = false → s.pwr.trip = false → s.pwr.seqOff = false → bit s.rst.rails.toNat 6 = true → ∃ u : State, exec .thermalTrip s = .next u ∧
      u.pwr.trip = true ∧ u.pwr.tripAt = u.time ∧ u.rst.asserted = some 2 ∧ u.rst.record = some (2, 0x08) ∧ u.ops = []) ∧
    (s.pwr.trip = false ∨ s.time < s.pwr.tripAt + 1200000000 → exec .thermalTripRelease s = .next s) ∧
    (s.pwr.trip = true → s.pwr.tripAt + 1200000000 ≤ s.time → s.rst.rails = 255 → s.rst.pwrGood = true → s.pwr.seqOff = false →
      exec .thermalTripRelease s = .next { s with pwr := { s.pwr with trip := false }, rst := { s.rst with clearAt := s.time + 1200 } }) ∧
    (∀ frame, (s.dark = false → s.pwr.state ≠ 2 → exec (.wake frame) s = .next s) ∧
      (s.dark = false → s.pwr.state = 2 → frame = true → s.pwr.fpWasActive = false → exec (.wake frame) s = .next s) ∧
      (s.dark = false → s.pwr.state = 2 → frame = false ∨ s.pwr.fpWasActive = true → ∃ u : State, exec (.wake frame) s = .next u ∧
        u.pwr = { s.pwr with state := 3, lastWake := if frame then 2 else 1 } ∧ u.light.compute = (if s.light.computeDead then .lost else .locked)) ∧
      (s.dark = true → s.pwr.seqOff = false → exec (.wake frame) s = .next s) ∧
      (s.dark = true → s.pwr.seqOff = true → frame = false → ∃ u : State, exec (.wake frame) s = .next u ∧ u.pwr.seqOff = false ∧ u.pwr.lastWake = 1 ∧
        u.rst.clearAt = s.time + 1200 ∧ u = { s with pwr := u.pwr, rst := u.rst })) ∧
    (Running s → ∀ c : Fin 98, let x := s.cluster c
      (x.asleep = true ∨ x.waking.isSome = true ∨ x.inReset = true ∨ s.runs procPower = false → exec (.clusterSleep c) s = .next s) ∧
      (x.asleep = false → x.waking = none → x.inReset = false → s.runs procPower = true →
        (s.sleepOk c = false → exec (.clusterSleep c) s = .next { s with clusters := mset {} s.clusters c { x with goingToSleep := false } }) ∧
        (s.sleepOk c = true → s.noWindows c = true → ∃ u : State, exec (.clusterSleep c) s = .next u ∧ (u.cluster c).asleep = true ∧
          (u.cluster c).loopsOn = false ∧ (u.cluster c).needRewrite = true ∧ (∀ k, k / 64 / 33 / 256 = c.val → mwf 0 s.rings = true → mget 0 u.rings k = 0) ∧
          ((∀ t, t / 256 = c.val → (s.tile t).why ≠ .carousel) → u = { s with
            tiles := u.tiles, clusters := u.clusters, cols := u.cols, heaters := u.heaters, rings := u.rings, codes := u.codes, ringAt := u.ringAt
            writes := u.writes, mirrorReads := u.mirrorReads, cal := u.cal }))) ∧
      (s.wanted c = false ∨ x.asleep = false → exec (.clusterWake c) s = .next s) ∧
      (s.wanted c = true → x.asleep = true → s.loopsRun c = false → exec (.clusterWake c) s = .next (({ s with
        clusters := mset {} s.clusters c { x with asleep := false, waking := some s.time, needRewrite := true } } : State).count 0x34)) ∧
      (x.waking.isSome = true → s.loopsLocked c = true → x.rewriting = false → x.needRewrite = true →
        let u := s.rewriteCluster c
        exec (.clusterAwake c) s = .next (if (u.cluster c).needRewrite then u else u.modCluster c (fun x => { x with waking := none }))) ∧
      (x.waking.isSome = true → s.loopsLocked c = true → x.rewriting = false → x.needRewrite = false →
        exec (.clusterAwake c) s = .next (s.modCluster c (fun x => { x with waking := none }))) ∧
      (x.waking = none ∨ s.loopsLocked c = false ∨ x.rewriting = true → exec (.clusterAwake c) s = .next s)) ∧
    (Running s → ∀ (tile : Fin 25088) (p : Fin 33), ((s.cluster (tile.val / 256)).waking = none → exec (.wakeLockTimeout tile p) s = .next s) ∧
      (∀ t, (s.cluster (tile.val / 256)).waking = some t → (s.time < t + 1200000 ∨ s.loopOf tile p = .locked → exec (.wakeLockTimeout tile p) s = .next s) ∧
        (t + 1200000 ≤ s.time → s.loopOf tile p ≠ .locked → (s.col tile p).retired = false → p.val ∉ (s.tile tile).recovs →
          exec (.wakeLockTimeout tile p) s = .next ((s.enterRecovery tile p 3).attemptFailed tile p)))) ∧
    (Running s → ∀ rail : Fin 8,
      (s.runs procPower = false ∨ s.rst.step < 4 → ∀ a, exec (.pmbusPoll rail a) s = .next s) ∧
      (s.runs procPower = true → 4 ≤ s.rst.step →
        (mget 0 s.pwr.misses (rail.val + 1) < 2 → ∃ u : State, exec (.pmbusPoll rail none) s = .next u ∧ u = { s with
          pwr := { s.pwr with clearing := u.pwr.clearing, misses := mset 0 s.pwr.misses (rail.val + 1) (mget 0 s.pwr.misses (rail.val + 1) + 1) } }) ∧
        (2 ≤ mget 0 s.pwr.misses (rail.val + 1) → s.vrLatched (rail.val + 1) = false → ∃ u : State, exec (.pmbusPoll rail none) s = .next u ∧ u.vrLatched (rail.val + 1) = true) ∧
        (∀ a : VrAnswer, bits a.mode.toNat 5 3 = 0 → statusFault a.status = false → bit s.pwr.clearing.toNat rail = false →
          95 / 100 * railVolts (rail.val + 1) ≤ (a.vout.toNat : ℚ) * pow2 (sint 5 (bits a.mode.toNat 0 5)) →
          (a.vout.toNat : ℚ) * pow2 (sint 5 (bits a.mode.toNat 0 5)) ≤ 105 / 100 * railVolts (rail.val + 1) →
          ∃ u : State, exec (.pmbusPoll rail (some a)) s = .next u ∧ u.pwr.vrFault = s.pwr.vrFault ∧ u.pwr.misses = mdel s.pwr.misses (rail.val + 1) ∧
            mget [] u.pwr.telemetry (rail.val + 1) = [f32Code (linear11 a.vin), f32Code ((a.vout.toNat : ℚ) * pow2 (sint 5 (bits a.mode.toNat 0 5))),
              f32Code (linear11 a.iout), f32Code (linear11 a.temp), a.status.toNat] ∧
            u = { s with pwr := u.pwr })))
end

