-- ==== Sys2Proof/Laws/Maps.lean ====
section
/-! SUPPORT. Sparse maps: what a key holds after an update, and that updates keep the canonical form. -/

set_option Elab.async false

namespace Sys2Proof.Machine

variable {α : Type}

/-- Every key of a map in canonical form lies above a bound. -/
def mabove (b : Nat) (m : SMap α) : Prop := ∀ e ∈ m, b < e.1

theorem mget_mput_self (d : α) (m : SMap α) (a : Nat) (x : α) : mget d (mput m a x) a = x := by
  induction m with
  | nil => simp [mput, mget]
  | cons e m ih =>
    obtain ⟨k, v⟩ := e
    simp only [mput]
    split
    · simp [mget]
    · split
      · simp [mget]
      · simp [mget, *]

theorem mget_mput_other (d : α) (m : SMap α) (a b : Nat) (x : α) (h : b ≠ a) : mget d (mput m a x) b = mget d m b := by
  induction m with
  | nil => simp [mput, mget, h]
  | cons e m ih =>
    obtain ⟨k, v⟩ := e
    simp only [mput]
    split
    · subst_vars; simp [mget, h]
    · split
      · simp [mget, h]
      · simp [mget, ih]

theorem mget_mdel_other (d : α) (m : SMap α) (a b : Nat) (h : b ≠ a) : mget d (mdel m a) b = mget d m b := by
  induction m with
  | nil => simp [mdel, mget]
  | cons e m ih =>
    obtain ⟨k, v⟩ := e
    simp only [mdel]
    split
    · subst_vars; simp [mget, h]
    · split
      · simp [mget]
      · simp [mget, ih]

variable [DecidableEq α]

theorem mget_mset_other (d : α) (m : SMap α) (a b : Nat) (x : α) (h : b ≠ a) : mget d (mset d m a x) b = mget d m b := by
  unfold mset; split
  · exact mget_mdel_other d m a b h
  · exact mget_mput_other d m a b x h

theorem mwf_cons {d : α} {k : Nat} {v : α} {m : SMap α} :
    mwf d ((k, v) :: m) = true ↔ mabove k m ∧ v ≠ d ∧ mwf d m = true := by
  induction m generalizing k v with
  | nil => simp [mwf, mabove]
  | cons e m ih =>
    obtain ⟨k', v'⟩ := e
    simp only [mwf, Bool.and_eq_true, decide_eq_true_eq]
    constructor
    · rintro ⟨⟨h1, h2⟩, h3⟩
      refine ⟨?_, h2, h3⟩
      intro e he
      rcases List.mem_cons.mp he with rfl | he
      · exact h1
      · exact lt_trans h1 ((ih.mp h3).1 e he)
    · rintro ⟨h1, h2, h3⟩
      exact ⟨⟨h1 (k', v') List.mem_cons_self, h2⟩, h3⟩

omit [DecidableEq α] in
theorem mget_above {d : α} {m : SMap α} {b a : Nat} (h : mabove b m) (hab : a ≤ b) : mget d m a = d := by
  induction m with
  | nil => rfl
  | cons e m ih =>
    obtain ⟨k, v⟩ := e
    have hk : b < k := h (k, v) List.mem_cons_self
    simp only [mget]
    rw [if_neg (by omega)]
    exact ih (fun e he => h e (by simp [he]))

theorem mget_mdel_self {d : α} {m : SMap α} (a : Nat) (h : mwf d m = true) : mget d (mdel m a) a = d := by
  induction m with
  | nil => rfl
  | cons e m ih =>
    obtain ⟨k, v⟩ := e
    obtain ⟨h1, -, h3⟩ := mwf_cons.mp h
    simp only [mdel]
    split
    · subst_vars; exact mget_above h1 le_rfl
    · split
      · simp only [mget]
        rw [if_neg (by omega)]
        exact mget_above h1 (by omega)
      · simp [mget, *]

theorem mget_mset_self {d : α} {m : SMap α} (a : Nat) (x : α) (h : mwf d m = true) : mget d (mset d m a x) a = x := by
  unfold mset; split
  · subst_vars; exact mget_mdel_self a h
  · exact mget_mput_self d m a x

/-- Setting a key to a value that an unlisted key does not read as needs no canonical form. -/
theorem mget_mset_ne (d : α) (m : SMap α) (a : Nat) (x : α) (h : x ≠ d) : mget d (mset d m a x) a = x := by
  unfold mset; rw [if_neg h]; exact mget_mput_self d m a x

omit [DecidableEq α] in
theorem mabove_mdel {m : SMap α} {b : Nat} (a : Nat) (h : mabove b m) : mabove b (mdel m a) := by
  induction m with
  | nil => simp [mdel, mabove]
  | cons e m ih =>
    obtain ⟨k, v⟩ := e
    have hm : mabove b m := fun e he => h e (by simp [he])
    simp only [mdel]
    split
    · exact hm
    · split
      · exact h
      · intro e he
        rcases List.mem_cons.mp he with rfl | he
        · exact h (k, v) List.mem_cons_self
        · exact ih hm e he

omit [DecidableEq α] in
theorem mabove_mput {m : SMap α} {b a : Nat} (x : α) (h : mabove b m) (ha : b < a) : mabove b (mput m a x) := by
  induction m with
  | nil => simp [mput, mabove, ha]
  | cons e m ih =>
    obtain ⟨k, v⟩ := e
    have hm : mabove b m := fun e he => h e (by simp [he])
    simp only [mput]
    split
    · intro e he
      rcases List.mem_cons.mp he with rfl | he
      · exact ha
      · exact hm e he
    · split
      · intro e he
        rcases List.mem_cons.mp he with rfl | he
        · exact ha
        · exact h e he
      · intro e he
        rcases List.mem_cons.mp he with rfl | he
        · exact h (k, v) List.mem_cons_self
        · exact ih hm e he

theorem mwf_mdel {d : α} {m : SMap α} (a : Nat) (h : mwf d m = true) : mwf d (mdel m a) = true := by
  induction m with
  | nil => rfl
  | cons e m ih =>
    obtain ⟨k, v⟩ := e
    obtain ⟨h1, h2, h3⟩ := mwf_cons.mp h
    simp only [mdel]
    split
    · exact h3
    · split
      · exact h
      · exact mwf_cons.mpr ⟨mabove_mdel a h1, h2, ih h3⟩

theorem mwf_mput {d : α} {m : SMap α} (a : Nat) (x : α) (hx : x ≠ d) (h : mwf d m = true) : mwf d (mput m a x) = true := by
  induction m with
  | nil => simp [mput, mwf, hx]
  | cons e m ih =>
    obtain ⟨k, v⟩ := e
    obtain ⟨h1, h2, h3⟩ := mwf_cons.mp h
    simp only [mput]
    split
    · subst_vars; exact mwf_cons.mpr ⟨h1, hx, h3⟩
    · split
      · refine mwf_cons.mpr ⟨?_, hx, h⟩
        intro e he
        rcases List.mem_cons.mp he with rfl | he
        · assumption
        · exact lt_trans (by assumption) (h1 e he)
      · exact mwf_cons.mpr ⟨mabove_mput x h1 (by omega), h2, ih h3⟩

theorem mwf_mset {d : α} {m : SMap α} (a : Nat) (x : α) (h : mwf d m = true) : mwf d (mset d m a x) = true := by
  unfold mset; split
  · exact mwf_mdel a h
  · exact mwf_mput a x (by assumption) h

theorem mwf_filter {d : α} {m : SMap α} (f : Nat × α → Bool) (h : mwf d m = true) : mwf d (m.filter f) = true := by
  induction m with
  | nil => rfl
  | cons e m ih =>
    obtain ⟨k, v⟩ := e
    obtain ⟨h1, h2, h3⟩ := mwf_cons.mp h
    rw [List.filter_cons]
    split
    · exact mwf_cons.mpr ⟨fun e he => h1 e (List.mem_of_mem_filter he), h2, ih h3⟩
    · exact ih h3

end Sys2Proof.Machine
end

