-- ==== Sys2Proof/Laws/Memory.lean ====
section
/-! SUPPORT. Memory: every operation on it keeps its canonical form, a read after a write of the same place gives what was
written, and a write leaves every other place alone. -/

set_option Elab.async false

namespace Sys2Proof.Machine

theorem Mem.wf_write {m : Mem} (a : Nat) (b : Byte) (h : m.wf = true) : (m.write a b).wf = true := mwf_mset a b h

theorem Mem.wf_writeN {m : Mem} (a : Nat) (bs : List Byte) (h : m.wf = true) : (m.writeN a bs).wf = true := by
  induction bs generalizing m a with
  | nil => exact h
  | cons b bs ih => exact ih (a + 1) (Mem.wf_write a b h)

theorem Mem.wf_store {m : Mem} (a : Nat) (bs : List Byte) (h : m.wf = true) : (m.store a bs).wf = true := Mem.wf_writeN a bs h

theorem State.wf_store {s : State} (a : Nat) (bs : List Byte) (h : s.mem.wf = true) : (s.store a bs).mem.wf = true := Mem.wf_store a bs h

theorem wf_reset : State.reset.mem.wf = true := by decide

theorem Mem.read_write_self {m : Mem} (a : Nat) (b : Byte) (h : m.wf = true) : (m.write a b).read a = b := mget_mset_self a b h

theorem Mem.read_write_other (m : Mem) (a x : Nat) (b : Byte) (h : x ≠ a) : (m.write a b).read x = m.read x := mget_mset_other 0 m.bytes a x b h

theorem Mem.read_writeN_below (m : Mem) (a x : Nat) (bs : List Byte) (h : x < a) : (m.writeN a bs).read x = m.read x := by
  induction bs generalizing m a with
  | nil => rfl
  | cons b bs ih =>
    show ((m.write a b).writeN (a + 1) bs).read x = m.read x
    rw [ih _ _ (by omega), Mem.read_write_other _ _ _ _ (by omega)]

theorem Mem.read_writeN_above (m : Mem) (a x : Nat) (bs : List Byte) (h : a + bs.length ≤ x) : (m.writeN a bs).read x = m.read x := by
  induction bs generalizing m a with
  | nil => rfl
  | cons b bs ih =>
    simp only [List.length_cons] at h
    show ((m.write a b).writeN (a + 1) bs).read x = m.read x
    rw [ih _ _ (by omega), Mem.read_write_other _ _ _ _ (by omega)]

theorem Mem.read_writeN_inside {m : Mem} (a : Nat) (bs : List Byte) (h : m.wf = true) (j : Nat) (hj : j < bs.length) :
    (m.writeN a bs).read (a + j) = bs[j] := by
  induction bs generalizing m a j with
  | nil => simp at hj
  | cons b bs ih =>
    show ((m.write a b).writeN (a + 1) bs).read (a + j) = _
    cases j with
    | zero => rw [Mem.read_writeN_below _ _ _ _ (by omega)]; exact Mem.read_write_self a b h
    | succ j =>
      have := ih (a + 1) (Mem.wf_write a b h) j (by simpa using hj)
      rw [show a + (j + 1) = a + 1 + j by omega, this]; rfl

/-- Every byte outside the bytes stored reads as before. -/
theorem State.read_store_other (s : State) (a x : Nat) (bs : List Byte) (h : x < a ∨ a + bs.length ≤ x) :
    (s.store a bs).mem.read x = s.mem.read x :=
  h.elim (Mem.read_writeN_below s.mem a x bs) (Mem.read_writeN_above s.mem a x bs)

/-- The bytes stored read back. -/
theorem State.read_store_inside {s : State} (a : Nat) (bs : List Byte) (h : s.mem.wf = true) (j : Nat) (hj : j < bs.length) :
    (s.store a bs).mem.read (a + j) = bs[j] := Mem.read_writeN_inside a bs h j hj

end Sys2Proof.Machine
end

