-- ==== Sys2Proof/Laws/Ports.lean ====
section
/-! SUPPORT. Requests by a port, once for all objects: what a write or a read comes to where the Barker serves it, and what the
state of a running device is after a command. -/

set_option Elab.async false

namespace Sys2Proof.Machine

/-- On a device that runs, a command's next state is the one its meaning gives. -/
theorem live_running {s t : State} (h : Running s) : s.live t = .next t := by
  simp [State.live, h.1, h.2]

theorem reaches_running {p : Port} {s : State} (h : Reaches p s) : Running s := h.1
theorem writes_running {p : Port} {s : State} (h : Writes p s) : Running s := h.1.1

theorem servedIndex_of_reaches {p : Port} {s : State} (h : Reaches p s) (index : Nat) : s.servedIndex index = true := by
  simp [State.servedIndex, h.2.2.1]

/-- A write that the Barker decides is applied at once. -/
theorem portWrite_of_writes {p : Port} {s : State} (h : Writes p s) (index sub : Nat) (data : List Byte) :
    s.portWrite p index sub data = s.writeNow p index sub data 0 := by
  obtain ⟨⟨⟨hd, hp⟩, hb, hr, hq⟩, hw⟩ := h
  cases p <;> simp_all [State.portWrite, State.dictWrite, State.stopped, State.portOpen, State.barker, State.answerRoom, isField,
    fpRspDepth, State.hostOpen]

/-- A read that reaches the Barker is answered from the state as it is. -/
theorem portRead_of_reaches {p : Port} {s : State} (h : Reaches p s) (index sub len : Nat) :
    s.portRead p index sub len = s.readNow p index sub 0 len := by
  obtain ⟨⟨hd, hp⟩, hb, hr, hq⟩ := h
  cases p <;> simp_all [State.portRead, State.dictRead, State.stopped, State.portOpen, State.barker, State.answerRoom, isField,
    fpRspDepth, State.hostOpen]

/-- A write of an object whose keeper runs is decided by the object's own rule, and answered. -/
theorem writeNow_eq {p : Port} {s : State} (h : Reaches p s) (index sub : Nat) (data : List Byte) (off : Nat)
    (hk : s.mustWait index sub = none) :
    s.writeNow p index sub data off =
      match (s.writeObj p index sub data off).2 with
      | some a => (s.writeObj p index sub data off).1.answer p index sub a
      | none => (s.writeObj p index sub data off).1 := by
  simp only [State.writeNow, servedIndex_of_reaches h, hk]
  simp only [not_true_eq_false, if_false]
  rcases s.writeObj p index sub data off with ⟨t, _ | a⟩ <;> rfl

end Sys2Proof.Machine
end

