-- ==== Sys2Proof/Laws/Objects.lean ====
section
/-! SUPPORT. The objects that commands write, by their lines in the tables, and what the checks of a write come to for them. -/

set_option Elab.async false

namespace Sys2Proof.Machine

/-- Access class, type, size, retention and owner of an object. -/
def objShape (index sub : Nat) : Option (Nat × Nat × Nat × Nat × Nat) :=
  (objRow index sub).map (fun x => (x.1.acc, x.1.ty, x.1.size, x.1.kept, x.1.owner))

/-- A write of the right length and of a value in range, to an RW or WO object whose own conditions allow it, is not refused. -/
theorem writeRefusal_none {s : State} {p : Port} {index sub acc ty size kept owner : Nat} {data : List Byte}
    (ho : objShape index sub = some (acc, ty, size, kept, owner)) (ha : acc = 1 ∨ acc = 2)
    (hc : ¬ (index = 0x4800 ∧ sub = 6)) (hl : data.length = size)
    (hd : s.accessDenied p index sub (leNat data) = false)
    (hr : (ty = 9 ∧ (index, sub) ≠ (0x5000, 0x0C)) ∨
      (reservedSet index sub (leNat data) = false ∧ (lateRange index sub = true ∨ inRange index sub (leNat data) = true))) :
    s.writeRefusal p index sub data 0 = none := by
  unfold objShape at ho
  unfold State.writeRefusal
  cases h : objRow index sub with
  | none => simp [h] at ho
  | some x =>
    obtain ⟨r, i⟩ := x
    simp only [h, Option.map_some, Option.some.injEq, Prod.mk.injEq] at ho
    obtain ⟨h1, h2, h3, h4, h5⟩ := ho
    have hp : pieces r = false := by
      unfold pieces
      rcases ha with ha | ha <;> simp [h1, ha]
    have hs : s.sizeOf r index sub = size := by simp [State.sizeOf, hc, h3]
    have h0 : ¬ (r.acc = 0) := by rcases ha with ha | ha <;> omega
    have h30 : ¬ (r.acc = 3 ∧ ¬ s.fnStopped r.owner = true) := by rcases ha with ha | ha <;> (intro hh; omega)
    simp only [h0, h30, hd, hp, hs, hl, if_false, Bool.false_eq_true, ne_eq, not_true_eq_false, or_self]
    rcases hr with hr | ⟨hr1, hr2⟩
    · rw [if_pos (by simpa [h2] using hr)]
    · by_cases h9 : r.ty = 9 ∧ ¬ (index, sub) = (0x5000, 0x0C)
      · rw [if_pos h9]
      · rw [if_neg h9]
        simp [hr1, hr2]

theorem shape_region : ∀ r : Fin 256, objShape (0x1100 + r) 1 = some (1, 9, 32, 0, 0) := by decide +kernel
theorem shape_abort : ∀ q : Fin 4, objShape (0x1810 + q) 5 = some (2, 0, 1, 0, 0) := by decide +kernel
theorem shape_stream : ∀ c : Fin 64, objShape (0x2100 + c) 1 = some (1, 9, 64, 0, 0) := by decide +kernel
theorem shape_staging : ∀ c : Fin 64, objShape (0x2100 + c) 6 = some (2, 0, 1, 0, 0) := by decide +kernel
theorem shape_loops : ∀ c : Fin 98, objShape (0x4100 + c) 2 = some (1, 0, 1, 0, 0) := by decide +kernel
theorem shape_counter : ∀ n : Fin 55, objShape (0x7100 + n) 1 = some (1, 3, 4, 0, 0) := by decide +kernel
theorem shape_session : objShape 0x0400 0x04 = some (1, 2, 2, 0, 0) := by decide +kernel
theorem shape_fpEnable : objShape 0x0500 0x02 = some (1, 0, 1, 0, 0) := by decide +kernel
theorem shape_basinRun : objShape 0x1000 0x0B = some (1, 0, 1, 0, 0) := by decide +kernel
theorem shape_invalidate : objShape 0x2400 0x03 = some (2, 4, 8, 0, 0) := by decide +kernel
theorem shape_fabRun : objShape 0x3000 0x02 = some (1, 0, 1, 0, 0) := by decide +kernel
theorem shape_doorbell : objShape 0x3000 0x10 = some (2, 9, 8, 0, 0) := by decide +kernel
theorem shape_cascRun : objShape 0x3400 0x02 = some (1, 0, 1, 0, 0) := by decide +kernel
theorem shape_capture : objShape 0x4800 0x07 = some (2, 9, 16, 0, 0) := by decide +kernel
theorem shape_power : objShape 0x5000 0x02 = some (1, 1, 1, 0, 0) := by decide +kernel
theorem shape_vrClear : objShape 0x5000 0x0F = some (2, 0, 1, 0, 0) := by decide +kernel
theorem shape_resetReq : objShape 0x5800 0x01 = some (2, 1, 1, 0, 0) := by decide +kernel
theorem shape_bootLoad : objShape 0x5800 0x0A = some (2, 9, 16, 0, 0) := by decide +kernel
theorem shape_commit : objShape 0x6000 0x03 = some (2, 9, 16, 0, 0) := by decide +kernel
theorem shape_activate : objShape 0x6000 0x06 = some (2, 3, 4, 0, 0) := by decide +kernel
theorem shape_restart : objShape 0x6000 0x0A = some (2, 1, 1, 0, 0) := by decide +kernel
theorem shape_floor : objShape 0x6800 0x06 = some (2, 3, 4, 0, 0) := by decide +kernel
theorem shape_option : objShape 0x6800 0x08 = some (2, 9, 160, 0, 0) := by decide +kernel
theorem shape_attest : objShape 0x6800 0x10 = some (2, 9, 32, 0, 0) := by decide +kernel
theorem shape_clearAll : objShape 0x7000 0x03 = some (2, 0, 1, 0, 0) := by decide +kernel

/-- No object of the tables lies at index 0x7900 or above. -/
theorem objTable_below : objTable.all (fun r => decide (r.base + r.count ≤ 0x7900)) = true := by decide +kernel

/-- An object that exists has an index below 0x7900. -/
theorem objExists_below {index sub : Nat} (h : objExists index sub = true) : index < 0x7900 := by
  have hb : ∀ r ∈ objTable, r.base + r.count ≤ 0x7900 := by simpa [List.all_eq_true] using objTable_below
  unfold objExists at h
  rw [Bool.or_eq_true] at h
  rcases h with h | h
  · unfold objRow at h
    cases hf : objTable.find? (fun r => decide (r.sub = sub) && decide (r.base ≤ index) && decide (index < r.base + r.count)) with
    | none => simp [hf] at h
    | some r =>
      have h1 := hb r (List.mem_of_find?_eq_some hf)
      have h2 := List.find?_some hf
      simp at h2; omega
  · unfold topSub at h
    cases hf : objTable.filter (fun r => decide (r.base ≤ index) && decide (index < r.base + r.count)) with
    | nil => simp [hf] at h
    | cons r l =>
      have hm : r ∈ objTable.filter (fun r => decide (r.base ≤ index) && decide (index < r.base + r.count)) := by simp [hf]
      rw [List.mem_filter] at hm
      have h1 := hb r hm.1
      have h2 := hm.2
      simp at h2; omega

end Sys2Proof.Machine
end

