-- ==== Sys2Proof/Laws/Ops.lean ====
section
/-! SUPPORT. For the shared operations, one lemma that says which parts of the state each can change, and the values that
the small ones give. -/

set_option Elab.async false

namespace Sys2Proof.Machine

/-- A counter counts and saturates; it changes nothing but the fault record. -/
theorem State.count_frame (s : State) (n k : Nat) : s.count n k = { s with flt := (s.count n k).flt } := rfl

theorem State.count_self {s : State} (n k : Nat) (h : mwf 0 s.flt.counters = true) :
    mget 0 (s.count n k).flt.counters n = min (mget 0 s.flt.counters n + k) (2 ^ 32 - 1) := mget_mset_self _ _ h

theorem State.count_other (s : State) (n k j : Nat) (h : j ≠ n) : mget 0 (s.count n k).flt.counters j = mget 0 s.flt.counters j :=
  mget_mset_other _ _ _ _ _ h

theorem State.setObj_frame (s : State) (i k v : Nat) : s.setObj i k v = { s with dict := (s.setObj i k v).dict } := by
  unfold State.setObj; split <;> rfl

/-- An event for the field port changes its queue, or counts. -/
theorem State.fpEvent_frame (s : State) (e : EventRec) : s.fpEvent e = { s with fp := (s.fpEvent e).fp, flt := (s.fpEvent e).flt } := by
  unfold State.fpEvent; split_ifs <;> rfl

theorem State.event_frame (s : State) (kind severity code payload : Nat) : s.event kind severity code payload = { s with
    dict := (s.event kind severity code payload).dict
    hl := (s.event kind severity code payload).hl
    fp := (s.event kind severity code payload).fp
    flt := (s.event kind severity code payload).flt } := by
  unfold State.event State.fpEvent; dsimp only; split_ifs <;> rfl

theorem State.condition_frame (s : State) (code severity payload : Nat) : s.condition code severity payload = { s with
    dict := (s.condition code severity payload).dict
    hl := (s.condition code severity payload).hl
    fp := (s.condition code severity payload).fp
    flt := (s.condition code severity payload).flt } := State.event_frame s 3 severity code payload

theorem State.interruption_frame (s : State) (c i : Nat) : s.interruption c i = { s with flt := (s.interruption c i).flt } := rfl

theorem State.startFault_frame (s : State) (c u : Nat) : s.startFault c u = { s with flt := (s.startFault c u).flt } := rfl

theorem State.endFault_frame (s : State) (c u : Nat) : s.endFault c u = { s with flt := (s.endFault c u).flt } := by
  unfold State.endFault; split <;> rfl

theorem State.pushCause_frame (s : State) (l c : Nat) : s.pushCause l c = { s with rst := (s.pushCause l c).rst } := rfl

theorem State.releaseTag_frame (s : State) (t : Nat) : s.releaseTag t = { s with fab := (s.releaseTag t).fab } := rfl

theorem State.becomeBad_frame (s : State) (g : Nat) : s.becomeBad g = { s with mem := (s.becomeBad g).mem, flt := (s.becomeBad g).flt } := by
  unfold State.becomeBad State.markBad; split_ifs <;> rfl

theorem State.becomeBad_bytes (s : State) (g : Nat) : (s.becomeBad g).mem.bytes = s.mem.bytes := by
  unfold State.becomeBad State.markBad; split_ifs <;> rfl

theorem State.becomeBad_mem (s : State) (g : Nat) : g ∈ (s.becomeBad g).mem.bad := by
  unfold State.becomeBad State.markBad
  split_ifs with h
  · exact h
  · exact List.mem_append_right _ (List.mem_singleton_self g)

theorem State.cpl_frame (s : State) (t st d : Nat) (bs : List Byte) : s.cpl t st d bs = { s with hl := (s.cpl t st d bs).hl } := rfl

theorem State.fpRespond_frame (s : State) (f : FpFrame) : s.fpRespond f = { s with fp := (s.fpRespond f).fp, flt := (s.fpRespond f).flt } := by
  unfold State.fpRespond; split_ifs <;> rfl

theorem State.fpRespond_room {s : State} (f : FpFrame) (h : s.fp.rsp.length < 32) :
    s.fpRespond f = { s with fp := { s.fp with rsp := s.fp.rsp ++ [f] } } := if_pos h

theorem State.answerField_frame (s : State) (node tid service i k : Nat) (a : Ans) : s.answerField node tid service i k a = { s with
    fp := (s.answerField node tid service i k a).fp
    flt := (s.answerField node tid service i k a).flt } := by
  unfold State.answerField State.fpRespond; dsimp only; split_ifs <;> rfl

/-- An answer changes nothing but the two ports and their counters. -/
theorem State.answer_frame (s : State) (p : Port) (i k : Nat) (a : Ans) : s.answer p i k a = { s with
    hl := (s.answer p i k a).hl
    fp := (s.answer p i k a).fp
    flt := (s.answer p i k a).flt } := by
  unfold State.answer
  cases p with
  | host t => cases a <;> dsimp only <;> split_ifs <;> rfl
  | field n t v => cases a <;> dsimp only <;> rw [State.answerField_frame]

/-- A host request on a link that is Up is answered OK by one completion with the data. -/
theorem State.answer_host_ok {s : State} (t i k : Nat) (bs : List Byte) (h : s.hl.state = .up) :
    s.answer (.host t) i k (.ok bs) = s.cpl t 0 0 bs := by
  simp [State.answer, h]

theorem State.answer_host_err {s : State} (t i k c d : Nat) (h : s.hl.state = .up) :
    s.answer (.host t) i k (.err c d) = s.cpl t 1 (c % 256 + 256 * (d % 256)) := by
  simp [State.answer, h]

end Sys2Proof.Machine
end

