-- ==== Sys2Proof/Laws/State.lean ====
section
/-! SUPPORT. One lemma per field per update: an update of one part of the state leaves every other part as it is. -/

set_option Elab.async false

namespace Sys2Proof.Machine

/-! ### modRegion changes regions alone -/

@[simp] theorem State.modRegion_time (s : State) (r : Nat) (f : Region → Region) : (s.modRegion r f).time = s.time := rfl
@[simp] theorem State.modRegion_mem (s : State) (r : Nat) (f : Region → Region) : (s.modRegion r f).mem = s.mem := rfl
@[simp] theorem State.modRegion_basin (s : State) (r : Nat) (f : Region → Region) : (s.modRegion r f).basin = s.basin := rfl
@[simp] theorem State.modRegion_rings (s : State) (r : Nat) (f : Region → Region) : (s.modRegion r f).rings = s.rings := rfl
@[simp] theorem State.modRegion_tiles (s : State) (r : Nat) (f : Region → Region) : (s.modRegion r f).tiles = s.tiles := rfl
@[simp] theorem State.modRegion_cols (s : State) (r : Nat) (f : Region → Region) : (s.modRegion r f).cols = s.cols := rfl
@[simp] theorem State.modRegion_heaters (s : State) (r : Nat) (f : Region → Region) : (s.modRegion r f).heaters = s.heaters := rfl
@[simp] theorem State.modRegion_tileLoops (s : State) (r : Nat) (f : Region → Region) : (s.modRegion r f).tileLoops = s.tileLoops := rfl
@[simp] theorem State.modRegion_clusters (s : State) (r : Nat) (f : Region → Region) : (s.modRegion r f).clusters = s.clusters := rfl
@[simp] theorem State.modRegion_accs (s : State) (r : Nat) (f : Region → Region) : (s.modRegion r f).accs = s.accs := rfl
@[simp] theorem State.modRegion_set0 (s : State) (r : Nat) (f : Region → Region) : (s.modRegion r f).set0 = s.set0 := rfl
@[simp] theorem State.modRegion_set1 (s : State) (r : Nat) (f : Region → Region) : (s.modRegion r f).set1 = s.set1 := rfl
@[simp] theorem State.modRegion_ops (s : State) (r : Nat) (f : Region → Region) : (s.modRegion r f).ops = s.ops := rfl
@[simp] theorem State.modRegion_queues (s : State) (r : Nat) (f : Region → Region) : (s.modRegion r f).queues = s.queues := rfl
@[simp] theorem State.modRegion_epochs (s : State) (r : Nat) (f : Region → Region) : (s.modRegion r f).epochs = s.epochs := rfl
@[simp] theorem State.modRegion_tokens (s : State) (r : Nat) (f : Region → Region) : (s.modRegion r f).tokens = s.tokens := rfl
@[simp] theorem State.modRegion_specWrites (s : State) (r : Nat) (f : Region → Region) : (s.modRegion r f).specWrites = s.specWrites := rfl
@[simp] theorem State.modRegion_ctxs (s : State) (r : Nat) (f : Region → Region) : (s.modRegion r f).ctxs = s.ctxs := rfl
@[simp] theorem State.modRegion_reqs (s : State) (r : Nat) (f : Region → Region) : (s.modRegion r f).reqs = s.reqs := rfl
@[simp] theorem State.modRegion_xcache (s : State) (r : Nat) (f : Region → Region) : (s.modRegion r f).xcache = s.xcache := rfl
@[simp] theorem State.modRegion_fab (s : State) (r : Nat) (f : Region → Region) : (s.modRegion r f).fab = s.fab := rfl
@[simp] theorem State.modRegion_casc (s : State) (r : Nat) (f : Region → Region) : (s.modRegion r f).casc = s.casc := rfl
@[simp] theorem State.modRegion_hl (s : State) (r : Nat) (f : Region → Region) : (s.modRegion r f).hl = s.hl := rfl
@[simp] theorem State.modRegion_fp (s : State) (r : Nat) (f : Region → Region) : (s.modRegion r f).fp = s.fp := rfl
@[simp] theorem State.modRegion_procs (s : State) (r : Nat) (f : Region → Region) : (s.modRegion r f).procs = s.procs := rfl
@[simp] theorem State.modRegion_fw (s : State) (r : Nat) (f : Region → Region) : (s.modRegion r f).fw = s.fw := rfl
@[simp] theorem State.modRegion_rst (s : State) (r : Nat) (f : Region → Region) : (s.modRegion r f).rst = s.rst := rfl
@[simp] theorem State.modRegion_pwr (s : State) (r : Nat) (f : Region → Region) : (s.modRegion r f).pwr = s.pwr := rfl
@[simp] theorem State.modRegion_sec (s : State) (r : Nat) (f : Region → Region) : (s.modRegion r f).sec = s.sec := rfl
@[simp] theorem State.modRegion_light (s : State) (r : Nat) (f : Region → Region) : (s.modRegion r f).light = s.light := rfl
@[simp] theorem State.modRegion_cal (s : State) (r : Nat) (f : Region → Region) : (s.modRegion r f).cal = s.cal := rfl
@[simp] theorem State.modRegion_flt (s : State) (r : Nat) (f : Region → Region) : (s.modRegion r f).flt = s.flt := rfl
@[simp] theorem State.modRegion_dict (s : State) (r : Nat) (f : Region → Region) : (s.modRegion r f).dict = s.dict := rfl
@[simp] theorem State.modRegion_pending (s : State) (r : Nat) (f : Region → Region) : (s.modRegion r f).pending = s.pending := rfl
@[simp] theorem State.modRegion_freeCtr (s : State) (r : Nat) (f : Region → Region) : (s.modRegion r f).freeCtr = s.freeCtr := rfl
@[simp] theorem State.modRegion_codes (s : State) (r : Nat) (f : Region → Region) : (s.modRegion r f).codes = s.codes := rfl
@[simp] theorem State.modRegion_ringAt (s : State) (r : Nat) (f : Region → Region) : (s.modRegion r f).ringAt = s.ringAt := rfl
@[simp] theorem State.modRegion_writes (s : State) (r : Nat) (f : Region → Region) : (s.modRegion r f).writes = s.writes := rfl
@[simp] theorem State.modRegion_mirrorReads (s : State) (r : Nat) (f : Region → Region) : (s.modRegion r f).mirrorReads = s.mirrorReads := rfl
@[simp] theorem State.modRegion_calNv (s : State) (r : Nat) (f : Region → Region) : (s.modRegion r f).calNv = s.calNv := rfl
@[simp] theorem State.modRegion_tileNv (s : State) (r : Nat) (f : Region → Region) : (s.modRegion r f).tileNv = s.tileNv := rfl
@[simp] theorem State.modRegion_drainOrder (s : State) (r : Nat) (f : Region → Region) : (s.modRegion r f).drainOrder = s.drainOrder := rfl
@[simp] theorem State.modRegion_drainBusy (s : State) (r : Nat) (f : Region → Region) : (s.modRegion r f).drainBusy = s.drainBusy := rfl
@[simp] theorem State.modRegion_helper (s : State) (r : Nat) (f : Region → Region) : (s.modRegion r f).helper = s.helper := rfl
@[simp] theorem State.modRegion_drainWaits (s : State) (r : Nat) (f : Region → Region) : (s.modRegion r f).drainWaits = s.drainWaits := rfl
@[simp] theorem State.modRegion_admissions (s : State) (r : Nat) (f : Region → Region) : (s.modRegion r f).admissions = s.admissions := rfl
@[simp] theorem State.modRegion_epochSerial (s : State) (r : Nat) (f : Region → Region) : (s.modRegion r f).epochSerial = s.epochSerial := rfl
@[simp] theorem State.modRegion_lastStamp (s : State) (r : Nat) (f : Region → Region) : (s.modRegion r f).lastStamp = s.lastStamp := rfl
@[simp] theorem State.modRegion_provTokens (s : State) (r : Nat) (f : Region → Region) : (s.modRegion r f).provTokens = s.provTokens := rfl
@[simp] theorem State.modRegion_provIds (s : State) (r : Nat) (f : Region → Region) : (s.modRegion r f).provIds = s.provIds := rfl
@[simp] theorem State.modRegion_epochMsgs (s : State) (r : Nat) (f : Region → Region) : (s.modRegion r f).epochMsgs = s.epochMsgs := rfl
@[simp] theorem State.modRegion_reqSerial (s : State) (r : Nat) (f : Region → Region) : (s.modRegion r f).reqSerial = s.reqSerial := rfl
@[simp] theorem State.modRegion_invals (s : State) (r : Nat) (f : Region → Region) : (s.modRegion r f).invals = s.invals := rfl
@[simp] theorem State.modRegion_streamRefusal (s : State) (r : Nat) (f : Region → Region) : (s.modRegion r f).streamRefusal = s.streamRefusal := rfl
@[simp] theorem State.modRegion_poolProgress (s : State) (r : Nat) (f : Region → Region) : (s.modRegion r f).poolProgress = s.poolProgress := rfl
@[simp] theorem State.modRegion_digests (s : State) (r : Nat) (f : Region → Region) : (s.modRegion r f).digests = s.digests := rfl

/-! ### modTile changes tiles alone -/

@[simp] theorem State.modTile_time (s : State) (t : Nat) (f : TileSt → TileSt) : (s.modTile t f).time = s.time := rfl
@[simp] theorem State.modTile_mem (s : State) (t : Nat) (f : TileSt → TileSt) : (s.modTile t f).mem = s.mem := rfl
@[simp] theorem State.modTile_basin (s : State) (t : Nat) (f : TileSt → TileSt) : (s.modTile t f).basin = s.basin := rfl
@[simp] theorem State.modTile_regions (s : State) (t : Nat) (f : TileSt → TileSt) : (s.modTile t f).regions = s.regions := rfl
@[simp] theorem State.modTile_rings (s : State) (t : Nat) (f : TileSt → TileSt) : (s.modTile t f).rings = s.rings := rfl
@[simp] theorem State.modTile_cols (s : State) (t : Nat) (f : TileSt → TileSt) : (s.modTile t f).cols = s.cols := rfl
@[simp] theorem State.modTile_heaters (s : State) (t : Nat) (f : TileSt → TileSt) : (s.modTile t f).heaters = s.heaters := rfl
@[simp] theorem State.modTile_tileLoops (s : State) (t : Nat) (f : TileSt → TileSt) : (s.modTile t f).tileLoops = s.tileLoops := rfl
@[simp] theorem State.modTile_clusters (s : State) (t : Nat) (f : TileSt → TileSt) : (s.modTile t f).clusters = s.clusters := rfl
@[simp] theorem State.modTile_accs (s : State) (t : Nat) (f : TileSt → TileSt) : (s.modTile t f).accs = s.accs := rfl
@[simp] theorem State.modTile_set0 (s : State) (t : Nat) (f : TileSt → TileSt) : (s.modTile t f).set0 = s.set0 := rfl
@[simp] theorem State.modTile_set1 (s : State) (t : Nat) (f : TileSt → TileSt) : (s.modTile t f).set1 = s.set1 := rfl
@[simp] theorem State.modTile_ops (s : State) (t : Nat) (f : TileSt → TileSt) : (s.modTile t f).ops = s.ops := rfl
@[simp] theorem State.modTile_queues (s : State) (t : Nat) (f : TileSt → TileSt) : (s.modTile t f).queues = s.queues := rfl
@[simp] theorem State.modTile_epochs (s : State) (t : Nat) (f : TileSt → TileSt) : (s.modTile t f).epochs = s.epochs := rfl
@[simp] theorem State.modTile_tokens (s : State) (t : Nat) (f : TileSt → TileSt) : (s.modTile t f).tokens = s.tokens := rfl
@[simp] theorem State.modTile_specWrites (s : State) (t : Nat) (f : TileSt → TileSt) : (s.modTile t f).specWrites = s.specWrites := rfl
@[simp] theorem State.modTile_ctxs (s : State) (t : Nat) (f : TileSt → TileSt) : (s.modTile t f).ctxs = s.ctxs := rfl
@[simp] theorem State.modTile_reqs (s : State) (t : Nat) (f : TileSt → TileSt) : (s.modTile t f).reqs = s.reqs := rfl
@[simp] theorem State.modTile_xcache (s : State) (t : Nat) (f : TileSt → TileSt) : (s.modTile t f).xcache = s.xcache := rfl
@[simp] theorem State.modTile_fab (s : State) (t : Nat) (f : TileSt → TileSt) : (s.modTile t f).fab = s.fab := rfl
@[simp] theorem State.modTile_casc (s : State) (t : Nat) (f : TileSt → TileSt) : (s.modTile t f).casc = s.casc := rfl
@[simp] theorem State.modTile_hl (s : State) (t : Nat) (f : TileSt → TileSt) : (s.modTile t f).hl = s.hl := rfl
@[simp] theorem State.modTile_fp (s : State) (t : Nat) (f : TileSt → TileSt) : (s.modTile t f).fp = s.fp := rfl
@[simp] theorem State.modTile_procs (s : State) (t : Nat) (f : TileSt → TileSt) : (s.modTile t f).procs = s.procs := rfl
@[simp] theorem State.modTile_fw (s : State) (t : Nat) (f : TileSt → TileSt) : (s.modTile t f).fw = s.fw := rfl
@[simp] theorem State.modTile_rst (s : State) (t : Nat) (f : TileSt → TileSt) : (s.modTile t f).rst = s.rst := rfl
@[simp] theorem State.modTile_pwr (s : State) (t : Nat) (f : TileSt → TileSt) : (s.modTile t f).pwr = s.pwr := rfl
@[simp] theorem State.modTile_sec (s : State) (t : Nat) (f : TileSt → TileSt) : (s.modTile t f).sec = s.sec := rfl
@[simp] theorem State.modTile_light (s : State) (t : Nat) (f : TileSt → TileSt) : (s.modTile t f).light = s.light := rfl
@[simp] theorem State.modTile_cal (s : State) (t : Nat) (f : TileSt → TileSt) : (s.modTile t f).cal = s.cal := rfl
@[simp] theorem State.modTile_flt (s : State) (t : Nat) (f : TileSt → TileSt) : (s.modTile t f).flt = s.flt := rfl
@[simp] theorem State.modTile_dict (s : State) (t : Nat) (f : TileSt → TileSt) : (s.modTile t f).dict = s.dict := rfl
@[simp] theorem State.modTile_pending (s : State) (t : Nat) (f : TileSt → TileSt) : (s.modTile t f).pending = s.pending := rfl
@[simp] theorem State.modTile_freeCtr (s : State) (t : Nat) (f : TileSt → TileSt) : (s.modTile t f).freeCtr = s.freeCtr := rfl
@[simp] theorem State.modTile_codes (s : State) (t : Nat) (f : TileSt → TileSt) : (s.modTile t f).codes = s.codes := rfl
@[simp] theorem State.modTile_ringAt (s : State) (t : Nat) (f : TileSt → TileSt) : (s.modTile t f).ringAt = s.ringAt := rfl
@[simp] theorem State.modTile_writes (s : State) (t : Nat) (f : TileSt → TileSt) : (s.modTile t f).writes = s.writes := rfl
@[simp] theorem State.modTile_mirrorReads (s : State) (t : Nat) (f : TileSt → TileSt) : (s.modTile t f).mirrorReads = s.mirrorReads := rfl
@[simp] theorem State.modTile_calNv (s : State) (t : Nat) (f : TileSt → TileSt) : (s.modTile t f).calNv = s.calNv := rfl
@[simp] theorem State.modTile_tileNv (s : State) (t : Nat) (f : TileSt → TileSt) : (s.modTile t f).tileNv = s.tileNv := rfl
@[simp] theorem State.modTile_drainOrder (s : State) (t : Nat) (f : TileSt → TileSt) : (s.modTile t f).drainOrder = s.drainOrder := rfl
@[simp] theorem State.modTile_drainBusy (s : State) (t : Nat) (f : TileSt → TileSt) : (s.modTile t f).drainBusy = s.drainBusy := rfl
@[simp] theorem State.modTile_helper (s : State) (t : Nat) (f : TileSt → TileSt) : (s.modTile t f).helper = s.helper := rfl
@[simp] theorem State.modTile_drainWaits (s : State) (t : Nat) (f : TileSt → TileSt) : (s.modTile t f).drainWaits = s.drainWaits := rfl
@[simp] theorem State.modTile_admissions (s : State) (t : Nat) (f : TileSt → TileSt) : (s.modTile t f).admissions = s.admissions := rfl
@[simp] theorem State.modTile_epochSerial (s : State) (t : Nat) (f : TileSt → TileSt) : (s.modTile t f).epochSerial = s.epochSerial := rfl
@[simp] theorem State.modTile_lastStamp (s : State) (t : Nat) (f : TileSt → TileSt) : (s.modTile t f).lastStamp = s.lastStamp := rfl
@[simp] theorem State.modTile_provTokens (s : State) (t : Nat) (f : TileSt → TileSt) : (s.modTile t f).provTokens = s.provTokens := rfl
@[simp] theorem State.modTile_provIds (s : State) (t : Nat) (f : TileSt → TileSt) : (s.modTile t f).provIds = s.provIds := rfl
@[simp] theorem State.modTile_epochMsgs (s : State) (t : Nat) (f : TileSt → TileSt) : (s.modTile t f).epochMsgs = s.epochMsgs := rfl
@[simp] theorem State.modTile_reqSerial (s : State) (t : Nat) (f : TileSt → TileSt) : (s.modTile t f).reqSerial = s.reqSerial := rfl
@[simp] theorem State.modTile_invals (s : State) (t : Nat) (f : TileSt → TileSt) : (s.modTile t f).invals = s.invals := rfl
@[simp] theorem State.modTile_streamRefusal (s : State) (t : Nat) (f : TileSt → TileSt) : (s.modTile t f).streamRefusal = s.streamRefusal := rfl
@[simp] theorem State.modTile_poolProgress (s : State) (t : Nat) (f : TileSt → TileSt) : (s.modTile t f).poolProgress = s.poolProgress := rfl
@[simp] theorem State.modTile_digests (s : State) (t : Nat) (f : TileSt → TileSt) : (s.modTile t f).digests = s.digests := rfl

/-! ### modCol changes cols alone -/

@[simp] theorem State.modCol_time (s : State) (t p : Nat) (f : ColSt → ColSt) : (s.modCol t p f).time = s.time := rfl
@[simp] theorem State.modCol_mem (s : State) (t p : Nat) (f : ColSt → ColSt) : (s.modCol t p f).mem = s.mem := rfl
@[simp] theorem State.modCol_basin (s : State) (t p : Nat) (f : ColSt → ColSt) : (s.modCol t p f).basin = s.basin := rfl
@[simp] theorem State.modCol_regions (s : State) (t p : Nat) (f : ColSt → ColSt) : (s.modCol t p f).regions = s.regions := rfl
@[simp] theorem State.modCol_rings (s : State) (t p : Nat) (f : ColSt → ColSt) : (s.modCol t p f).rings = s.rings := rfl
@[simp] theorem State.modCol_tiles (s : State) (t p : Nat) (f : ColSt → ColSt) : (s.modCol t p f).tiles = s.tiles := rfl
@[simp] theorem State.modCol_heaters (s : State) (t p : Nat) (f : ColSt → ColSt) : (s.modCol t p f).heaters = s.heaters := rfl
@[simp] theorem State.modCol_tileLoops (s : State) (t p : Nat) (f : ColSt → ColSt) : (s.modCol t p f).tileLoops = s.tileLoops := rfl
@[simp] theorem State.modCol_clusters (s : State) (t p : Nat) (f : ColSt → ColSt) : (s.modCol t p f).clusters = s.clusters := rfl
@[simp] theorem State.modCol_accs (s : State) (t p : Nat) (f : ColSt → ColSt) : (s.modCol t p f).accs = s.accs := rfl
@[simp] theorem State.modCol_set0 (s : State) (t p : Nat) (f : ColSt → ColSt) : (s.modCol t p f).set0 = s.set0 := rfl
@[simp] theorem State.modCol_set1 (s : State) (t p : Nat) (f : ColSt → ColSt) : (s.modCol t p f).set1 = s.set1 := rfl
@[simp] theorem State.modCol_ops (s : State) (t p : Nat) (f : ColSt → ColSt) : (s.modCol t p f).ops = s.ops := rfl
@[simp] theorem State.modCol_queues (s : State) (t p : Nat) (f : ColSt → ColSt) : (s.modCol t p f).queues = s.queues := rfl
@[simp] theorem State.modCol_epochs (s : State) (t p : Nat) (f : ColSt → ColSt) : (s.modCol t p f).epochs = s.epochs := rfl
@[simp] theorem State.modCol_tokens (s : State) (t p : Nat) (f : ColSt → ColSt) : (s.modCol t p f).tokens = s.tokens := rfl
@[simp] theorem State.modCol_specWrites (s : State) (t p : Nat) (f : ColSt → ColSt) : (s.modCol t p f).specWrites = s.specWrites := rfl
@[simp] theorem State.modCol_ctxs (s : State) (t p : Nat) (f : ColSt → ColSt) : (s.modCol t p f).ctxs = s.ctxs := rfl
@[simp] theorem State.modCol_reqs (s : State) (t p : Nat) (f : ColSt → ColSt) : (s.modCol t p f).reqs = s.reqs := rfl
@[simp] theorem State.modCol_xcache (s : State) (t p : Nat) (f : ColSt → ColSt) : (s.modCol t p f).xcache = s.xcache := rfl
@[simp] theorem State.modCol_fab (s : State) (t p : Nat) (f : ColSt → ColSt) : (s.modCol t p f).fab = s.fab := rfl
@[simp] theorem State.modCol_casc (s : State) (t p : Nat) (f : ColSt → ColSt) : (s.modCol t p f).casc = s.casc := rfl
@[simp] theorem State.modCol_hl (s : State) (t p : Nat) (f : ColSt → ColSt) : (s.modCol t p f).hl = s.hl := rfl
@[simp] theorem State.modCol_fp (s : State) (t p : Nat) (f : ColSt → ColSt) : (s.modCol t p f).fp = s.fp := rfl
@[simp] theorem State.modCol_procs (s : State) (t p : Nat) (f : ColSt → ColSt) : (s.modCol t p f).procs = s.procs := rfl
@[simp] theorem State.modCol_fw (s : State) (t p : Nat) (f : ColSt → ColSt) : (s.modCol t p f).fw = s.fw := rfl
@[simp] theorem State.modCol_rst (s : State) (t p : Nat) (f : ColSt → ColSt) : (s.modCol t p f).rst = s.rst := rfl
@[simp] theorem State.modCol_pwr (s : State) (t p : Nat) (f : ColSt → ColSt) : (s.modCol t p f).pwr = s.pwr := rfl
@[simp] theorem State.modCol_sec (s : State) (t p : Nat) (f : ColSt → ColSt) : (s.modCol t p f).sec = s.sec := rfl
@[simp] theorem State.modCol_light (s : State) (t p : Nat) (f : ColSt → ColSt) : (s.modCol t p f).light = s.light := rfl
@[simp] theorem State.modCol_cal (s : State) (t p : Nat) (f : ColSt → ColSt) : (s.modCol t p f).cal = s.cal := rfl
@[simp] theorem State.modCol_flt (s : State) (t p : Nat) (f : ColSt → ColSt) : (s.modCol t p f).flt = s.flt := rfl
@[simp] theorem State.modCol_dict (s : State) (t p : Nat) (f : ColSt → ColSt) : (s.modCol t p f).dict = s.dict := rfl
@[simp] theorem State.modCol_pending (s : State) (t p : Nat) (f : ColSt → ColSt) : (s.modCol t p f).pending = s.pending := rfl
@[simp] theorem State.modCol_freeCtr (s : State) (t p : Nat) (f : ColSt → ColSt) : (s.modCol t p f).freeCtr = s.freeCtr := rfl
@[simp] theorem State.modCol_codes (s : State) (t p : Nat) (f : ColSt → ColSt) : (s.modCol t p f).codes = s.codes := rfl
@[simp] theorem State.modCol_ringAt (s : State) (t p : Nat) (f : ColSt → ColSt) : (s.modCol t p f).ringAt = s.ringAt := rfl
@[simp] theorem State.modCol_writes (s : State) (t p : Nat) (f : ColSt → ColSt) : (s.modCol t p f).writes = s.writes := rfl
@[simp] theorem State.modCol_mirrorReads (s : State) (t p : Nat) (f : ColSt → ColSt) : (s.modCol t p f).mirrorReads = s.mirrorReads := rfl
@[simp] theorem State.modCol_calNv (s : State) (t p : Nat) (f : ColSt → ColSt) : (s.modCol t p f).calNv = s.calNv := rfl
@[simp] theorem State.modCol_tileNv (s : State) (t p : Nat) (f : ColSt → ColSt) : (s.modCol t p f).tileNv = s.tileNv := rfl
@[simp] theorem State.modCol_drainOrder (s : State) (t p : Nat) (f : ColSt → ColSt) : (s.modCol t p f).drainOrder = s.drainOrder := rfl
@[simp] theorem State.modCol_drainBusy (s : State) (t p : Nat) (f : ColSt → ColSt) : (s.modCol t p f).drainBusy = s.drainBusy := rfl
@[simp] theorem State.modCol_helper (s : State) (t p : Nat) (f : ColSt → ColSt) : (s.modCol t p f).helper = s.helper := rfl
@[simp] theorem State.modCol_drainWaits (s : State) (t p : Nat) (f : ColSt → ColSt) : (s.modCol t p f).drainWaits = s.drainWaits := rfl
@[simp] theorem State.modCol_admissions (s : State) (t p : Nat) (f : ColSt → ColSt) : (s.modCol t p f).admissions = s.admissions := rfl
@[simp] theorem State.modCol_epochSerial (s : State) (t p : Nat) (f : ColSt → ColSt) : (s.modCol t p f).epochSerial = s.epochSerial := rfl
@[simp] theorem State.modCol_lastStamp (s : State) (t p : Nat) (f : ColSt → ColSt) : (s.modCol t p f).lastStamp = s.lastStamp := rfl
@[simp] theorem State.modCol_provTokens (s : State) (t p : Nat) (f : ColSt → ColSt) : (s.modCol t p f).provTokens = s.provTokens := rfl
@[simp] theorem State.modCol_provIds (s : State) (t p : Nat) (f : ColSt → ColSt) : (s.modCol t p f).provIds = s.provIds := rfl
@[simp] theorem State.modCol_epochMsgs (s : State) (t p : Nat) (f : ColSt → ColSt) : (s.modCol t p f).epochMsgs = s.epochMsgs := rfl
@[simp] theorem State.modCol_reqSerial (s : State) (t p : Nat) (f : ColSt → ColSt) : (s.modCol t p f).reqSerial = s.reqSerial := rfl
@[simp] theorem State.modCol_invals (s : State) (t p : Nat) (f : ColSt → ColSt) : (s.modCol t p f).invals = s.invals := rfl
@[simp] theorem State.modCol_streamRefusal (s : State) (t p : Nat) (f : ColSt → ColSt) : (s.modCol t p f).streamRefusal = s.streamRefusal := rfl
@[simp] theorem State.modCol_poolProgress (s : State) (t p : Nat) (f : ColSt → ColSt) : (s.modCol t p f).poolProgress = s.poolProgress := rfl
@[simp] theorem State.modCol_digests (s : State) (t p : Nat) (f : ColSt → ColSt) : (s.modCol t p f).digests = s.digests := rfl

/-! ### modHeater changes heaters alone -/

@[simp] theorem State.modHeater_time (s : State) (t h : Nat) (f : HeaterSt → HeaterSt) : (s.modHeater t h f).time = s.time := rfl
@[simp] theorem State.modHeater_mem (s : State) (t h : Nat) (f : HeaterSt → HeaterSt) : (s.modHeater t h f).mem = s.mem := rfl
@[simp] theorem State.modHeater_basin (s : State) (t h : Nat) (f : HeaterSt → HeaterSt) : (s.modHeater t h f).basin = s.basin := rfl
@[simp] theorem State.modHeater_regions (s : State) (t h : Nat) (f : HeaterSt → HeaterSt) : (s.modHeater t h f).regions = s.regions := rfl
@[simp] theorem State.modHeater_rings (s : State) (t h : Nat) (f : HeaterSt → HeaterSt) : (s.modHeater t h f).rings = s.rings := rfl
@[simp] theorem State.modHeater_tiles (s : State) (t h : Nat) (f : HeaterSt → HeaterSt) : (s.modHeater t h f).tiles = s.tiles := rfl
@[simp] theorem State.modHeater_cols (s : State) (t h : Nat) (f : HeaterSt → HeaterSt) : (s.modHeater t h f).cols = s.cols := rfl
@[simp] theorem State.modHeater_tileLoops (s : State) (t h : Nat) (f : HeaterSt → HeaterSt) : (s.modHeater t h f).tileLoops = s.tileLoops := rfl
@[simp] theorem State.modHeater_clusters (s : State) (t h : Nat) (f : HeaterSt → HeaterSt) : (s.modHeater t h f).clusters = s.clusters := rfl
@[simp] theorem State.modHeater_accs (s : State) (t h : Nat) (f : HeaterSt → HeaterSt) : (s.modHeater t h f).accs = s.accs := rfl
@[simp] theorem State.modHeater_set0 (s : State) (t h : Nat) (f : HeaterSt → HeaterSt) : (s.modHeater t h f).set0 = s.set0 := rfl
@[simp] theorem State.modHeater_set1 (s : State) (t h : Nat) (f : HeaterSt → HeaterSt) : (s.modHeater t h f).set1 = s.set1 := rfl
@[simp] theorem State.modHeater_ops (s : State) (t h : Nat) (f : HeaterSt → HeaterSt) : (s.modHeater t h f).ops = s.ops := rfl
@[simp] theorem State.modHeater_queues (s : State) (t h : Nat) (f : HeaterSt → HeaterSt) : (s.modHeater t h f).queues = s.queues := rfl
@[simp] theorem State.modHeater_epochs (s : State) (t h : Nat) (f : HeaterSt → HeaterSt) : (s.modHeater t h f).epochs = s.epochs := rfl
@[simp] theorem State.modHeater_tokens (s : State) (t h : Nat) (f : HeaterSt → HeaterSt) : (s.modHeater t h f).tokens = s.tokens := rfl
@[simp] theorem State.modHeater_specWrites (s : State) (t h : Nat) (f : HeaterSt → HeaterSt) : (s.modHeater t h f).specWrites = s.specWrites := rfl
@[simp] theorem State.modHeater_ctxs (s : State) (t h : Nat) (f : HeaterSt → HeaterSt) : (s.modHeater t h f).ctxs = s.ctxs := rfl
@[simp] theorem State.modHeater_reqs (s : State) (t h : Nat) (f : HeaterSt → HeaterSt) : (s.modHeater t h f).reqs = s.reqs := rfl
@[simp] theorem State.modHeater_xcache (s : State) (t h : Nat) (f : HeaterSt → HeaterSt) : (s.modHeater t h f).xcache = s.xcache := rfl
@[simp] theorem State.modHeater_fab (s : State) (t h : Nat) (f : HeaterSt → HeaterSt) : (s.modHeater t h f).fab = s.fab := rfl
@[simp] theorem State.modHeater_casc (s : State) (t h : Nat) (f : HeaterSt → HeaterSt) : (s.modHeater t h f).casc = s.casc := rfl
@[simp] theorem State.modHeater_hl (s : State) (t h : Nat) (f : HeaterSt → HeaterSt) : (s.modHeater t h f).hl = s.hl := rfl
@[simp] theorem State.modHeater_fp (s : State) (t h : Nat) (f : HeaterSt → HeaterSt) : (s.modHeater t h f).fp = s.fp := rfl
@[simp] theorem State.modHeater_procs (s : State) (t h : Nat) (f : HeaterSt → HeaterSt) : (s.modHeater t h f).procs = s.procs := rfl
@[simp] theorem State.modHeater_fw (s : State) (t h : Nat) (f : HeaterSt → HeaterSt) : (s.modHeater t h f).fw = s.fw := rfl
@[simp] theorem State.modHeater_rst (s : State) (t h : Nat) (f : HeaterSt → HeaterSt) : (s.modHeater t h f).rst = s.rst := rfl
@[simp] theorem State.modHeater_pwr (s : State) (t h : Nat) (f : HeaterSt → HeaterSt) : (s.modHeater t h f).pwr = s.pwr := rfl
@[simp] theorem State.modHeater_sec (s : State) (t h : Nat) (f : HeaterSt → HeaterSt) : (s.modHeater t h f).sec = s.sec := rfl
@[simp] theorem State.modHeater_light (s : State) (t h : Nat) (f : HeaterSt → HeaterSt) : (s.modHeater t h f).light = s.light := rfl
@[simp] theorem State.modHeater_cal (s : State) (t h : Nat) (f : HeaterSt → HeaterSt) : (s.modHeater t h f).cal = s.cal := rfl
@[simp] theorem State.modHeater_flt (s : State) (t h : Nat) (f : HeaterSt → HeaterSt) : (s.modHeater t h f).flt = s.flt := rfl
@[simp] theorem State.modHeater_dict (s : State) (t h : Nat) (f : HeaterSt → HeaterSt) : (s.modHeater t h f).dict = s.dict := rfl
@[simp] theorem State.modHeater_pending (s : State) (t h : Nat) (f : HeaterSt → HeaterSt) : (s.modHeater t h f).pending = s.pending := rfl
@[simp] theorem State.modHeater_freeCtr (s : State) (t h : Nat) (f : HeaterSt → HeaterSt) : (s.modHeater t h f).freeCtr = s.freeCtr := rfl
@[simp] theorem State.modHeater_codes (s : State) (t h : Nat) (f : HeaterSt → HeaterSt) : (s.modHeater t h f).codes = s.codes := rfl
@[simp] theorem State.modHeater_ringAt (s : State) (t h : Nat) (f : HeaterSt → HeaterSt) : (s.modHeater t h f).ringAt = s.ringAt := rfl
@[simp] theorem State.modHeater_writes (s : State) (t h : Nat) (f : HeaterSt → HeaterSt) : (s.modHeater t h f).writes = s.writes := rfl
@[simp] theorem State.modHeater_mirrorReads (s : State) (t h : Nat) (f : HeaterSt → HeaterSt) : (s.modHeater t h f).mirrorReads = s.mirrorReads := rfl
@[simp] theorem State.modHeater_calNv (s : State) (t h : Nat) (f : HeaterSt → HeaterSt) : (s.modHeater t h f).calNv = s.calNv := rfl
@[simp] theorem State.modHeater_tileNv (s : State) (t h : Nat) (f : HeaterSt → HeaterSt) : (s.modHeater t h f).tileNv = s.tileNv := rfl
@[simp] theorem State.modHeater_drainOrder (s : State) (t h : Nat) (f : HeaterSt → HeaterSt) : (s.modHeater t h f).drainOrder = s.drainOrder := rfl
@[simp] theorem State.modHeater_drainBusy (s : State) (t h : Nat) (f : HeaterSt → HeaterSt) : (s.modHeater t h f).drainBusy = s.drainBusy := rfl
@[simp] theorem State.modHeater_helper (s : State) (t h : Nat) (f : HeaterSt → HeaterSt) : (s.modHeater t h f).helper = s.helper := rfl
@[simp] theorem State.modHeater_drainWaits (s : State) (t h : Nat) (f : HeaterSt → HeaterSt) : (s.modHeater t h f).drainWaits = s.drainWaits := rfl
@[simp] theorem State.modHeater_admissions (s : State) (t h : Nat) (f : HeaterSt → HeaterSt) : (s.modHeater t h f).admissions = s.admissions := rfl
@[simp] theorem State.modHeater_epochSerial (s : State) (t h : Nat) (f : HeaterSt → HeaterSt) : (s.modHeater t h f).epochSerial = s.epochSerial := rfl
@[simp] theorem State.modHeater_lastStamp (s : State) (t h : Nat) (f : HeaterSt → HeaterSt) : (s.modHeater t h f).lastStamp = s.lastStamp := rfl
@[simp] theorem State.modHeater_provTokens (s : State) (t h : Nat) (f : HeaterSt → HeaterSt) : (s.modHeater t h f).provTokens = s.provTokens := rfl
@[simp] theorem State.modHeater_provIds (s : State) (t h : Nat) (f : HeaterSt → HeaterSt) : (s.modHeater t h f).provIds = s.provIds := rfl
@[simp] theorem State.modHeater_epochMsgs (s : State) (t h : Nat) (f : HeaterSt → HeaterSt) : (s.modHeater t h f).epochMsgs = s.epochMsgs := rfl
@[simp] theorem State.modHeater_reqSerial (s : State) (t h : Nat) (f : HeaterSt → HeaterSt) : (s.modHeater t h f).reqSerial = s.reqSerial := rfl
@[simp] theorem State.modHeater_invals (s : State) (t h : Nat) (f : HeaterSt → HeaterSt) : (s.modHeater t h f).invals = s.invals := rfl
@[simp] theorem State.modHeater_streamRefusal (s : State) (t h : Nat) (f : HeaterSt → HeaterSt) : (s.modHeater t h f).streamRefusal = s.streamRefusal := rfl
@[simp] theorem State.modHeater_poolProgress (s : State) (t h : Nat) (f : HeaterSt → HeaterSt) : (s.modHeater t h f).poolProgress = s.poolProgress := rfl
@[simp] theorem State.modHeater_digests (s : State) (t h : Nat) (f : HeaterSt → HeaterSt) : (s.modHeater t h f).digests = s.digests := rfl

/-! ### modTileLoop changes tileLoops alone -/

@[simp] theorem State.modTileLoop_time (s : State) (t : Nat) (f : TileLoop → TileLoop) : (s.modTileLoop t f).time = s.time := rfl
@[simp] theorem State.modTileLoop_mem (s : State) (t : Nat) (f : TileLoop → TileLoop) : (s.modTileLoop t f).mem = s.mem := rfl
@[simp] theorem State.modTileLoop_basin (s : State) (t : Nat) (f : TileLoop → TileLoop) : (s.modTileLoop t f).basin = s.basin := rfl
@[simp] theorem State.modTileLoop_regions (s : State) (t : Nat) (f : TileLoop → TileLoop) : (s.modTileLoop t f).regions = s.regions := rfl
@[simp] theorem State.modTileLoop_rings (s : State) (t : Nat) (f : TileLoop → TileLoop) : (s.modTileLoop t f).rings = s.rings := rfl
@[simp] theorem State.modTileLoop_tiles (s : State) (t : Nat) (f : TileLoop → TileLoop) : (s.modTileLoop t f).tiles = s.tiles := rfl
@[simp] theorem State.modTileLoop_cols (s : State) (t : Nat) (f : TileLoop → TileLoop) : (s.modTileLoop t f).cols = s.cols := rfl
@[simp] theorem State.modTileLoop_heaters (s : State) (t : Nat) (f : TileLoop → TileLoop) : (s.modTileLoop t f).heaters = s.heaters := rfl
@[simp] theorem State.modTileLoop_clusters (s : State) (t : Nat) (f : TileLoop → TileLoop) : (s.modTileLoop t f).clusters = s.clusters := rfl
@[simp] theorem State.modTileLoop_accs (s : State) (t : Nat) (f : TileLoop → TileLoop) : (s.modTileLoop t f).accs = s.accs := rfl
@[simp] theorem State.modTileLoop_set0 (s : State) (t : Nat) (f : TileLoop → TileLoop) : (s.modTileLoop t f).set0 = s.set0 := rfl
@[simp] theorem State.modTileLoop_set1 (s : State) (t : Nat) (f : TileLoop → TileLoop) : (s.modTileLoop t f).set1 = s.set1 := rfl
@[simp] theorem State.modTileLoop_ops (s : State) (t : Nat) (f : TileLoop → TileLoop) : (s.modTileLoop t f).ops = s.ops := rfl
@[simp] theorem State.modTileLoop_queues (s : State) (t : Nat) (f : TileLoop → TileLoop) : (s.modTileLoop t f).queues = s.queues := rfl
@[simp] theorem State.modTileLoop_epochs (s : State) (t : Nat) (f : TileLoop → TileLoop) : (s.modTileLoop t f).epochs = s.epochs := rfl
@[simp] theorem State.modTileLoop_tokens (s : State) (t : Nat) (f : TileLoop → TileLoop) : (s.modTileLoop t f).tokens = s.tokens := rfl
@[simp] theorem State.modTileLoop_specWrites (s : State) (t : Nat) (f : TileLoop → TileLoop) : (s.modTileLoop t f).specWrites = s.specWrites := rfl
@[simp] theorem State.modTileLoop_ctxs (s : State) (t : Nat) (f : TileLoop → TileLoop) : (s.modTileLoop t f).ctxs = s.ctxs := rfl
@[simp] theorem State.modTileLoop_reqs (s : State) (t : Nat) (f : TileLoop → TileLoop) : (s.modTileLoop t f).reqs = s.reqs := rfl
@[simp] theorem State.modTileLoop_xcache (s : State) (t : Nat) (f : TileLoop → TileLoop) : (s.modTileLoop t f).xcache = s.xcache := rfl
@[simp] theorem State.modTileLoop_fab (s : State) (t : Nat) (f : TileLoop → TileLoop) : (s.modTileLoop t f).fab = s.fab := rfl
@[simp] theorem State.modTileLoop_casc (s : State) (t : Nat) (f : TileLoop → TileLoop) : (s.modTileLoop t f).casc = s.casc := rfl
@[simp] theorem State.modTileLoop_hl (s : State) (t : Nat) (f : TileLoop → TileLoop) : (s.modTileLoop t f).hl = s.hl := rfl
@[simp] theorem State.modTileLoop_fp (s : State) (t : Nat) (f : TileLoop → TileLoop) : (s.modTileLoop t f).fp = s.fp := rfl
@[simp] theorem State.modTileLoop_procs (s : State) (t : Nat) (f : TileLoop → TileLoop) : (s.modTileLoop t f).procs = s.procs := rfl
@[simp] theorem State.modTileLoop_fw (s : State) (t : Nat) (f : TileLoop → TileLoop) : (s.modTileLoop t f).fw = s.fw := rfl
@[simp] theorem State.modTileLoop_rst (s : State) (t : Nat) (f : TileLoop → TileLoop) : (s.modTileLoop t f).rst = s.rst := rfl
@[simp] theorem State.modTileLoop_pwr (s : State) (t : Nat) (f : TileLoop → TileLoop) : (s.modTileLoop t f).pwr = s.pwr := rfl
@[simp] theorem State.modTileLoop_sec (s : State) (t : Nat) (f : TileLoop → TileLoop) : (s.modTileLoop t f).sec = s.sec := rfl
@[simp] theorem State.modTileLoop_light (s : State) (t : Nat) (f : TileLoop → TileLoop) : (s.modTileLoop t f).light = s.light := rfl
@[simp] theorem State.modTileLoop_cal (s : State) (t : Nat) (f : TileLoop → TileLoop) : (s.modTileLoop t f).cal = s.cal := rfl
@[simp] theorem State.modTileLoop_flt (s : State) (t : Nat) (f : TileLoop → TileLoop) : (s.modTileLoop t f).flt = s.flt := rfl
@[simp] theorem State.modTileLoop_dict (s : State) (t : Nat) (f : TileLoop → TileLoop) : (s.modTileLoop t f).dict = s.dict := rfl
@[simp] theorem State.modTileLoop_pending (s : State) (t : Nat) (f : TileLoop → TileLoop) : (s.modTileLoop t f).pending = s.pending := rfl
@[simp] theorem State.modTileLoop_freeCtr (s : State) (t : Nat) (f : TileLoop → TileLoop) : (s.modTileLoop t f).freeCtr = s.freeCtr := rfl
@[simp] theorem State.modTileLoop_codes (s : State) (t : Nat) (f : TileLoop → TileLoop) : (s.modTileLoop t f).codes = s.codes := rfl
@[simp] theorem State.modTileLoop_ringAt (s : State) (t : Nat) (f : TileLoop → TileLoop) : (s.modTileLoop t f).ringAt = s.ringAt := rfl
@[simp] theorem State.modTileLoop_writes (s : State) (t : Nat) (f : TileLoop → TileLoop) : (s.modTileLoop t f).writes = s.writes := rfl
@[simp] theorem State.modTileLoop_mirrorReads (s : State) (t : Nat) (f : TileLoop → TileLoop) : (s.modTileLoop t f).mirrorReads = s.mirrorReads := rfl
@[simp] theorem State.modTileLoop_calNv (s : State) (t : Nat) (f : TileLoop → TileLoop) : (s.modTileLoop t f).calNv = s.calNv := rfl
@[simp] theorem State.modTileLoop_tileNv (s : State) (t : Nat) (f : TileLoop → TileLoop) : (s.modTileLoop t f).tileNv = s.tileNv := rfl
@[simp] theorem State.modTileLoop_drainOrder (s : State) (t : Nat) (f : TileLoop → TileLoop) : (s.modTileLoop t f).drainOrder = s.drainOrder := rfl
@[simp] theorem State.modTileLoop_drainBusy (s : State) (t : Nat) (f : TileLoop → TileLoop) : (s.modTileLoop t f).drainBusy = s.drainBusy := rfl
@[simp] theorem State.modTileLoop_helper (s : State) (t : Nat) (f : TileLoop → TileLoop) : (s.modTileLoop t f).helper = s.helper := rfl
@[simp] theorem State.modTileLoop_drainWaits (s : State) (t : Nat) (f : TileLoop → TileLoop) : (s.modTileLoop t f).drainWaits = s.drainWaits := rfl
@[simp] theorem State.modTileLoop_admissions (s : State) (t : Nat) (f : TileLoop → TileLoop) : (s.modTileLoop t f).admissions = s.admissions := rfl
@[simp] theorem State.modTileLoop_epochSerial (s : State) (t : Nat) (f : TileLoop → TileLoop) : (s.modTileLoop t f).epochSerial = s.epochSerial := rfl
@[simp] theorem State.modTileLoop_lastStamp (s : State) (t : Nat) (f : TileLoop → TileLoop) : (s.modTileLoop t f).lastStamp = s.lastStamp := rfl
@[simp] theorem State.modTileLoop_provTokens (s : State) (t : Nat) (f : TileLoop → TileLoop) : (s.modTileLoop t f).provTokens = s.provTokens := rfl
@[simp] theorem State.modTileLoop_provIds (s : State) (t : Nat) (f : TileLoop → TileLoop) : (s.modTileLoop t f).provIds = s.provIds := rfl
@[simp] theorem State.modTileLoop_epochMsgs (s : State) (t : Nat) (f : TileLoop → TileLoop) : (s.modTileLoop t f).epochMsgs = s.epochMsgs := rfl
@[simp] theorem State.modTileLoop_reqSerial (s : State) (t : Nat) (f : TileLoop → TileLoop) : (s.modTileLoop t f).reqSerial = s.reqSerial := rfl
@[simp] theorem State.modTileLoop_invals (s : State) (t : Nat) (f : TileLoop → TileLoop) : (s.modTileLoop t f).invals = s.invals := rfl
@[simp] theorem State.modTileLoop_streamRefusal (s : State) (t : Nat) (f : TileLoop → TileLoop) : (s.modTileLoop t f).streamRefusal = s.streamRefusal := rfl
@[simp] theorem State.modTileLoop_poolProgress (s : State) (t : Nat) (f : TileLoop → TileLoop) : (s.modTileLoop t f).poolProgress = s.poolProgress := rfl
@[simp] theorem State.modTileLoop_digests (s : State) (t : Nat) (f : TileLoop → TileLoop) : (s.modTileLoop t f).digests = s.digests := rfl

/-! ### modCluster changes clusters alone -/

@[simp] theorem State.modCluster_time (s : State) (c : Nat) (f : ClusterSt → ClusterSt) : (s.modCluster c f).time = s.time := rfl
@[simp] theorem State.modCluster_mem (s : State) (c : Nat) (f : ClusterSt → ClusterSt) : (s.modCluster c f).mem = s.mem := rfl
@[simp] theorem State.modCluster_basin (s : State) (c : Nat) (f : ClusterSt → ClusterSt) : (s.modCluster c f).basin = s.basin := rfl
@[simp] theorem State.modCluster_regions (s : State) (c : Nat) (f : ClusterSt → ClusterSt) : (s.modCluster c f).regions = s.regions := rfl
@[simp] theorem State.modCluster_rings (s : State) (c : Nat) (f : ClusterSt → ClusterSt) : (s.modCluster c f).rings = s.rings := rfl
@[simp] theorem State.modCluster_tiles (s : State) (c : Nat) (f : ClusterSt → ClusterSt) : (s.modCluster c f).tiles = s.tiles := rfl
@[simp] theorem State.modCluster_cols (s : State) (c : Nat) (f : ClusterSt → ClusterSt) : (s.modCluster c f).cols = s.cols := rfl
@[simp] theorem State.modCluster_heaters (s : State) (c : Nat) (f : ClusterSt → ClusterSt) : (s.modCluster c f).heaters = s.heaters := rfl
@[simp] theorem State.modCluster_tileLoops (s : State) (c : Nat) (f : ClusterSt → ClusterSt) : (s.modCluster c f).tileLoops = s.tileLoops := rfl
@[simp] theorem State.modCluster_accs (s : State) (c : Nat) (f : ClusterSt → ClusterSt) : (s.modCluster c f).accs = s.accs := rfl
@[simp] theorem State.modCluster_set0 (s : State) (c : Nat) (f : ClusterSt → ClusterSt) : (s.modCluster c f).set0 = s.set0 := rfl
@[simp] theorem State.modCluster_set1 (s : State) (c : Nat) (f : ClusterSt → ClusterSt) : (s.modCluster c f).set1 = s.set1 := rfl
@[simp] theorem State.modCluster_ops (s : State) (c : Nat) (f : ClusterSt → ClusterSt) : (s.modCluster c f).ops = s.ops := rfl
@[simp] theorem State.modCluster_queues (s : State) (c : Nat) (f : ClusterSt → ClusterSt) : (s.modCluster c f).queues = s.queues := rfl
@[simp] theorem State.modCluster_epochs (s : State) (c : Nat) (f : ClusterSt → ClusterSt) : (s.modCluster c f).epochs = s.epochs := rfl
@[simp] theorem State.modCluster_tokens (s : State) (c : Nat) (f : ClusterSt → ClusterSt) : (s.modCluster c f).tokens = s.tokens := rfl
@[simp] theorem State.modCluster_specWrites (s : State) (c : Nat) (f : ClusterSt → ClusterSt) : (s.modCluster c f).specWrites = s.specWrites := rfl
@[simp] theorem State.modCluster_ctxs (s : State) (c : Nat) (f : ClusterSt → ClusterSt) : (s.modCluster c f).ctxs = s.ctxs := rfl
@[simp] theorem State.modCluster_reqs (s : State) (c : Nat) (f : ClusterSt → ClusterSt) : (s.modCluster c f).reqs = s.reqs := rfl
@[simp] theorem State.modCluster_xcache (s : State) (c : Nat) (f : ClusterSt → ClusterSt) : (s.modCluster c f).xcache = s.xcache := rfl
@[simp] theorem State.modCluster_fab (s : State) (c : Nat) (f : ClusterSt → ClusterSt) : (s.modCluster c f).fab = s.fab := rfl
@[simp] theorem State.modCluster_casc (s : State) (c : Nat) (f : ClusterSt → ClusterSt) : (s.modCluster c f).casc = s.casc := rfl
@[simp] theorem State.modCluster_hl (s : State) (c : Nat) (f : ClusterSt → ClusterSt) : (s.modCluster c f).hl = s.hl := rfl
@[simp] theorem State.modCluster_fp (s : State) (c : Nat) (f : ClusterSt → ClusterSt) : (s.modCluster c f).fp = s.fp := rfl
@[simp] theorem State.modCluster_procs (s : State) (c : Nat) (f : ClusterSt → ClusterSt) : (s.modCluster c f).procs = s.procs := rfl
@[simp] theorem State.modCluster_fw (s : State) (c : Nat) (f : ClusterSt → ClusterSt) : (s.modCluster c f).fw = s.fw := rfl
@[simp] theorem State.modCluster_rst (s : State) (c : Nat) (f : ClusterSt → ClusterSt) : (s.modCluster c f).rst = s.rst := rfl
@[simp] theorem State.modCluster_pwr (s : State) (c : Nat) (f : ClusterSt → ClusterSt) : (s.modCluster c f).pwr = s.pwr := rfl
@[simp] theorem State.modCluster_sec (s : State) (c : Nat) (f : ClusterSt → ClusterSt) : (s.modCluster c f).sec = s.sec := rfl
@[simp] theorem State.modCluster_light (s : State) (c : Nat) (f : ClusterSt → ClusterSt) : (s.modCluster c f).light = s.light := rfl
@[simp] theorem State.modCluster_cal (s : State) (c : Nat) (f : ClusterSt → ClusterSt) : (s.modCluster c f).cal = s.cal := rfl
@[simp] theorem State.modCluster_flt (s : State) (c : Nat) (f : ClusterSt → ClusterSt) : (s.modCluster c f).flt = s.flt := rfl
@[simp] theorem State.modCluster_dict (s : State) (c : Nat) (f : ClusterSt → ClusterSt) : (s.modCluster c f).dict = s.dict := rfl
@[simp] theorem State.modCluster_pending (s : State) (c : Nat) (f : ClusterSt → ClusterSt) : (s.modCluster c f).pending = s.pending := rfl
@[simp] theorem State.modCluster_freeCtr (s : State) (c : Nat) (f : ClusterSt → ClusterSt) : (s.modCluster c f).freeCtr = s.freeCtr := rfl
@[simp] theorem State.modCluster_codes (s : State) (c : Nat) (f : ClusterSt → ClusterSt) : (s.modCluster c f).codes = s.codes := rfl
@[simp] theorem State.modCluster_ringAt (s : State) (c : Nat) (f : ClusterSt → ClusterSt) : (s.modCluster c f).ringAt = s.ringAt := rfl
@[simp] theorem State.modCluster_writes (s : State) (c : Nat) (f : ClusterSt → ClusterSt) : (s.modCluster c f).writes = s.writes := rfl
@[simp] theorem State.modCluster_mirrorReads (s : State) (c : Nat) (f : ClusterSt → ClusterSt) : (s.modCluster c f).mirrorReads = s.mirrorReads := rfl
@[simp] theorem State.modCluster_calNv (s : State) (c : Nat) (f : ClusterSt → ClusterSt) : (s.modCluster c f).calNv = s.calNv := rfl
@[simp] theorem State.modCluster_tileNv (s : State) (c : Nat) (f : ClusterSt → ClusterSt) : (s.modCluster c f).tileNv = s.tileNv := rfl
@[simp] theorem State.modCluster_drainOrder (s : State) (c : Nat) (f : ClusterSt → ClusterSt) : (s.modCluster c f).drainOrder = s.drainOrder := rfl
@[simp] theorem State.modCluster_drainBusy (s : State) (c : Nat) (f : ClusterSt → ClusterSt) : (s.modCluster c f).drainBusy = s.drainBusy := rfl
@[simp] theorem State.modCluster_helper (s : State) (c : Nat) (f : ClusterSt → ClusterSt) : (s.modCluster c f).helper = s.helper := rfl
@[simp] theorem State.modCluster_drainWaits (s : State) (c : Nat) (f : ClusterSt → ClusterSt) : (s.modCluster c f).drainWaits = s.drainWaits := rfl
@[simp] theorem State.modCluster_admissions (s : State) (c : Nat) (f : ClusterSt → ClusterSt) : (s.modCluster c f).admissions = s.admissions := rfl
@[simp] theorem State.modCluster_epochSerial (s : State) (c : Nat) (f : ClusterSt → ClusterSt) : (s.modCluster c f).epochSerial = s.epochSerial := rfl
@[simp] theorem State.modCluster_lastStamp (s : State) (c : Nat) (f : ClusterSt → ClusterSt) : (s.modCluster c f).lastStamp = s.lastStamp := rfl
@[simp] theorem State.modCluster_provTokens (s : State) (c : Nat) (f : ClusterSt → ClusterSt) : (s.modCluster c f).provTokens = s.provTokens := rfl
@[simp] theorem State.modCluster_provIds (s : State) (c : Nat) (f : ClusterSt → ClusterSt) : (s.modCluster c f).provIds = s.provIds := rfl
@[simp] theorem State.modCluster_epochMsgs (s : State) (c : Nat) (f : ClusterSt → ClusterSt) : (s.modCluster c f).epochMsgs = s.epochMsgs := rfl
@[simp] theorem State.modCluster_reqSerial (s : State) (c : Nat) (f : ClusterSt → ClusterSt) : (s.modCluster c f).reqSerial = s.reqSerial := rfl
@[simp] theorem State.modCluster_invals (s : State) (c : Nat) (f : ClusterSt → ClusterSt) : (s.modCluster c f).invals = s.invals := rfl
@[simp] theorem State.modCluster_streamRefusal (s : State) (c : Nat) (f : ClusterSt → ClusterSt) : (s.modCluster c f).streamRefusal = s.streamRefusal := rfl
@[simp] theorem State.modCluster_poolProgress (s : State) (c : Nat) (f : ClusterSt → ClusterSt) : (s.modCluster c f).poolProgress = s.poolProgress := rfl
@[simp] theorem State.modCluster_digests (s : State) (c : Nat) (f : ClusterSt → ClusterSt) : (s.modCluster c f).digests = s.digests := rfl

/-! ### modAcc changes accs alone -/

@[simp] theorem State.modAcc_time (s : State) (k i : Nat) (f : Acc → Acc) : (s.modAcc k i f).time = s.time := rfl
@[simp] theorem State.modAcc_mem (s : State) (k i : Nat) (f : Acc → Acc) : (s.modAcc k i f).mem = s.mem := rfl
@[simp] theorem State.modAcc_basin (s : State) (k i : Nat) (f : Acc → Acc) : (s.modAcc k i f).basin = s.basin := rfl
@[simp] theorem State.modAcc_regions (s : State) (k i : Nat) (f : Acc → Acc) : (s.modAcc k i f).regions = s.regions := rfl
@[simp] theorem State.modAcc_rings (s : State) (k i : Nat) (f : Acc → Acc) : (s.modAcc k i f).rings = s.rings := rfl
@[simp] theorem State.modAcc_tiles (s : State) (k i : Nat) (f : Acc → Acc) : (s.modAcc k i f).tiles = s.tiles := rfl
@[simp] theorem State.modAcc_cols (s : State) (k i : Nat) (f : Acc → Acc) : (s.modAcc k i f).cols = s.cols := rfl
@[simp] theorem State.modAcc_heaters (s : State) (k i : Nat) (f : Acc → Acc) : (s.modAcc k i f).heaters = s.heaters := rfl
@[simp] theorem State.modAcc_tileLoops (s : State) (k i : Nat) (f : Acc → Acc) : (s.modAcc k i f).tileLoops = s.tileLoops := rfl
@[simp] theorem State.modAcc_clusters (s : State) (k i : Nat) (f : Acc → Acc) : (s.modAcc k i f).clusters = s.clusters := rfl
@[simp] theorem State.modAcc_set0 (s : State) (k i : Nat) (f : Acc → Acc) : (s.modAcc k i f).set0 = s.set0 := rfl
@[simp] theorem State.modAcc_set1 (s : State) (k i : Nat) (f : Acc → Acc) : (s.modAcc k i f).set1 = s.set1 := rfl
@[simp] theorem State.modAcc_ops (s : State) (k i : Nat) (f : Acc → Acc) : (s.modAcc k i f).ops = s.ops := rfl
@[simp] theorem State.modAcc_queues (s : State) (k i : Nat) (f : Acc → Acc) : (s.modAcc k i f).queues = s.queues := rfl
@[simp] theorem State.modAcc_epochs (s : State) (k i : Nat) (f : Acc → Acc) : (s.modAcc k i f).epochs = s.epochs := rfl
@[simp] theorem State.modAcc_tokens (s : State) (k i : Nat) (f : Acc → Acc) : (s.modAcc k i f).tokens = s.tokens := rfl
@[simp] theorem State.modAcc_specWrites (s : State) (k i : Nat) (f : Acc → Acc) : (s.modAcc k i f).specWrites = s.specWrites := rfl
@[simp] theorem State.modAcc_ctxs (s : State) (k i : Nat) (f : Acc → Acc) : (s.modAcc k i f).ctxs = s.ctxs := rfl
@[simp] theorem State.modAcc_reqs (s : State) (k i : Nat) (f : Acc → Acc) : (s.modAcc k i f).reqs = s.reqs := rfl
@[simp] theorem State.modAcc_xcache (s : State) (k i : Nat) (f : Acc → Acc) : (s.modAcc k i f).xcache = s.xcache := rfl
@[simp] theorem State.modAcc_fab (s : State) (k i : Nat) (f : Acc → Acc) : (s.modAcc k i f).fab = s.fab := rfl
@[simp] theorem State.modAcc_casc (s : State) (k i : Nat) (f : Acc → Acc) : (s.modAcc k i f).casc = s.casc := rfl
@[simp] theorem State.modAcc_hl (s : State) (k i : Nat) (f : Acc → Acc) : (s.modAcc k i f).hl = s.hl := rfl
@[simp] theorem State.modAcc_fp (s : State) (k i : Nat) (f : Acc → Acc) : (s.modAcc k i f).fp = s.fp := rfl
@[simp] theorem State.modAcc_procs (s : State) (k i : Nat) (f : Acc → Acc) : (s.modAcc k i f).procs = s.procs := rfl
@[simp] theorem State.modAcc_fw (s : State) (k i : Nat) (f : Acc → Acc) : (s.modAcc k i f).fw = s.fw := rfl
@[simp] theorem State.modAcc_rst (s : State) (k i : Nat) (f : Acc → Acc) : (s.modAcc k i f).rst = s.rst := rfl
@[simp] theorem State.modAcc_pwr (s : State) (k i : Nat) (f : Acc → Acc) : (s.modAcc k i f).pwr = s.pwr := rfl
@[simp] theorem State.modAcc_sec (s : State) (k i : Nat) (f : Acc → Acc) : (s.modAcc k i f).sec = s.sec := rfl
@[simp] theorem State.modAcc_light (s : State) (k i : Nat) (f : Acc → Acc) : (s.modAcc k i f).light = s.light := rfl
@[simp] theorem State.modAcc_cal (s : State) (k i : Nat) (f : Acc → Acc) : (s.modAcc k i f).cal = s.cal := rfl
@[simp] theorem State.modAcc_flt (s : State) (k i : Nat) (f : Acc → Acc) : (s.modAcc k i f).flt = s.flt := rfl
@[simp] theorem State.modAcc_dict (s : State) (k i : Nat) (f : Acc → Acc) : (s.modAcc k i f).dict = s.dict := rfl
@[simp] theorem State.modAcc_pending (s : State) (k i : Nat) (f : Acc → Acc) : (s.modAcc k i f).pending = s.pending := rfl
@[simp] theorem State.modAcc_freeCtr (s : State) (k i : Nat) (f : Acc → Acc) : (s.modAcc k i f).freeCtr = s.freeCtr := rfl
@[simp] theorem State.modAcc_codes (s : State) (k i : Nat) (f : Acc → Acc) : (s.modAcc k i f).codes = s.codes := rfl
@[simp] theorem State.modAcc_ringAt (s : State) (k i : Nat) (f : Acc → Acc) : (s.modAcc k i f).ringAt = s.ringAt := rfl
@[simp] theorem State.modAcc_writes (s : State) (k i : Nat) (f : Acc → Acc) : (s.modAcc k i f).writes = s.writes := rfl
@[simp] theorem State.modAcc_mirrorReads (s : State) (k i : Nat) (f : Acc → Acc) : (s.modAcc k i f).mirrorReads = s.mirrorReads := rfl
@[simp] theorem State.modAcc_calNv (s : State) (k i : Nat) (f : Acc → Acc) : (s.modAcc k i f).calNv = s.calNv := rfl
@[simp] theorem State.modAcc_tileNv (s : State) (k i : Nat) (f : Acc → Acc) : (s.modAcc k i f).tileNv = s.tileNv := rfl
@[simp] theorem State.modAcc_drainOrder (s : State) (k i : Nat) (f : Acc → Acc) : (s.modAcc k i f).drainOrder = s.drainOrder := rfl
@[simp] theorem State.modAcc_drainBusy (s : State) (k i : Nat) (f : Acc → Acc) : (s.modAcc k i f).drainBusy = s.drainBusy := rfl
@[simp] theorem State.modAcc_helper (s : State) (k i : Nat) (f : Acc → Acc) : (s.modAcc k i f).helper = s.helper := rfl
@[simp] theorem State.modAcc_drainWaits (s : State) (k i : Nat) (f : Acc → Acc) : (s.modAcc k i f).drainWaits = s.drainWaits := rfl
@[simp] theorem State.modAcc_admissions (s : State) (k i : Nat) (f : Acc → Acc) : (s.modAcc k i f).admissions = s.admissions := rfl
@[simp] theorem State.modAcc_epochSerial (s : State) (k i : Nat) (f : Acc → Acc) : (s.modAcc k i f).epochSerial = s.epochSerial := rfl
@[simp] theorem State.modAcc_lastStamp (s : State) (k i : Nat) (f : Acc → Acc) : (s.modAcc k i f).lastStamp = s.lastStamp := rfl
@[simp] theorem State.modAcc_provTokens (s : State) (k i : Nat) (f : Acc → Acc) : (s.modAcc k i f).provTokens = s.provTokens := rfl
@[simp] theorem State.modAcc_provIds (s : State) (k i : Nat) (f : Acc → Acc) : (s.modAcc k i f).provIds = s.provIds := rfl
@[simp] theorem State.modAcc_epochMsgs (s : State) (k i : Nat) (f : Acc → Acc) : (s.modAcc k i f).epochMsgs = s.epochMsgs := rfl
@[simp] theorem State.modAcc_reqSerial (s : State) (k i : Nat) (f : Acc → Acc) : (s.modAcc k i f).reqSerial = s.reqSerial := rfl
@[simp] theorem State.modAcc_invals (s : State) (k i : Nat) (f : Acc → Acc) : (s.modAcc k i f).invals = s.invals := rfl
@[simp] theorem State.modAcc_streamRefusal (s : State) (k i : Nat) (f : Acc → Acc) : (s.modAcc k i f).streamRefusal = s.streamRefusal := rfl
@[simp] theorem State.modAcc_poolProgress (s : State) (k i : Nat) (f : Acc → Acc) : (s.modAcc k i f).poolProgress = s.poolProgress := rfl
@[simp] theorem State.modAcc_digests (s : State) (k i : Nat) (f : Acc → Acc) : (s.modAcc k i f).digests = s.digests := rfl

/-! ### modQueue changes queues alone -/

@[simp] theorem State.modQueue_time (s : State) (q : Nat) (f : QueueSt → QueueSt) : (s.modQueue q f).time = s.time := rfl
@[simp] theorem State.modQueue_mem (s : State) (q : Nat) (f : QueueSt → QueueSt) : (s.modQueue q f).mem = s.mem := rfl
@[simp] theorem State.modQueue_basin (s : State) (q : Nat) (f : QueueSt → QueueSt) : (s.modQueue q f).basin = s.basin := rfl
@[simp] theorem State.modQueue_regions (s : State) (q : Nat) (f : QueueSt → QueueSt) : (s.modQueue q f).regions = s.regions := rfl
@[simp] theorem State.modQueue_rings (s : State) (q : Nat) (f : QueueSt → QueueSt) : (s.modQueue q f).rings = s.rings := rfl
@[simp] theorem State.modQueue_tiles (s : State) (q : Nat) (f : QueueSt → QueueSt) : (s.modQueue q f).tiles = s.tiles := rfl
@[simp] theorem State.modQueue_cols (s : State) (q : Nat) (f : QueueSt → QueueSt) : (s.modQueue q f).cols = s.cols := rfl
@[simp] theorem State.modQueue_heaters (s : State) (q : Nat) (f : QueueSt → QueueSt) : (s.modQueue q f).heaters = s.heaters := rfl
@[simp] theorem State.modQueue_tileLoops (s : State) (q : Nat) (f : QueueSt → QueueSt) : (s.modQueue q f).tileLoops = s.tileLoops := rfl
@[simp] theorem State.modQueue_clusters (s : State) (q : Nat) (f : QueueSt → QueueSt) : (s.modQueue q f).clusters = s.clusters := rfl
@[simp] theorem State.modQueue_accs (s : State) (q : Nat) (f : QueueSt → QueueSt) : (s.modQueue q f).accs = s.accs := rfl
@[simp] theorem State.modQueue_set0 (s : State) (q : Nat) (f : QueueSt → QueueSt) : (s.modQueue q f).set0 = s.set0 := rfl
@[simp] theorem State.modQueue_set1 (s : State) (q : Nat) (f : QueueSt → QueueSt) : (s.modQueue q f).set1 = s.set1 := rfl
@[simp] theorem State.modQueue_ops (s : State) (q : Nat) (f : QueueSt → QueueSt) : (s.modQueue q f).ops = s.ops := rfl
@[simp] theorem State.modQueue_epochs (s : State) (q : Nat) (f : QueueSt → QueueSt) : (s.modQueue q f).epochs = s.epochs := rfl
@[simp] theorem State.modQueue_tokens (s : State) (q : Nat) (f : QueueSt → QueueSt) : (s.modQueue q f).tokens = s.tokens := rfl
@[simp] theorem State.modQueue_specWrites (s : State) (q : Nat) (f : QueueSt → QueueSt) : (s.modQueue q f).specWrites = s.specWrites := rfl
@[simp] theorem State.modQueue_ctxs (s : State) (q : Nat) (f : QueueSt → QueueSt) : (s.modQueue q f).ctxs = s.ctxs := rfl
@[simp] theorem State.modQueue_reqs (s : State) (q : Nat) (f : QueueSt → QueueSt) : (s.modQueue q f).reqs = s.reqs := rfl
@[simp] theorem State.modQueue_xcache (s : State) (q : Nat) (f : QueueSt → QueueSt) : (s.modQueue q f).xcache = s.xcache := rfl
@[simp] theorem State.modQueue_fab (s : State) (q : Nat) (f : QueueSt → QueueSt) : (s.modQueue q f).fab = s.fab := rfl
@[simp] theorem State.modQueue_casc (s : State) (q : Nat) (f : QueueSt → QueueSt) : (s.modQueue q f).casc = s.casc := rfl
@[simp] theorem State.modQueue_hl (s : State) (q : Nat) (f : QueueSt → QueueSt) : (s.modQueue q f).hl = s.hl := rfl
@[simp] theorem State.modQueue_fp (s : State) (q : Nat) (f : QueueSt → QueueSt) : (s.modQueue q f).fp = s.fp := rfl
@[simp] theorem State.modQueue_procs (s : State) (q : Nat) (f : QueueSt → QueueSt) : (s.modQueue q f).procs = s.procs := rfl
@[simp] theorem State.modQueue_fw (s : State) (q : Nat) (f : QueueSt → QueueSt) : (s.modQueue q f).fw = s.fw := rfl
@[simp] theorem State.modQueue_rst (s : State) (q : Nat) (f : QueueSt → QueueSt) : (s.modQueue q f).rst = s.rst := rfl
@[simp] theorem State.modQueue_pwr (s : State) (q : Nat) (f : QueueSt → QueueSt) : (s.modQueue q f).pwr = s.pwr := rfl
@[simp] theorem State.modQueue_sec (s : State) (q : Nat) (f : QueueSt → QueueSt) : (s.modQueue q f).sec = s.sec := rfl
@[simp] theorem State.modQueue_light (s : State) (q : Nat) (f : QueueSt → QueueSt) : (s.modQueue q f).light = s.light := rfl
@[simp] theorem State.modQueue_cal (s : State) (q : Nat) (f : QueueSt → QueueSt) : (s.modQueue q f).cal = s.cal := rfl
@[simp] theorem State.modQueue_flt (s : State) (q : Nat) (f : QueueSt → QueueSt) : (s.modQueue q f).flt = s.flt := rfl
@[simp] theorem State.modQueue_dict (s : State) (q : Nat) (f : QueueSt → QueueSt) : (s.modQueue q f).dict = s.dict := rfl
@[simp] theorem State.modQueue_pending (s : State) (q : Nat) (f : QueueSt → QueueSt) : (s.modQueue q f).pending = s.pending := rfl
@[simp] theorem State.modQueue_freeCtr (s : State) (q : Nat) (f : QueueSt → QueueSt) : (s.modQueue q f).freeCtr = s.freeCtr := rfl
@[simp] theorem State.modQueue_codes (s : State) (q : Nat) (f : QueueSt → QueueSt) : (s.modQueue q f).codes = s.codes := rfl
@[simp] theorem State.modQueue_ringAt (s : State) (q : Nat) (f : QueueSt → QueueSt) : (s.modQueue q f).ringAt = s.ringAt := rfl
@[simp] theorem State.modQueue_writes (s : State) (q : Nat) (f : QueueSt → QueueSt) : (s.modQueue q f).writes = s.writes := rfl
@[simp] theorem State.modQueue_mirrorReads (s : State) (q : Nat) (f : QueueSt → QueueSt) : (s.modQueue q f).mirrorReads = s.mirrorReads := rfl
@[simp] theorem State.modQueue_calNv (s : State) (q : Nat) (f : QueueSt → QueueSt) : (s.modQueue q f).calNv = s.calNv := rfl
@[simp] theorem State.modQueue_tileNv (s : State) (q : Nat) (f : QueueSt → QueueSt) : (s.modQueue q f).tileNv = s.tileNv := rfl
@[simp] theorem State.modQueue_drainOrder (s : State) (q : Nat) (f : QueueSt → QueueSt) : (s.modQueue q f).drainOrder = s.drainOrder := rfl
@[simp] theorem State.modQueue_drainBusy (s : State) (q : Nat) (f : QueueSt → QueueSt) : (s.modQueue q f).drainBusy = s.drainBusy := rfl
@[simp] theorem State.modQueue_helper (s : State) (q : Nat) (f : QueueSt → QueueSt) : (s.modQueue q f).helper = s.helper := rfl
@[simp] theorem State.modQueue_drainWaits (s : State) (q : Nat) (f : QueueSt → QueueSt) : (s.modQueue q f).drainWaits = s.drainWaits := rfl
@[simp] theorem State.modQueue_admissions (s : State) (q : Nat) (f : QueueSt → QueueSt) : (s.modQueue q f).admissions = s.admissions := rfl
@[simp] theorem State.modQueue_epochSerial (s : State) (q : Nat) (f : QueueSt → QueueSt) : (s.modQueue q f).epochSerial = s.epochSerial := rfl
@[simp] theorem State.modQueue_lastStamp (s : State) (q : Nat) (f : QueueSt → QueueSt) : (s.modQueue q f).lastStamp = s.lastStamp := rfl
@[simp] theorem State.modQueue_provTokens (s : State) (q : Nat) (f : QueueSt → QueueSt) : (s.modQueue q f).provTokens = s.provTokens := rfl
@[simp] theorem State.modQueue_provIds (s : State) (q : Nat) (f : QueueSt → QueueSt) : (s.modQueue q f).provIds = s.provIds := rfl
@[simp] theorem State.modQueue_epochMsgs (s : State) (q : Nat) (f : QueueSt → QueueSt) : (s.modQueue q f).epochMsgs = s.epochMsgs := rfl
@[simp] theorem State.modQueue_reqSerial (s : State) (q : Nat) (f : QueueSt → QueueSt) : (s.modQueue q f).reqSerial = s.reqSerial := rfl
@[simp] theorem State.modQueue_invals (s : State) (q : Nat) (f : QueueSt → QueueSt) : (s.modQueue q f).invals = s.invals := rfl
@[simp] theorem State.modQueue_streamRefusal (s : State) (q : Nat) (f : QueueSt → QueueSt) : (s.modQueue q f).streamRefusal = s.streamRefusal := rfl
@[simp] theorem State.modQueue_poolProgress (s : State) (q : Nat) (f : QueueSt → QueueSt) : (s.modQueue q f).poolProgress = s.poolProgress := rfl
@[simp] theorem State.modQueue_digests (s : State) (q : Nat) (f : QueueSt → QueueSt) : (s.modQueue q f).digests = s.digests := rfl

/-! ### modEpoch changes epochs alone -/

@[simp] theorem State.modEpoch_time (s : State) (e : Nat) (f : Epoch → Epoch) : (s.modEpoch e f).time = s.time := rfl
@[simp] theorem State.modEpoch_mem (s : State) (e : Nat) (f : Epoch → Epoch) : (s.modEpoch e f).mem = s.mem := rfl
@[simp] theorem State.modEpoch_basin (s : State) (e : Nat) (f : Epoch → Epoch) : (s.modEpoch e f).basin = s.basin := rfl
@[simp] theorem State.modEpoch_regions (s : State) (e : Nat) (f : Epoch → Epoch) : (s.modEpoch e f).regions = s.regions := rfl
@[simp] theorem State.modEpoch_rings (s : State) (e : Nat) (f : Epoch → Epoch) : (s.modEpoch e f).rings = s.rings := rfl
@[simp] theorem State.modEpoch_tiles (s : State) (e : Nat) (f : Epoch → Epoch) : (s.modEpoch e f).tiles = s.tiles := rfl
@[simp] theorem State.modEpoch_cols (s : State) (e : Nat) (f : Epoch → Epoch) : (s.modEpoch e f).cols = s.cols := rfl
@[simp] theorem State.modEpoch_heaters (s : State) (e : Nat) (f : Epoch → Epoch) : (s.modEpoch e f).heaters = s.heaters := rfl
@[simp] theorem State.modEpoch_tileLoops (s : State) (e : Nat) (f : Epoch → Epoch) : (s.modEpoch e f).tileLoops = s.tileLoops := rfl
@[simp] theorem State.modEpoch_clusters (s : State) (e : Nat) (f : Epoch → Epoch) : (s.modEpoch e f).clusters = s.clusters := rfl
@[simp] theorem State.modEpoch_accs (s : State) (e : Nat) (f : Epoch → Epoch) : (s.modEpoch e f).accs = s.accs := rfl
@[simp] theorem State.modEpoch_set0 (s : State) (e : Nat) (f : Epoch → Epoch) : (s.modEpoch e f).set0 = s.set0 := rfl
@[simp] theorem State.modEpoch_set1 (s : State) (e : Nat) (f : Epoch → Epoch) : (s.modEpoch e f).set1 = s.set1 := rfl
@[simp] theorem State.modEpoch_ops (s : State) (e : Nat) (f : Epoch → Epoch) : (s.modEpoch e f).ops = s.ops := rfl
@[simp] theorem State.modEpoch_queues (s : State) (e : Nat) (f : Epoch → Epoch) : (s.modEpoch e f).queues = s.queues := rfl
@[simp] theorem State.modEpoch_tokens (s : State) (e : Nat) (f : Epoch → Epoch) : (s.modEpoch e f).tokens = s.tokens := rfl
@[simp] theorem State.modEpoch_specWrites (s : State) (e : Nat) (f : Epoch → Epoch) : (s.modEpoch e f).specWrites = s.specWrites := rfl
@[simp] theorem State.modEpoch_ctxs (s : State) (e : Nat) (f : Epoch → Epoch) : (s.modEpoch e f).ctxs = s.ctxs := rfl
@[simp] theorem State.modEpoch_reqs (s : State) (e : Nat) (f : Epoch → Epoch) : (s.modEpoch e f).reqs = s.reqs := rfl
@[simp] theorem State.modEpoch_xcache (s : State) (e : Nat) (f : Epoch → Epoch) : (s.modEpoch e f).xcache = s.xcache := rfl
@[simp] theorem State.modEpoch_fab (s : State) (e : Nat) (f : Epoch → Epoch) : (s.modEpoch e f).fab = s.fab := rfl
@[simp] theorem State.modEpoch_casc (s : State) (e : Nat) (f : Epoch → Epoch) : (s.modEpoch e f).casc = s.casc := rfl
@[simp] theorem State.modEpoch_hl (s : State) (e : Nat) (f : Epoch → Epoch) : (s.modEpoch e f).hl = s.hl := rfl
@[simp] theorem State.modEpoch_fp (s : State) (e : Nat) (f : Epoch → Epoch) : (s.modEpoch e f).fp = s.fp := rfl
@[simp] theorem State.modEpoch_procs (s : State) (e : Nat) (f : Epoch → Epoch) : (s.modEpoch e f).procs = s.procs := rfl
@[simp] theorem State.modEpoch_fw (s : State) (e : Nat) (f : Epoch → Epoch) : (s.modEpoch e f).fw = s.fw := rfl
@[simp] theorem State.modEpoch_rst (s : State) (e : Nat) (f : Epoch → Epoch) : (s.modEpoch e f).rst = s.rst := rfl
@[simp] theorem State.modEpoch_pwr (s : State) (e : Nat) (f : Epoch → Epoch) : (s.modEpoch e f).pwr = s.pwr := rfl
@[simp] theorem State.modEpoch_sec (s : State) (e : Nat) (f : Epoch → Epoch) : (s.modEpoch e f).sec = s.sec := rfl
@[simp] theorem State.modEpoch_light (s : State) (e : Nat) (f : Epoch → Epoch) : (s.modEpoch e f).light = s.light := rfl
@[simp] theorem State.modEpoch_cal (s : State) (e : Nat) (f : Epoch → Epoch) : (s.modEpoch e f).cal = s.cal := rfl
@[simp] theorem State.modEpoch_flt (s : State) (e : Nat) (f : Epoch → Epoch) : (s.modEpoch e f).flt = s.flt := rfl
@[simp] theorem State.modEpoch_dict (s : State) (e : Nat) (f : Epoch → Epoch) : (s.modEpoch e f).dict = s.dict := rfl
@[simp] theorem State.modEpoch_pending (s : State) (e : Nat) (f : Epoch → Epoch) : (s.modEpoch e f).pending = s.pending := rfl
@[simp] theorem State.modEpoch_freeCtr (s : State) (e : Nat) (f : Epoch → Epoch) : (s.modEpoch e f).freeCtr = s.freeCtr := rfl
@[simp] theorem State.modEpoch_codes (s : State) (e : Nat) (f : Epoch → Epoch) : (s.modEpoch e f).codes = s.codes := rfl
@[simp] theorem State.modEpoch_ringAt (s : State) (e : Nat) (f : Epoch → Epoch) : (s.modEpoch e f).ringAt = s.ringAt := rfl
@[simp] theorem State.modEpoch_writes (s : State) (e : Nat) (f : Epoch → Epoch) : (s.modEpoch e f).writes = s.writes := rfl
@[simp] theorem State.modEpoch_mirrorReads (s : State) (e : Nat) (f : Epoch → Epoch) : (s.modEpoch e f).mirrorReads = s.mirrorReads := rfl
@[simp] theorem State.modEpoch_calNv (s : State) (e : Nat) (f : Epoch → Epoch) : (s.modEpoch e f).calNv = s.calNv := rfl
@[simp] theorem State.modEpoch_tileNv (s : State) (e : Nat) (f : Epoch → Epoch) : (s.modEpoch e f).tileNv = s.tileNv := rfl
@[simp] theorem State.modEpoch_drainOrder (s : State) (e : Nat) (f : Epoch → Epoch) : (s.modEpoch e f).drainOrder = s.drainOrder := rfl
@[simp] theorem State.modEpoch_drainBusy (s : State) (e : Nat) (f : Epoch → Epoch) : (s.modEpoch e f).drainBusy = s.drainBusy := rfl
@[simp] theorem State.modEpoch_helper (s : State) (e : Nat) (f : Epoch → Epoch) : (s.modEpoch e f).helper = s.helper := rfl
@[simp] theorem State.modEpoch_drainWaits (s : State) (e : Nat) (f : Epoch → Epoch) : (s.modEpoch e f).drainWaits = s.drainWaits := rfl
@[simp] theorem State.modEpoch_admissions (s : State) (e : Nat) (f : Epoch → Epoch) : (s.modEpoch e f).admissions = s.admissions := rfl
@[simp] theorem State.modEpoch_epochSerial (s : State) (e : Nat) (f : Epoch → Epoch) : (s.modEpoch e f).epochSerial = s.epochSerial := rfl
@[simp] theorem State.modEpoch_lastStamp (s : State) (e : Nat) (f : Epoch → Epoch) : (s.modEpoch e f).lastStamp = s.lastStamp := rfl
@[simp] theorem State.modEpoch_provTokens (s : State) (e : Nat) (f : Epoch → Epoch) : (s.modEpoch e f).provTokens = s.provTokens := rfl
@[simp] theorem State.modEpoch_provIds (s : State) (e : Nat) (f : Epoch → Epoch) : (s.modEpoch e f).provIds = s.provIds := rfl
@[simp] theorem State.modEpoch_epochMsgs (s : State) (e : Nat) (f : Epoch → Epoch) : (s.modEpoch e f).epochMsgs = s.epochMsgs := rfl
@[simp] theorem State.modEpoch_reqSerial (s : State) (e : Nat) (f : Epoch → Epoch) : (s.modEpoch e f).reqSerial = s.reqSerial := rfl
@[simp] theorem State.modEpoch_invals (s : State) (e : Nat) (f : Epoch → Epoch) : (s.modEpoch e f).invals = s.invals := rfl
@[simp] theorem State.modEpoch_streamRefusal (s : State) (e : Nat) (f : Epoch → Epoch) : (s.modEpoch e f).streamRefusal = s.streamRefusal := rfl
@[simp] theorem State.modEpoch_poolProgress (s : State) (e : Nat) (f : Epoch → Epoch) : (s.modEpoch e f).poolProgress = s.poolProgress := rfl
@[simp] theorem State.modEpoch_digests (s : State) (e : Nat) (f : Epoch → Epoch) : (s.modEpoch e f).digests = s.digests := rfl

/-! ### modCtx changes ctxs alone -/

@[simp] theorem State.modCtx_time (s : State) (c : Nat) (f : Ctx → Ctx) : (s.modCtx c f).time = s.time := rfl
@[simp] theorem State.modCtx_mem (s : State) (c : Nat) (f : Ctx → Ctx) : (s.modCtx c f).mem = s.mem := rfl
@[simp] theorem State.modCtx_basin (s : State) (c : Nat) (f : Ctx → Ctx) : (s.modCtx c f).basin = s.basin := rfl
@[simp] theorem State.modCtx_regions (s : State) (c : Nat) (f : Ctx → Ctx) : (s.modCtx c f).regions = s.regions := rfl
@[simp] theorem State.modCtx_rings (s : State) (c : Nat) (f : Ctx → Ctx) : (s.modCtx c f).rings = s.rings := rfl
@[simp] theorem State.modCtx_tiles (s : State) (c : Nat) (f : Ctx → Ctx) : (s.modCtx c f).tiles = s.tiles := rfl
@[simp] theorem State.modCtx_cols (s : State) (c : Nat) (f : Ctx → Ctx) : (s.modCtx c f).cols = s.cols := rfl
@[simp] theorem State.modCtx_heaters (s : State) (c : Nat) (f : Ctx → Ctx) : (s.modCtx c f).heaters = s.heaters := rfl
@[simp] theorem State.modCtx_tileLoops (s : State) (c : Nat) (f : Ctx → Ctx) : (s.modCtx c f).tileLoops = s.tileLoops := rfl
@[simp] theorem State.modCtx_clusters (s : State) (c : Nat) (f : Ctx → Ctx) : (s.modCtx c f).clusters = s.clusters := rfl
@[simp] theorem State.modCtx_accs (s : State) (c : Nat) (f : Ctx → Ctx) : (s.modCtx c f).accs = s.accs := rfl
@[simp] theorem State.modCtx_set0 (s : State) (c : Nat) (f : Ctx → Ctx) : (s.modCtx c f).set0 = s.set0 := rfl
@[simp] theorem State.modCtx_set1 (s : State) (c : Nat) (f : Ctx → Ctx) : (s.modCtx c f).set1 = s.set1 := rfl
@[simp] theorem State.modCtx_ops (s : State) (c : Nat) (f : Ctx → Ctx) : (s.modCtx c f).ops = s.ops := rfl
@[simp] theorem State.modCtx_queues (s : State) (c : Nat) (f : Ctx → Ctx) : (s.modCtx c f).queues = s.queues := rfl
@[simp] theorem State.modCtx_epochs (s : State) (c : Nat) (f : Ctx → Ctx) : (s.modCtx c f).epochs = s.epochs := rfl
@[simp] theorem State.modCtx_tokens (s : State) (c : Nat) (f : Ctx → Ctx) : (s.modCtx c f).tokens = s.tokens := rfl
@[simp] theorem State.modCtx_specWrites (s : State) (c : Nat) (f : Ctx → Ctx) : (s.modCtx c f).specWrites = s.specWrites := rfl
@[simp] theorem State.modCtx_reqs (s : State) (c : Nat) (f : Ctx → Ctx) : (s.modCtx c f).reqs = s.reqs := rfl
@[simp] theorem State.modCtx_xcache (s : State) (c : Nat) (f : Ctx → Ctx) : (s.modCtx c f).xcache = s.xcache := rfl
@[simp] theorem State.modCtx_fab (s : State) (c : Nat) (f : Ctx → Ctx) : (s.modCtx c f).fab = s.fab := rfl
@[simp] theorem State.modCtx_casc (s : State) (c : Nat) (f : Ctx → Ctx) : (s.modCtx c f).casc = s.casc := rfl
@[simp] theorem State.modCtx_hl (s : State) (c : Nat) (f : Ctx → Ctx) : (s.modCtx c f).hl = s.hl := rfl
@[simp] theorem State.modCtx_fp (s : State) (c : Nat) (f : Ctx → Ctx) : (s.modCtx c f).fp = s.fp := rfl
@[simp] theorem State.modCtx_procs (s : State) (c : Nat) (f : Ctx → Ctx) : (s.modCtx c f).procs = s.procs := rfl
@[simp] theorem State.modCtx_fw (s : State) (c : Nat) (f : Ctx → Ctx) : (s.modCtx c f).fw = s.fw := rfl
@[simp] theorem State.modCtx_rst (s : State) (c : Nat) (f : Ctx → Ctx) : (s.modCtx c f).rst = s.rst := rfl
@[simp] theorem State.modCtx_pwr (s : State) (c : Nat) (f : Ctx → Ctx) : (s.modCtx c f).pwr = s.pwr := rfl
@[simp] theorem State.modCtx_sec (s : State) (c : Nat) (f : Ctx → Ctx) : (s.modCtx c f).sec = s.sec := rfl
@[simp] theorem State.modCtx_light (s : State) (c : Nat) (f : Ctx → Ctx) : (s.modCtx c f).light = s.light := rfl
@[simp] theorem State.modCtx_cal (s : State) (c : Nat) (f : Ctx → Ctx) : (s.modCtx c f).cal = s.cal := rfl
@[simp] theorem State.modCtx_flt (s : State) (c : Nat) (f : Ctx → Ctx) : (s.modCtx c f).flt = s.flt := rfl
@[simp] theorem State.modCtx_dict (s : State) (c : Nat) (f : Ctx → Ctx) : (s.modCtx c f).dict = s.dict := rfl
@[simp] theorem State.modCtx_pending (s : State) (c : Nat) (f : Ctx → Ctx) : (s.modCtx c f).pending = s.pending := rfl
@[simp] theorem State.modCtx_freeCtr (s : State) (c : Nat) (f : Ctx → Ctx) : (s.modCtx c f).freeCtr = s.freeCtr := rfl
@[simp] theorem State.modCtx_codes (s : State) (c : Nat) (f : Ctx → Ctx) : (s.modCtx c f).codes = s.codes := rfl
@[simp] theorem State.modCtx_ringAt (s : State) (c : Nat) (f : Ctx → Ctx) : (s.modCtx c f).ringAt = s.ringAt := rfl
@[simp] theorem State.modCtx_writes (s : State) (c : Nat) (f : Ctx → Ctx) : (s.modCtx c f).writes = s.writes := rfl
@[simp] theorem State.modCtx_mirrorReads (s : State) (c : Nat) (f : Ctx → Ctx) : (s.modCtx c f).mirrorReads = s.mirrorReads := rfl
@[simp] theorem State.modCtx_calNv (s : State) (c : Nat) (f : Ctx → Ctx) : (s.modCtx c f).calNv = s.calNv := rfl
@[simp] theorem State.modCtx_tileNv (s : State) (c : Nat) (f : Ctx → Ctx) : (s.modCtx c f).tileNv = s.tileNv := rfl
@[simp] theorem State.modCtx_drainOrder (s : State) (c : Nat) (f : Ctx → Ctx) : (s.modCtx c f).drainOrder = s.drainOrder := rfl
@[simp] theorem State.modCtx_drainBusy (s : State) (c : Nat) (f : Ctx → Ctx) : (s.modCtx c f).drainBusy = s.drainBusy := rfl
@[simp] theorem State.modCtx_helper (s : State) (c : Nat) (f : Ctx → Ctx) : (s.modCtx c f).helper = s.helper := rfl
@[simp] theorem State.modCtx_drainWaits (s : State) (c : Nat) (f : Ctx → Ctx) : (s.modCtx c f).drainWaits = s.drainWaits := rfl
@[simp] theorem State.modCtx_admissions (s : State) (c : Nat) (f : Ctx → Ctx) : (s.modCtx c f).admissions = s.admissions := rfl
@[simp] theorem State.modCtx_epochSerial (s : State) (c : Nat) (f : Ctx → Ctx) : (s.modCtx c f).epochSerial = s.epochSerial := rfl
@[simp] theorem State.modCtx_lastStamp (s : State) (c : Nat) (f : Ctx → Ctx) : (s.modCtx c f).lastStamp = s.lastStamp := rfl
@[simp] theorem State.modCtx_provTokens (s : State) (c : Nat) (f : Ctx → Ctx) : (s.modCtx c f).provTokens = s.provTokens := rfl
@[simp] theorem State.modCtx_provIds (s : State) (c : Nat) (f : Ctx → Ctx) : (s.modCtx c f).provIds = s.provIds := rfl
@[simp] theorem State.modCtx_epochMsgs (s : State) (c : Nat) (f : Ctx → Ctx) : (s.modCtx c f).epochMsgs = s.epochMsgs := rfl
@[simp] theorem State.modCtx_reqSerial (s : State) (c : Nat) (f : Ctx → Ctx) : (s.modCtx c f).reqSerial = s.reqSerial := rfl
@[simp] theorem State.modCtx_invals (s : State) (c : Nat) (f : Ctx → Ctx) : (s.modCtx c f).invals = s.invals := rfl
@[simp] theorem State.modCtx_streamRefusal (s : State) (c : Nat) (f : Ctx → Ctx) : (s.modCtx c f).streamRefusal = s.streamRefusal := rfl
@[simp] theorem State.modCtx_poolProgress (s : State) (c : Nat) (f : Ctx → Ctx) : (s.modCtx c f).poolProgress = s.poolProgress := rfl
@[simp] theorem State.modCtx_digests (s : State) (c : Nat) (f : Ctx → Ctx) : (s.modCtx c f).digests = s.digests := rfl

/-! ### modProc changes procs alone -/

@[simp] theorem State.modProc_time (s : State) (p : Nat) (f : Proc → Proc) : (s.modProc p f).time = s.time := rfl
@[simp] theorem State.modProc_mem (s : State) (p : Nat) (f : Proc → Proc) : (s.modProc p f).mem = s.mem := rfl
@[simp] theorem State.modProc_basin (s : State) (p : Nat) (f : Proc → Proc) : (s.modProc p f).basin = s.basin := rfl
@[simp] theorem State.modProc_regions (s : State) (p : Nat) (f : Proc → Proc) : (s.modProc p f).regions = s.regions := rfl
@[simp] theorem State.modProc_rings (s : State) (p : Nat) (f : Proc → Proc) : (s.modProc p f).rings = s.rings := rfl
@[simp] theorem State.modProc_tiles (s : State) (p : Nat) (f : Proc → Proc) : (s.modProc p f).tiles = s.tiles := rfl
@[simp] theorem State.modProc_cols (s : State) (p : Nat) (f : Proc → Proc) : (s.modProc p f).cols = s.cols := rfl
@[simp] theorem State.modProc_heaters (s : State) (p : Nat) (f : Proc → Proc) : (s.modProc p f).heaters = s.heaters := rfl
@[simp] theorem State.modProc_tileLoops (s : State) (p : Nat) (f : Proc → Proc) : (s.modProc p f).tileLoops = s.tileLoops := rfl
@[simp] theorem State.modProc_clusters (s : State) (p : Nat) (f : Proc → Proc) : (s.modProc p f).clusters = s.clusters := rfl
@[simp] theorem State.modProc_accs (s : State) (p : Nat) (f : Proc → Proc) : (s.modProc p f).accs = s.accs := rfl
@[simp] theorem State.modProc_set0 (s : State) (p : Nat) (f : Proc → Proc) : (s.modProc p f).set0 = s.set0 := rfl
@[simp] theorem State.modProc_set1 (s : State) (p : Nat) (f : Proc → Proc) : (s.modProc p f).set1 = s.set1 := rfl
@[simp] theorem State.modProc_ops (s : State) (p : Nat) (f : Proc → Proc) : (s.modProc p f).ops = s.ops := rfl
@[simp] theorem State.modProc_queues (s : State) (p : Nat) (f : Proc → Proc) : (s.modProc p f).queues = s.queues := rfl
@[simp] theorem State.modProc_epochs (s : State) (p : Nat) (f : Proc → Proc) : (s.modProc p f).epochs = s.epochs := rfl
@[simp] theorem State.modProc_tokens (s : State) (p : Nat) (f : Proc → Proc) : (s.modProc p f).tokens = s.tokens := rfl
@[simp] theorem State.modProc_specWrites (s : State) (p : Nat) (f : Proc → Proc) : (s.modProc p f).specWrites = s.specWrites := rfl
@[simp] theorem State.modProc_ctxs (s : State) (p : Nat) (f : Proc → Proc) : (s.modProc p f).ctxs = s.ctxs := rfl
@[simp] theorem State.modProc_reqs (s : State) (p : Nat) (f : Proc → Proc) : (s.modProc p f).reqs = s.reqs := rfl
@[simp] theorem State.modProc_xcache (s : State) (p : Nat) (f : Proc → Proc) : (s.modProc p f).xcache = s.xcache := rfl
@[simp] theorem State.modProc_fab (s : State) (p : Nat) (f : Proc → Proc) : (s.modProc p f).fab = s.fab := rfl
@[simp] theorem State.modProc_casc (s : State) (p : Nat) (f : Proc → Proc) : (s.modProc p f).casc = s.casc := rfl
@[simp] theorem State.modProc_hl (s : State) (p : Nat) (f : Proc → Proc) : (s.modProc p f).hl = s.hl := rfl
@[simp] theorem State.modProc_fp (s : State) (p : Nat) (f : Proc → Proc) : (s.modProc p f).fp = s.fp := rfl
@[simp] theorem State.modProc_fw (s : State) (p : Nat) (f : Proc → Proc) : (s.modProc p f).fw = s.fw := rfl
@[simp] theorem State.modProc_rst (s : State) (p : Nat) (f : Proc → Proc) : (s.modProc p f).rst = s.rst := rfl
@[simp] theorem State.modProc_pwr (s : State) (p : Nat) (f : Proc → Proc) : (s.modProc p f).pwr = s.pwr := rfl
@[simp] theorem State.modProc_sec (s : State) (p : Nat) (f : Proc → Proc) : (s.modProc p f).sec = s.sec := rfl
@[simp] theorem State.modProc_light (s : State) (p : Nat) (f : Proc → Proc) : (s.modProc p f).light = s.light := rfl
@[simp] theorem State.modProc_cal (s : State) (p : Nat) (f : Proc → Proc) : (s.modProc p f).cal = s.cal := rfl
@[simp] theorem State.modProc_flt (s : State) (p : Nat) (f : Proc → Proc) : (s.modProc p f).flt = s.flt := rfl
@[simp] theorem State.modProc_dict (s : State) (p : Nat) (f : Proc → Proc) : (s.modProc p f).dict = s.dict := rfl
@[simp] theorem State.modProc_pending (s : State) (p : Nat) (f : Proc → Proc) : (s.modProc p f).pending = s.pending := rfl
@[simp] theorem State.modProc_freeCtr (s : State) (p : Nat) (f : Proc → Proc) : (s.modProc p f).freeCtr = s.freeCtr := rfl
@[simp] theorem State.modProc_codes (s : State) (p : Nat) (f : Proc → Proc) : (s.modProc p f).codes = s.codes := rfl
@[simp] theorem State.modProc_ringAt (s : State) (p : Nat) (f : Proc → Proc) : (s.modProc p f).ringAt = s.ringAt := rfl
@[simp] theorem State.modProc_writes (s : State) (p : Nat) (f : Proc → Proc) : (s.modProc p f).writes = s.writes := rfl
@[simp] theorem State.modProc_mirrorReads (s : State) (p : Nat) (f : Proc → Proc) : (s.modProc p f).mirrorReads = s.mirrorReads := rfl
@[simp] theorem State.modProc_calNv (s : State) (p : Nat) (f : Proc → Proc) : (s.modProc p f).calNv = s.calNv := rfl
@[simp] theorem State.modProc_tileNv (s : State) (p : Nat) (f : Proc → Proc) : (s.modProc p f).tileNv = s.tileNv := rfl
@[simp] theorem State.modProc_drainOrder (s : State) (p : Nat) (f : Proc → Proc) : (s.modProc p f).drainOrder = s.drainOrder := rfl
@[simp] theorem State.modProc_drainBusy (s : State) (p : Nat) (f : Proc → Proc) : (s.modProc p f).drainBusy = s.drainBusy := rfl
@[simp] theorem State.modProc_helper (s : State) (p : Nat) (f : Proc → Proc) : (s.modProc p f).helper = s.helper := rfl
@[simp] theorem State.modProc_drainWaits (s : State) (p : Nat) (f : Proc → Proc) : (s.modProc p f).drainWaits = s.drainWaits := rfl
@[simp] theorem State.modProc_admissions (s : State) (p : Nat) (f : Proc → Proc) : (s.modProc p f).admissions = s.admissions := rfl
@[simp] theorem State.modProc_epochSerial (s : State) (p : Nat) (f : Proc → Proc) : (s.modProc p f).epochSerial = s.epochSerial := rfl
@[simp] theorem State.modProc_lastStamp (s : State) (p : Nat) (f : Proc → Proc) : (s.modProc p f).lastStamp = s.lastStamp := rfl
@[simp] theorem State.modProc_provTokens (s : State) (p : Nat) (f : Proc → Proc) : (s.modProc p f).provTokens = s.provTokens := rfl
@[simp] theorem State.modProc_provIds (s : State) (p : Nat) (f : Proc → Proc) : (s.modProc p f).provIds = s.provIds := rfl
@[simp] theorem State.modProc_epochMsgs (s : State) (p : Nat) (f : Proc → Proc) : (s.modProc p f).epochMsgs = s.epochMsgs := rfl
@[simp] theorem State.modProc_reqSerial (s : State) (p : Nat) (f : Proc → Proc) : (s.modProc p f).reqSerial = s.reqSerial := rfl
@[simp] theorem State.modProc_invals (s : State) (p : Nat) (f : Proc → Proc) : (s.modProc p f).invals = s.invals := rfl
@[simp] theorem State.modProc_streamRefusal (s : State) (p : Nat) (f : Proc → Proc) : (s.modProc p f).streamRefusal = s.streamRefusal := rfl
@[simp] theorem State.modProc_poolProgress (s : State) (p : Nat) (f : Proc → Proc) : (s.modProc p f).poolProgress = s.poolProgress := rfl
@[simp] theorem State.modProc_digests (s : State) (p : Nat) (f : Proc → Proc) : (s.modProc p f).digests = s.digests := rfl

/-! ### modLane changes fab alone -/

@[simp] theorem State.modLane_time (s : State) (l : Nat) (f : Lane → Lane) : (s.modLane l f).time = s.time := rfl
@[simp] theorem State.modLane_mem (s : State) (l : Nat) (f : Lane → Lane) : (s.modLane l f).mem = s.mem := rfl
@[simp] theorem State.modLane_basin (s : State) (l : Nat) (f : Lane → Lane) : (s.modLane l f).basin = s.basin := rfl
@[simp] theorem State.modLane_regions (s : State) (l : Nat) (f : Lane → Lane) : (s.modLane l f).regions = s.regions := rfl
@[simp] theorem State.modLane_rings (s : State) (l : Nat) (f : Lane → Lane) : (s.modLane l f).rings = s.rings := rfl
@[simp] theorem State.modLane_tiles (s : State) (l : Nat) (f : Lane → Lane) : (s.modLane l f).tiles = s.tiles := rfl
@[simp] theorem State.modLane_cols (s : State) (l : Nat) (f : Lane → Lane) : (s.modLane l f).cols = s.cols := rfl
@[simp] theorem State.modLane_heaters (s : State) (l : Nat) (f : Lane → Lane) : (s.modLane l f).heaters = s.heaters := rfl
@[simp] theorem State.modLane_tileLoops (s : State) (l : Nat) (f : Lane → Lane) : (s.modLane l f).tileLoops = s.tileLoops := rfl
@[simp] theorem State.modLane_clusters (s : State) (l : Nat) (f : Lane → Lane) : (s.modLane l f).clusters = s.clusters := rfl
@[simp] theorem State.modLane_accs (s : State) (l : Nat) (f : Lane → Lane) : (s.modLane l f).accs = s.accs := rfl
@[simp] theorem State.modLane_set0 (s : State) (l : Nat) (f : Lane → Lane) : (s.modLane l f).set0 = s.set0 := rfl
@[simp] theorem State.modLane_set1 (s : State) (l : Nat) (f : Lane → Lane) : (s.modLane l f).set1 = s.set1 := rfl
@[simp] theorem State.modLane_ops (s : State) (l : Nat) (f : Lane → Lane) : (s.modLane l f).ops = s.ops := rfl
@[simp] theorem State.modLane_queues (s : State) (l : Nat) (f : Lane → Lane) : (s.modLane l f).queues = s.queues := rfl
@[simp] theorem State.modLane_epochs (s : State) (l : Nat) (f : Lane → Lane) : (s.modLane l f).epochs = s.epochs := rfl
@[simp] theorem State.modLane_tokens (s : State) (l : Nat) (f : Lane → Lane) : (s.modLane l f).tokens = s.tokens := rfl
@[simp] theorem State.modLane_specWrites (s : State) (l : Nat) (f : Lane → Lane) : (s.modLane l f).specWrites = s.specWrites := rfl
@[simp] theorem State.modLane_ctxs (s : State) (l : Nat) (f : Lane → Lane) : (s.modLane l f).ctxs = s.ctxs := rfl
@[simp] theorem State.modLane_reqs (s : State) (l : Nat) (f : Lane → Lane) : (s.modLane l f).reqs = s.reqs := rfl
@[simp] theorem State.modLane_xcache (s : State) (l : Nat) (f : Lane → Lane) : (s.modLane l f).xcache = s.xcache := rfl
@[simp] theorem State.modLane_casc (s : State) (l : Nat) (f : Lane → Lane) : (s.modLane l f).casc = s.casc := rfl
@[simp] theorem State.modLane_hl (s : State) (l : Nat) (f : Lane → Lane) : (s.modLane l f).hl = s.hl := rfl
@[simp] theorem State.modLane_fp (s : State) (l : Nat) (f : Lane → Lane) : (s.modLane l f).fp = s.fp := rfl
@[simp] theorem State.modLane_procs (s : State) (l : Nat) (f : Lane → Lane) : (s.modLane l f).procs = s.procs := rfl
@[simp] theorem State.modLane_fw (s : State) (l : Nat) (f : Lane → Lane) : (s.modLane l f).fw = s.fw := rfl
@[simp] theorem State.modLane_rst (s : State) (l : Nat) (f : Lane → Lane) : (s.modLane l f).rst = s.rst := rfl
@[simp] theorem State.modLane_pwr (s : State) (l : Nat) (f : Lane → Lane) : (s.modLane l f).pwr = s.pwr := rfl
@[simp] theorem State.modLane_sec (s : State) (l : Nat) (f : Lane → Lane) : (s.modLane l f).sec = s.sec := rfl
@[simp] theorem State.modLane_light (s : State) (l : Nat) (f : Lane → Lane) : (s.modLane l f).light = s.light := rfl
@[simp] theorem State.modLane_cal (s : State) (l : Nat) (f : Lane → Lane) : (s.modLane l f).cal = s.cal := rfl
@[simp] theorem State.modLane_flt (s : State) (l : Nat) (f : Lane → Lane) : (s.modLane l f).flt = s.flt := rfl
@[simp] theorem State.modLane_dict (s : State) (l : Nat) (f : Lane → Lane) : (s.modLane l f).dict = s.dict := rfl
@[simp] theorem State.modLane_pending (s : State) (l : Nat) (f : Lane → Lane) : (s.modLane l f).pending = s.pending := rfl
@[simp] theorem State.modLane_freeCtr (s : State) (l : Nat) (f : Lane → Lane) : (s.modLane l f).freeCtr = s.freeCtr := rfl
@[simp] theorem State.modLane_codes (s : State) (l : Nat) (f : Lane → Lane) : (s.modLane l f).codes = s.codes := rfl
@[simp] theorem State.modLane_ringAt (s : State) (l : Nat) (f : Lane → Lane) : (s.modLane l f).ringAt = s.ringAt := rfl
@[simp] theorem State.modLane_writes (s : State) (l : Nat) (f : Lane → Lane) : (s.modLane l f).writes = s.writes := rfl
@[simp] theorem State.modLane_mirrorReads (s : State) (l : Nat) (f : Lane → Lane) : (s.modLane l f).mirrorReads = s.mirrorReads := rfl
@[simp] theorem State.modLane_calNv (s : State) (l : Nat) (f : Lane → Lane) : (s.modLane l f).calNv = s.calNv := rfl
@[simp] theorem State.modLane_tileNv (s : State) (l : Nat) (f : Lane → Lane) : (s.modLane l f).tileNv = s.tileNv := rfl
@[simp] theorem State.modLane_drainOrder (s : State) (l : Nat) (f : Lane → Lane) : (s.modLane l f).drainOrder = s.drainOrder := rfl
@[simp] theorem State.modLane_drainBusy (s : State) (l : Nat) (f : Lane → Lane) : (s.modLane l f).drainBusy = s.drainBusy := rfl
@[simp] theorem State.modLane_helper (s : State) (l : Nat) (f : Lane → Lane) : (s.modLane l f).helper = s.helper := rfl
@[simp] theorem State.modLane_drainWaits (s : State) (l : Nat) (f : Lane → Lane) : (s.modLane l f).drainWaits = s.drainWaits := rfl
@[simp] theorem State.modLane_admissions (s : State) (l : Nat) (f : Lane → Lane) : (s.modLane l f).admissions = s.admissions := rfl
@[simp] theorem State.modLane_epochSerial (s : State) (l : Nat) (f : Lane → Lane) : (s.modLane l f).epochSerial = s.epochSerial := rfl
@[simp] theorem State.modLane_lastStamp (s : State) (l : Nat) (f : Lane → Lane) : (s.modLane l f).lastStamp = s.lastStamp := rfl
@[simp] theorem State.modLane_provTokens (s : State) (l : Nat) (f : Lane → Lane) : (s.modLane l f).provTokens = s.provTokens := rfl
@[simp] theorem State.modLane_provIds (s : State) (l : Nat) (f : Lane → Lane) : (s.modLane l f).provIds = s.provIds := rfl
@[simp] theorem State.modLane_epochMsgs (s : State) (l : Nat) (f : Lane → Lane) : (s.modLane l f).epochMsgs = s.epochMsgs := rfl
@[simp] theorem State.modLane_reqSerial (s : State) (l : Nat) (f : Lane → Lane) : (s.modLane l f).reqSerial = s.reqSerial := rfl
@[simp] theorem State.modLane_invals (s : State) (l : Nat) (f : Lane → Lane) : (s.modLane l f).invals = s.invals := rfl
@[simp] theorem State.modLane_streamRefusal (s : State) (l : Nat) (f : Lane → Lane) : (s.modLane l f).streamRefusal = s.streamRefusal := rfl
@[simp] theorem State.modLane_poolProgress (s : State) (l : Nat) (f : Lane → Lane) : (s.modLane l f).poolProgress = s.poolProgress := rfl
@[simp] theorem State.modLane_digests (s : State) (l : Nat) (f : Lane → Lane) : (s.modLane l f).digests = s.digests := rfl

/-! ### modTag changes fab alone -/

@[simp] theorem State.modTag_time (s : State) (t : Nat) (f : TagUse → TagUse) : (s.modTag t f).time = s.time := rfl
@[simp] theorem State.modTag_mem (s : State) (t : Nat) (f : TagUse → TagUse) : (s.modTag t f).mem = s.mem := rfl
@[simp] theorem State.modTag_basin (s : State) (t : Nat) (f : TagUse → TagUse) : (s.modTag t f).basin = s.basin := rfl
@[simp] theorem State.modTag_regions (s : State) (t : Nat) (f : TagUse → TagUse) : (s.modTag t f).regions = s.regions := rfl
@[simp] theorem State.modTag_rings (s : State) (t : Nat) (f : TagUse → TagUse) : (s.modTag t f).rings = s.rings := rfl
@[simp] theorem State.modTag_tiles (s : State) (t : Nat) (f : TagUse → TagUse) : (s.modTag t f).tiles = s.tiles := rfl
@[simp] theorem State.modTag_cols (s : State) (t : Nat) (f : TagUse → TagUse) : (s.modTag t f).cols = s.cols := rfl
@[simp] theorem State.modTag_heaters (s : State) (t : Nat) (f : TagUse → TagUse) : (s.modTag t f).heaters = s.heaters := rfl
@[simp] theorem State.modTag_tileLoops (s : State) (t : Nat) (f : TagUse → TagUse) : (s.modTag t f).tileLoops = s.tileLoops := rfl
@[simp] theorem State.modTag_clusters (s : State) (t : Nat) (f : TagUse → TagUse) : (s.modTag t f).clusters = s.clusters := rfl
@[simp] theorem State.modTag_accs (s : State) (t : Nat) (f : TagUse → TagUse) : (s.modTag t f).accs = s.accs := rfl
@[simp] theorem State.modTag_set0 (s : State) (t : Nat) (f : TagUse → TagUse) : (s.modTag t f).set0 = s.set0 := rfl
@[simp] theorem State.modTag_set1 (s : State) (t : Nat) (f : TagUse → TagUse) : (s.modTag t f).set1 = s.set1 := rfl
@[simp] theorem State.modTag_ops (s : State) (t : Nat) (f : TagUse → TagUse) : (s.modTag t f).ops = s.ops := rfl
@[simp] theorem State.modTag_queues (s : State) (t : Nat) (f : TagUse → TagUse) : (s.modTag t f).queues = s.queues := rfl
@[simp] theorem State.modTag_epochs (s : State) (t : Nat) (f : TagUse → TagUse) : (s.modTag t f).epochs = s.epochs := rfl
@[simp] theorem State.modTag_tokens (s : State) (t : Nat) (f : TagUse → TagUse) : (s.modTag t f).tokens = s.tokens := rfl
@[simp] theorem State.modTag_specWrites (s : State) (t : Nat) (f : TagUse → TagUse) : (s.modTag t f).specWrites = s.specWrites := rfl
@[simp] theorem State.modTag_ctxs (s : State) (t : Nat) (f : TagUse → TagUse) : (s.modTag t f).ctxs = s.ctxs := rfl
@[simp] theorem State.modTag_reqs (s : State) (t : Nat) (f : TagUse → TagUse) : (s.modTag t f).reqs = s.reqs := rfl
@[simp] theorem State.modTag_xcache (s : State) (t : Nat) (f : TagUse → TagUse) : (s.modTag t f).xcache = s.xcache := rfl
@[simp] theorem State.modTag_casc (s : State) (t : Nat) (f : TagUse → TagUse) : (s.modTag t f).casc = s.casc := rfl
@[simp] theorem State.modTag_hl (s : State) (t : Nat) (f : TagUse → TagUse) : (s.modTag t f).hl = s.hl := rfl
@[simp] theorem State.modTag_fp (s : State) (t : Nat) (f : TagUse → TagUse) : (s.modTag t f).fp = s.fp := rfl
@[simp] theorem State.modTag_procs (s : State) (t : Nat) (f : TagUse → TagUse) : (s.modTag t f).procs = s.procs := rfl
@[simp] theorem State.modTag_fw (s : State) (t : Nat) (f : TagUse → TagUse) : (s.modTag t f).fw = s.fw := rfl
@[simp] theorem State.modTag_rst (s : State) (t : Nat) (f : TagUse → TagUse) : (s.modTag t f).rst = s.rst := rfl
@[simp] theorem State.modTag_pwr (s : State) (t : Nat) (f : TagUse → TagUse) : (s.modTag t f).pwr = s.pwr := rfl
@[simp] theorem State.modTag_sec (s : State) (t : Nat) (f : TagUse → TagUse) : (s.modTag t f).sec = s.sec := rfl
@[simp] theorem State.modTag_light (s : State) (t : Nat) (f : TagUse → TagUse) : (s.modTag t f).light = s.light := rfl
@[simp] theorem State.modTag_cal (s : State) (t : Nat) (f : TagUse → TagUse) : (s.modTag t f).cal = s.cal := rfl
@[simp] theorem State.modTag_flt (s : State) (t : Nat) (f : TagUse → TagUse) : (s.modTag t f).flt = s.flt := rfl
@[simp] theorem State.modTag_dict (s : State) (t : Nat) (f : TagUse → TagUse) : (s.modTag t f).dict = s.dict := rfl
@[simp] theorem State.modTag_pending (s : State) (t : Nat) (f : TagUse → TagUse) : (s.modTag t f).pending = s.pending := rfl
@[simp] theorem State.modTag_freeCtr (s : State) (t : Nat) (f : TagUse → TagUse) : (s.modTag t f).freeCtr = s.freeCtr := rfl
@[simp] theorem State.modTag_codes (s : State) (t : Nat) (f : TagUse → TagUse) : (s.modTag t f).codes = s.codes := rfl
@[simp] theorem State.modTag_ringAt (s : State) (t : Nat) (f : TagUse → TagUse) : (s.modTag t f).ringAt = s.ringAt := rfl
@[simp] theorem State.modTag_writes (s : State) (t : Nat) (f : TagUse → TagUse) : (s.modTag t f).writes = s.writes := rfl
@[simp] theorem State.modTag_mirrorReads (s : State) (t : Nat) (f : TagUse → TagUse) : (s.modTag t f).mirrorReads = s.mirrorReads := rfl
@[simp] theorem State.modTag_calNv (s : State) (t : Nat) (f : TagUse → TagUse) : (s.modTag t f).calNv = s.calNv := rfl
@[simp] theorem State.modTag_tileNv (s : State) (t : Nat) (f : TagUse → TagUse) : (s.modTag t f).tileNv = s.tileNv := rfl
@[simp] theorem State.modTag_drainOrder (s : State) (t : Nat) (f : TagUse → TagUse) : (s.modTag t f).drainOrder = s.drainOrder := rfl
@[simp] theorem State.modTag_drainBusy (s : State) (t : Nat) (f : TagUse → TagUse) : (s.modTag t f).drainBusy = s.drainBusy := rfl
@[simp] theorem State.modTag_helper (s : State) (t : Nat) (f : TagUse → TagUse) : (s.modTag t f).helper = s.helper := rfl
@[simp] theorem State.modTag_drainWaits (s : State) (t : Nat) (f : TagUse → TagUse) : (s.modTag t f).drainWaits = s.drainWaits := rfl
@[simp] theorem State.modTag_admissions (s : State) (t : Nat) (f : TagUse → TagUse) : (s.modTag t f).admissions = s.admissions := rfl
@[simp] theorem State.modTag_epochSerial (s : State) (t : Nat) (f : TagUse → TagUse) : (s.modTag t f).epochSerial = s.epochSerial := rfl
@[simp] theorem State.modTag_lastStamp (s : State) (t : Nat) (f : TagUse → TagUse) : (s.modTag t f).lastStamp = s.lastStamp := rfl
@[simp] theorem State.modTag_provTokens (s : State) (t : Nat) (f : TagUse → TagUse) : (s.modTag t f).provTokens = s.provTokens := rfl
@[simp] theorem State.modTag_provIds (s : State) (t : Nat) (f : TagUse → TagUse) : (s.modTag t f).provIds = s.provIds := rfl
@[simp] theorem State.modTag_epochMsgs (s : State) (t : Nat) (f : TagUse → TagUse) : (s.modTag t f).epochMsgs = s.epochMsgs := rfl
@[simp] theorem State.modTag_reqSerial (s : State) (t : Nat) (f : TagUse → TagUse) : (s.modTag t f).reqSerial = s.reqSerial := rfl
@[simp] theorem State.modTag_invals (s : State) (t : Nat) (f : TagUse → TagUse) : (s.modTag t f).invals = s.invals := rfl
@[simp] theorem State.modTag_streamRefusal (s : State) (t : Nat) (f : TagUse → TagUse) : (s.modTag t f).streamRefusal = s.streamRefusal := rfl
@[simp] theorem State.modTag_poolProgress (s : State) (t : Nat) (f : TagUse → TagUse) : (s.modTag t f).poolProgress = s.poolProgress := rfl
@[simp] theorem State.modTag_digests (s : State) (t : Nat) (f : TagUse → TagUse) : (s.modTag t f).digests = s.digests := rfl

/-! ### modOp changes ops alone -/

@[simp] theorem State.modOp_time (s : State) (q n : Nat) (f : Op → Op) : (s.modOp q n f).time = s.time := rfl
@[simp] theorem State.modOp_mem (s : State) (q n : Nat) (f : Op → Op) : (s.modOp q n f).mem = s.mem := rfl
@[simp] theorem State.modOp_basin (s : State) (q n : Nat) (f : Op → Op) : (s.modOp q n f).basin = s.basin := rfl
@[simp] theorem State.modOp_regions (s : State) (q n : Nat) (f : Op → Op) : (s.modOp q n f).regions = s.regions := rfl
@[simp] theorem State.modOp_rings (s : State) (q n : Nat) (f : Op → Op) : (s.modOp q n f).rings = s.rings := rfl
@[simp] theorem State.modOp_tiles (s : State) (q n : Nat) (f : Op → Op) : (s.modOp q n f).tiles = s.tiles := rfl
@[simp] theorem State.modOp_cols (s : State) (q n : Nat) (f : Op → Op) : (s.modOp q n f).cols = s.cols := rfl
@[simp] theorem State.modOp_heaters (s : State) (q n : Nat) (f : Op → Op) : (s.modOp q n f).heaters = s.heaters := rfl
@[simp] theorem State.modOp_tileLoops (s : State) (q n : Nat) (f : Op → Op) : (s.modOp q n f).tileLoops = s.tileLoops := rfl
@[simp] theorem State.modOp_clusters (s : State) (q n : Nat) (f : Op → Op) : (s.modOp q n f).clusters = s.clusters := rfl
@[simp] theorem State.modOp_accs (s : State) (q n : Nat) (f : Op → Op) : (s.modOp q n f).accs = s.accs := rfl
@[simp] theorem State.modOp_set0 (s : State) (q n : Nat) (f : Op → Op) : (s.modOp q n f).set0 = s.set0 := rfl
@[simp] theorem State.modOp_set1 (s : State) (q n : Nat) (f : Op → Op) : (s.modOp q n f).set1 = s.set1 := rfl
@[simp] theorem State.modOp_queues (s : State) (q n : Nat) (f : Op → Op) : (s.modOp q n f).queues = s.queues := rfl
@[simp] theorem State.modOp_epochs (s : State) (q n : Nat) (f : Op → Op) : (s.modOp q n f).epochs = s.epochs := rfl
@[simp] theorem State.modOp_tokens (s : State) (q n : Nat) (f : Op → Op) : (s.modOp q n f).tokens = s.tokens := rfl
@[simp] theorem State.modOp_specWrites (s : State) (q n : Nat) (f : Op → Op) : (s.modOp q n f).specWrites = s.specWrites := rfl
@[simp] theorem State.modOp_ctxs (s : State) (q n : Nat) (f : Op → Op) : (s.modOp q n f).ctxs = s.ctxs := rfl
@[simp] theorem State.modOp_reqs (s : State) (q n : Nat) (f : Op → Op) : (s.modOp q n f).reqs = s.reqs := rfl
@[simp] theorem State.modOp_xcache (s : State) (q n : Nat) (f : Op → Op) : (s.modOp q n f).xcache = s.xcache := rfl
@[simp] theorem State.modOp_fab (s : State) (q n : Nat) (f : Op → Op) : (s.modOp q n f).fab = s.fab := rfl
@[simp] theorem State.modOp_casc (s : State) (q n : Nat) (f : Op → Op) : (s.modOp q n f).casc = s.casc := rfl
@[simp] theorem State.modOp_hl (s : State) (q n : Nat) (f : Op → Op) : (s.modOp q n f).hl = s.hl := rfl
@[simp] theorem State.modOp_fp (s : State) (q n : Nat) (f : Op → Op) : (s.modOp q n f).fp = s.fp := rfl
@[simp] theorem State.modOp_procs (s : State) (q n : Nat) (f : Op → Op) : (s.modOp q n f).procs = s.procs := rfl
@[simp] theorem State.modOp_fw (s : State) (q n : Nat) (f : Op → Op) : (s.modOp q n f).fw = s.fw := rfl
@[simp] theorem State.modOp_rst (s : State) (q n : Nat) (f : Op → Op) : (s.modOp q n f).rst = s.rst := rfl
@[simp] theorem State.modOp_pwr (s : State) (q n : Nat) (f : Op → Op) : (s.modOp q n f).pwr = s.pwr := rfl
@[simp] theorem State.modOp_sec (s : State) (q n : Nat) (f : Op → Op) : (s.modOp q n f).sec = s.sec := rfl
@[simp] theorem State.modOp_light (s : State) (q n : Nat) (f : Op → Op) : (s.modOp q n f).light = s.light := rfl
@[simp] theorem State.modOp_cal (s : State) (q n : Nat) (f : Op → Op) : (s.modOp q n f).cal = s.cal := rfl
@[simp] theorem State.modOp_flt (s : State) (q n : Nat) (f : Op → Op) : (s.modOp q n f).flt = s.flt := rfl
@[simp] theorem State.modOp_dict (s : State) (q n : Nat) (f : Op → Op) : (s.modOp q n f).dict = s.dict := rfl
@[simp] theorem State.modOp_pending (s : State) (q n : Nat) (f : Op → Op) : (s.modOp q n f).pending = s.pending := rfl
@[simp] theorem State.modOp_freeCtr (s : State) (q n : Nat) (f : Op → Op) : (s.modOp q n f).freeCtr = s.freeCtr := rfl
@[simp] theorem State.modOp_codes (s : State) (q n : Nat) (f : Op → Op) : (s.modOp q n f).codes = s.codes := rfl
@[simp] theorem State.modOp_ringAt (s : State) (q n : Nat) (f : Op → Op) : (s.modOp q n f).ringAt = s.ringAt := rfl
@[simp] theorem State.modOp_writes (s : State) (q n : Nat) (f : Op → Op) : (s.modOp q n f).writes = s.writes := rfl
@[simp] theorem State.modOp_mirrorReads (s : State) (q n : Nat) (f : Op → Op) : (s.modOp q n f).mirrorReads = s.mirrorReads := rfl
@[simp] theorem State.modOp_calNv (s : State) (q n : Nat) (f : Op → Op) : (s.modOp q n f).calNv = s.calNv := rfl
@[simp] theorem State.modOp_tileNv (s : State) (q n : Nat) (f : Op → Op) : (s.modOp q n f).tileNv = s.tileNv := rfl
@[simp] theorem State.modOp_drainOrder (s : State) (q n : Nat) (f : Op → Op) : (s.modOp q n f).drainOrder = s.drainOrder := rfl
@[simp] theorem State.modOp_drainBusy (s : State) (q n : Nat) (f : Op → Op) : (s.modOp q n f).drainBusy = s.drainBusy := rfl
@[simp] theorem State.modOp_helper (s : State) (q n : Nat) (f : Op → Op) : (s.modOp q n f).helper = s.helper := rfl
@[simp] theorem State.modOp_drainWaits (s : State) (q n : Nat) (f : Op → Op) : (s.modOp q n f).drainWaits = s.drainWaits := rfl
@[simp] theorem State.modOp_admissions (s : State) (q n : Nat) (f : Op → Op) : (s.modOp q n f).admissions = s.admissions := rfl
@[simp] theorem State.modOp_epochSerial (s : State) (q n : Nat) (f : Op → Op) : (s.modOp q n f).epochSerial = s.epochSerial := rfl
@[simp] theorem State.modOp_lastStamp (s : State) (q n : Nat) (f : Op → Op) : (s.modOp q n f).lastStamp = s.lastStamp := rfl
@[simp] theorem State.modOp_provTokens (s : State) (q n : Nat) (f : Op → Op) : (s.modOp q n f).provTokens = s.provTokens := rfl
@[simp] theorem State.modOp_provIds (s : State) (q n : Nat) (f : Op → Op) : (s.modOp q n f).provIds = s.provIds := rfl
@[simp] theorem State.modOp_epochMsgs (s : State) (q n : Nat) (f : Op → Op) : (s.modOp q n f).epochMsgs = s.epochMsgs := rfl
@[simp] theorem State.modOp_reqSerial (s : State) (q n : Nat) (f : Op → Op) : (s.modOp q n f).reqSerial = s.reqSerial := rfl
@[simp] theorem State.modOp_invals (s : State) (q n : Nat) (f : Op → Op) : (s.modOp q n f).invals = s.invals := rfl
@[simp] theorem State.modOp_streamRefusal (s : State) (q n : Nat) (f : Op → Op) : (s.modOp q n f).streamRefusal = s.streamRefusal := rfl
@[simp] theorem State.modOp_poolProgress (s : State) (q n : Nat) (f : Op → Op) : (s.modOp q n f).poolProgress = s.poolProgress := rfl
@[simp] theorem State.modOp_digests (s : State) (q n : Nat) (f : Op → Op) : (s.modOp q n f).digests = s.digests := rfl

/-! ### setToken changes tokens alone -/

@[simp] theorem State.setToken_time (s : State) (n v : Nat) : (s.setToken n v).time = s.time := rfl
@[simp] theorem State.setToken_mem (s : State) (n v : Nat) : (s.setToken n v).mem = s.mem := rfl
@[simp] theorem State.setToken_basin (s : State) (n v : Nat) : (s.setToken n v).basin = s.basin := rfl
@[simp] theorem State.setToken_regions (s : State) (n v : Nat) : (s.setToken n v).regions = s.regions := rfl
@[simp] theorem State.setToken_rings (s : State) (n v : Nat) : (s.setToken n v).rings = s.rings := rfl
@[simp] theorem State.setToken_tiles (s : State) (n v : Nat) : (s.setToken n v).tiles = s.tiles := rfl
@[simp] theorem State.setToken_cols (s : State) (n v : Nat) : (s.setToken n v).cols = s.cols := rfl
@[simp] theorem State.setToken_heaters (s : State) (n v : Nat) : (s.setToken n v).heaters = s.heaters := rfl
@[simp] theorem State.setToken_tileLoops (s : State) (n v : Nat) : (s.setToken n v).tileLoops = s.tileLoops := rfl
@[simp] theorem State.setToken_clusters (s : State) (n v : Nat) : (s.setToken n v).clusters = s.clusters := rfl
@[simp] theorem State.setToken_accs (s : State) (n v : Nat) : (s.setToken n v).accs = s.accs := rfl
@[simp] theorem State.setToken_set0 (s : State) (n v : Nat) : (s.setToken n v).set0 = s.set0 := rfl
@[simp] theorem State.setToken_set1 (s : State) (n v : Nat) : (s.setToken n v).set1 = s.set1 := rfl
@[simp] theorem State.setToken_ops (s : State) (n v : Nat) : (s.setToken n v).ops = s.ops := rfl
@[simp] theorem State.setToken_queues (s : State) (n v : Nat) : (s.setToken n v).queues = s.queues := rfl
@[simp] theorem State.setToken_epochs (s : State) (n v : Nat) : (s.setToken n v).epochs = s.epochs := rfl
@[simp] theorem State.setToken_specWrites (s : State) (n v : Nat) : (s.setToken n v).specWrites = s.specWrites := rfl
@[simp] theorem State.setToken_ctxs (s : State) (n v : Nat) : (s.setToken n v).ctxs = s.ctxs := rfl
@[simp] theorem State.setToken_reqs (s : State) (n v : Nat) : (s.setToken n v).reqs = s.reqs := rfl
@[simp] theorem State.setToken_xcache (s : State) (n v : Nat) : (s.setToken n v).xcache = s.xcache := rfl
@[simp] theorem State.setToken_fab (s : State) (n v : Nat) : (s.setToken n v).fab = s.fab := rfl
@[simp] theorem State.setToken_casc (s : State) (n v : Nat) : (s.setToken n v).casc = s.casc := rfl
@[simp] theorem State.setToken_hl (s : State) (n v : Nat) : (s.setToken n v).hl = s.hl := rfl
@[simp] theorem State.setToken_fp (s : State) (n v : Nat) : (s.setToken n v).fp = s.fp := rfl
@[simp] theorem State.setToken_procs (s : State) (n v : Nat) : (s.setToken n v).procs = s.procs := rfl
@[simp] theorem State.setToken_fw (s : State) (n v : Nat) : (s.setToken n v).fw = s.fw := rfl
@[simp] theorem State.setToken_rst (s : State) (n v : Nat) : (s.setToken n v).rst = s.rst := rfl
@[simp] theorem State.setToken_pwr (s : State) (n v : Nat) : (s.setToken n v).pwr = s.pwr := rfl
@[simp] theorem State.setToken_sec (s : State) (n v : Nat) : (s.setToken n v).sec = s.sec := rfl
@[simp] theorem State.setToken_light (s : State) (n v : Nat) : (s.setToken n v).light = s.light := rfl
@[simp] theorem State.setToken_cal (s : State) (n v : Nat) : (s.setToken n v).cal = s.cal := rfl
@[simp] theorem State.setToken_flt (s : State) (n v : Nat) : (s.setToken n v).flt = s.flt := rfl
@[simp] theorem State.setToken_dict (s : State) (n v : Nat) : (s.setToken n v).dict = s.dict := rfl
@[simp] theorem State.setToken_pending (s : State) (n v : Nat) : (s.setToken n v).pending = s.pending := rfl
@[simp] theorem State.setToken_freeCtr (s : State) (n v : Nat) : (s.setToken n v).freeCtr = s.freeCtr := rfl
@[simp] theorem State.setToken_codes (s : State) (n v : Nat) : (s.setToken n v).codes = s.codes := rfl
@[simp] theorem State.setToken_ringAt (s : State) (n v : Nat) : (s.setToken n v).ringAt = s.ringAt := rfl
@[simp] theorem State.setToken_writes (s : State) (n v : Nat) : (s.setToken n v).writes = s.writes := rfl
@[simp] theorem State.setToken_mirrorReads (s : State) (n v : Nat) : (s.setToken n v).mirrorReads = s.mirrorReads := rfl
@[simp] theorem State.setToken_calNv (s : State) (n v : Nat) : (s.setToken n v).calNv = s.calNv := rfl
@[simp] theorem State.setToken_tileNv (s : State) (n v : Nat) : (s.setToken n v).tileNv = s.tileNv := rfl
@[simp] theorem State.setToken_drainOrder (s : State) (n v : Nat) : (s.setToken n v).drainOrder = s.drainOrder := rfl
@[simp] theorem State.setToken_drainBusy (s : State) (n v : Nat) : (s.setToken n v).drainBusy = s.drainBusy := rfl
@[simp] theorem State.setToken_helper (s : State) (n v : Nat) : (s.setToken n v).helper = s.helper := rfl
@[simp] theorem State.setToken_drainWaits (s : State) (n v : Nat) : (s.setToken n v).drainWaits = s.drainWaits := rfl
@[simp] theorem State.setToken_admissions (s : State) (n v : Nat) : (s.setToken n v).admissions = s.admissions := rfl
@[simp] theorem State.setToken_epochSerial (s : State) (n v : Nat) : (s.setToken n v).epochSerial = s.epochSerial := rfl
@[simp] theorem State.setToken_lastStamp (s : State) (n v : Nat) : (s.setToken n v).lastStamp = s.lastStamp := rfl
@[simp] theorem State.setToken_provTokens (s : State) (n v : Nat) : (s.setToken n v).provTokens = s.provTokens := rfl
@[simp] theorem State.setToken_provIds (s : State) (n v : Nat) : (s.setToken n v).provIds = s.provIds := rfl
@[simp] theorem State.setToken_epochMsgs (s : State) (n v : Nat) : (s.setToken n v).epochMsgs = s.epochMsgs := rfl
@[simp] theorem State.setToken_reqSerial (s : State) (n v : Nat) : (s.setToken n v).reqSerial = s.reqSerial := rfl
@[simp] theorem State.setToken_invals (s : State) (n v : Nat) : (s.setToken n v).invals = s.invals := rfl
@[simp] theorem State.setToken_streamRefusal (s : State) (n v : Nat) : (s.setToken n v).streamRefusal = s.streamRefusal := rfl
@[simp] theorem State.setToken_poolProgress (s : State) (n v : Nat) : (s.setToken n v).poolProgress = s.poolProgress := rfl
@[simp] theorem State.setToken_digests (s : State) (n v : Nat) : (s.setToken n v).digests = s.digests := rfl

/-! ### setRing changes rings alone -/

@[simp] theorem State.setRing_time (s : State) (t p l v : Nat) : (s.setRing t p l v).time = s.time := rfl
@[simp] theorem State.setRing_mem (s : State) (t p l v : Nat) : (s.setRing t p l v).mem = s.mem := rfl
@[simp] theorem State.setRing_basin (s : State) (t p l v : Nat) : (s.setRing t p l v).basin = s.basin := rfl
@[simp] theorem State.setRing_regions (s : State) (t p l v : Nat) : (s.setRing t p l v).regions = s.regions := rfl
@[simp] theorem State.setRing_tiles (s : State) (t p l v : Nat) : (s.setRing t p l v).tiles = s.tiles := rfl
@[simp] theorem State.setRing_cols (s : State) (t p l v : Nat) : (s.setRing t p l v).cols = s.cols := rfl
@[simp] theorem State.setRing_heaters (s : State) (t p l v : Nat) : (s.setRing t p l v).heaters = s.heaters := rfl
@[simp] theorem State.setRing_tileLoops (s : State) (t p l v : Nat) : (s.setRing t p l v).tileLoops = s.tileLoops := rfl
@[simp] theorem State.setRing_clusters (s : State) (t p l v : Nat) : (s.setRing t p l v).clusters = s.clusters := rfl
@[simp] theorem State.setRing_accs (s : State) (t p l v : Nat) : (s.setRing t p l v).accs = s.accs := rfl
@[simp] theorem State.setRing_set0 (s : State) (t p l v : Nat) : (s.setRing t p l v).set0 = s.set0 := rfl
@[simp] theorem State.setRing_set1 (s : State) (t p l v : Nat) : (s.setRing t p l v).set1 = s.set1 := rfl
@[simp] theorem State.setRing_ops (s : State) (t p l v : Nat) : (s.setRing t p l v).ops = s.ops := rfl
@[simp] theorem State.setRing_queues (s : State) (t p l v : Nat) : (s.setRing t p l v).queues = s.queues := rfl
@[simp] theorem State.setRing_epochs (s : State) (t p l v : Nat) : (s.setRing t p l v).epochs = s.epochs := rfl
@[simp] theorem State.setRing_tokens (s : State) (t p l v : Nat) : (s.setRing t p l v).tokens = s.tokens := rfl
@[simp] theorem State.setRing_specWrites (s : State) (t p l v : Nat) : (s.setRing t p l v).specWrites = s.specWrites := rfl
@[simp] theorem State.setRing_ctxs (s : State) (t p l v : Nat) : (s.setRing t p l v).ctxs = s.ctxs := rfl
@[simp] theorem State.setRing_reqs (s : State) (t p l v : Nat) : (s.setRing t p l v).reqs = s.reqs := rfl
@[simp] theorem State.setRing_xcache (s : State) (t p l v : Nat) : (s.setRing t p l v).xcache = s.xcache := rfl
@[simp] theorem State.setRing_fab (s : State) (t p l v : Nat) : (s.setRing t p l v).fab = s.fab := rfl
@[simp] theorem State.setRing_casc (s : State) (t p l v : Nat) : (s.setRing t p l v).casc = s.casc := rfl
@[simp] theorem State.setRing_hl (s : State) (t p l v : Nat) : (s.setRing t p l v).hl = s.hl := rfl
@[simp] theorem State.setRing_fp (s : State) (t p l v : Nat) : (s.setRing t p l v).fp = s.fp := rfl
@[simp] theorem State.setRing_procs (s : State) (t p l v : Nat) : (s.setRing t p l v).procs = s.procs := rfl
@[simp] theorem State.setRing_fw (s : State) (t p l v : Nat) : (s.setRing t p l v).fw = s.fw := rfl
@[simp] theorem State.setRing_rst (s : State) (t p l v : Nat) : (s.setRing t p l v).rst = s.rst := rfl
@[simp] theorem State.setRing_pwr (s : State) (t p l v : Nat) : (s.setRing t p l v).pwr = s.pwr := rfl
@[simp] theorem State.setRing_sec (s : State) (t p l v : Nat) : (s.setRing t p l v).sec = s.sec := rfl
@[simp] theorem State.setRing_light (s : State) (t p l v : Nat) : (s.setRing t p l v).light = s.light := rfl
@[simp] theorem State.setRing_cal (s : State) (t p l v : Nat) : (s.setRing t p l v).cal = s.cal := rfl
@[simp] theorem State.setRing_flt (s : State) (t p l v : Nat) : (s.setRing t p l v).flt = s.flt := rfl
@[simp] theorem State.setRing_dict (s : State) (t p l v : Nat) : (s.setRing t p l v).dict = s.dict := rfl
@[simp] theorem State.setRing_pending (s : State) (t p l v : Nat) : (s.setRing t p l v).pending = s.pending := rfl
@[simp] theorem State.setRing_freeCtr (s : State) (t p l v : Nat) : (s.setRing t p l v).freeCtr = s.freeCtr := rfl
@[simp] theorem State.setRing_codes (s : State) (t p l v : Nat) : (s.setRing t p l v).codes = s.codes := rfl
@[simp] theorem State.setRing_ringAt (s : State) (t p l v : Nat) : (s.setRing t p l v).ringAt = s.ringAt := rfl
@[simp] theorem State.setRing_writes (s : State) (t p l v : Nat) : (s.setRing t p l v).writes = s.writes := rfl
@[simp] theorem State.setRing_mirrorReads (s : State) (t p l v : Nat) : (s.setRing t p l v).mirrorReads = s.mirrorReads := rfl
@[simp] theorem State.setRing_calNv (s : State) (t p l v : Nat) : (s.setRing t p l v).calNv = s.calNv := rfl
@[simp] theorem State.setRing_tileNv (s : State) (t p l v : Nat) : (s.setRing t p l v).tileNv = s.tileNv := rfl
@[simp] theorem State.setRing_drainOrder (s : State) (t p l v : Nat) : (s.setRing t p l v).drainOrder = s.drainOrder := rfl
@[simp] theorem State.setRing_drainBusy (s : State) (t p l v : Nat) : (s.setRing t p l v).drainBusy = s.drainBusy := rfl
@[simp] theorem State.setRing_helper (s : State) (t p l v : Nat) : (s.setRing t p l v).helper = s.helper := rfl
@[simp] theorem State.setRing_drainWaits (s : State) (t p l v : Nat) : (s.setRing t p l v).drainWaits = s.drainWaits := rfl
@[simp] theorem State.setRing_admissions (s : State) (t p l v : Nat) : (s.setRing t p l v).admissions = s.admissions := rfl
@[simp] theorem State.setRing_epochSerial (s : State) (t p l v : Nat) : (s.setRing t p l v).epochSerial = s.epochSerial := rfl
@[simp] theorem State.setRing_lastStamp (s : State) (t p l v : Nat) : (s.setRing t p l v).lastStamp = s.lastStamp := rfl
@[simp] theorem State.setRing_provTokens (s : State) (t p l v : Nat) : (s.setRing t p l v).provTokens = s.provTokens := rfl
@[simp] theorem State.setRing_provIds (s : State) (t p l v : Nat) : (s.setRing t p l v).provIds = s.provIds := rfl
@[simp] theorem State.setRing_epochMsgs (s : State) (t p l v : Nat) : (s.setRing t p l v).epochMsgs = s.epochMsgs := rfl
@[simp] theorem State.setRing_reqSerial (s : State) (t p l v : Nat) : (s.setRing t p l v).reqSerial = s.reqSerial := rfl
@[simp] theorem State.setRing_invals (s : State) (t p l v : Nat) : (s.setRing t p l v).invals = s.invals := rfl
@[simp] theorem State.setRing_streamRefusal (s : State) (t p l v : Nat) : (s.setRing t p l v).streamRefusal = s.streamRefusal := rfl
@[simp] theorem State.setRing_poolProgress (s : State) (t p l v : Nat) : (s.setRing t p l v).poolProgress = s.poolProgress := rfl
@[simp] theorem State.setRing_digests (s : State) (t p l v : Nat) : (s.setRing t p l v).digests = s.digests := rfl

/-! ### store changes mem alone -/

@[simp] theorem State.store_time (s : State) (a : Nat) (bs : List Byte) : (s.store a bs).time = s.time := rfl
@[simp] theorem State.store_basin (s : State) (a : Nat) (bs : List Byte) : (s.store a bs).basin = s.basin := rfl
@[simp] theorem State.store_regions (s : State) (a : Nat) (bs : List Byte) : (s.store a bs).regions = s.regions := rfl
@[simp] theorem State.store_rings (s : State) (a : Nat) (bs : List Byte) : (s.store a bs).rings = s.rings := rfl
@[simp] theorem State.store_tiles (s : State) (a : Nat) (bs : List Byte) : (s.store a bs).tiles = s.tiles := rfl
@[simp] theorem State.store_cols (s : State) (a : Nat) (bs : List Byte) : (s.store a bs).cols = s.cols := rfl
@[simp] theorem State.store_heaters (s : State) (a : Nat) (bs : List Byte) : (s.store a bs).heaters = s.heaters := rfl
@[simp] theorem State.store_tileLoops (s : State) (a : Nat) (bs : List Byte) : (s.store a bs).tileLoops = s.tileLoops := rfl
@[simp] theorem State.store_clusters (s : State) (a : Nat) (bs : List Byte) : (s.store a bs).clusters = s.clusters := rfl
@[simp] theorem State.store_accs (s : State) (a : Nat) (bs : List Byte) : (s.store a bs).accs = s.accs := rfl
@[simp] theorem State.store_set0 (s : State) (a : Nat) (bs : List Byte) : (s.store a bs).set0 = s.set0 := rfl
@[simp] theorem State.store_set1 (s : State) (a : Nat) (bs : List Byte) : (s.store a bs).set1 = s.set1 := rfl
@[simp] theorem State.store_ops (s : State) (a : Nat) (bs : List Byte) : (s.store a bs).ops = s.ops := rfl
@[simp] theorem State.store_queues (s : State) (a : Nat) (bs : List Byte) : (s.store a bs).queues = s.queues := rfl
@[simp] theorem State.store_epochs (s : State) (a : Nat) (bs : List Byte) : (s.store a bs).epochs = s.epochs := rfl
@[simp] theorem State.store_tokens (s : State) (a : Nat) (bs : List Byte) : (s.store a bs).tokens = s.tokens := rfl
@[simp] theorem State.store_specWrites (s : State) (a : Nat) (bs : List Byte) : (s.store a bs).specWrites = s.specWrites := rfl
@[simp] theorem State.store_ctxs (s : State) (a : Nat) (bs : List Byte) : (s.store a bs).ctxs = s.ctxs := rfl
@[simp] theorem State.store_reqs (s : State) (a : Nat) (bs : List Byte) : (s.store a bs).reqs = s.reqs := rfl
@[simp] theorem State.store_xcache (s : State) (a : Nat) (bs : List Byte) : (s.store a bs).xcache = s.xcache := rfl
@[simp] theorem State.store_fab (s : State) (a : Nat) (bs : List Byte) : (s.store a bs).fab = s.fab := rfl
@[simp] theorem State.store_casc (s : State) (a : Nat) (bs : List Byte) : (s.store a bs).casc = s.casc := rfl
@[simp] theorem State.store_hl (s : State) (a : Nat) (bs : List Byte) : (s.store a bs).hl = s.hl := rfl
@[simp] theorem State.store_fp (s : State) (a : Nat) (bs : List Byte) : (s.store a bs).fp = s.fp := rfl
@[simp] theorem State.store_procs (s : State) (a : Nat) (bs : List Byte) : (s.store a bs).procs = s.procs := rfl
@[simp] theorem State.store_fw (s : State) (a : Nat) (bs : List Byte) : (s.store a bs).fw = s.fw := rfl
@[simp] theorem State.store_rst (s : State) (a : Nat) (bs : List Byte) : (s.store a bs).rst = s.rst := rfl
@[simp] theorem State.store_pwr (s : State) (a : Nat) (bs : List Byte) : (s.store a bs).pwr = s.pwr := rfl
@[simp] theorem State.store_sec (s : State) (a : Nat) (bs : List Byte) : (s.store a bs).sec = s.sec := rfl
@[simp] theorem State.store_light (s : State) (a : Nat) (bs : List Byte) : (s.store a bs).light = s.light := rfl
@[simp] theorem State.store_cal (s : State) (a : Nat) (bs : List Byte) : (s.store a bs).cal = s.cal := rfl
@[simp] theorem State.store_flt (s : State) (a : Nat) (bs : List Byte) : (s.store a bs).flt = s.flt := rfl
@[simp] theorem State.store_dict (s : State) (a : Nat) (bs : List Byte) : (s.store a bs).dict = s.dict := rfl
@[simp] theorem State.store_pending (s : State) (a : Nat) (bs : List Byte) : (s.store a bs).pending = s.pending := rfl
@[simp] theorem State.store_freeCtr (s : State) (a : Nat) (bs : List Byte) : (s.store a bs).freeCtr = s.freeCtr := rfl
@[simp] theorem State.store_codes (s : State) (a : Nat) (bs : List Byte) : (s.store a bs).codes = s.codes := rfl
@[simp] theorem State.store_ringAt (s : State) (a : Nat) (bs : List Byte) : (s.store a bs).ringAt = s.ringAt := rfl
@[simp] theorem State.store_writes (s : State) (a : Nat) (bs : List Byte) : (s.store a bs).writes = s.writes := rfl
@[simp] theorem State.store_mirrorReads (s : State) (a : Nat) (bs : List Byte) : (s.store a bs).mirrorReads = s.mirrorReads := rfl
@[simp] theorem State.store_calNv (s : State) (a : Nat) (bs : List Byte) : (s.store a bs).calNv = s.calNv := rfl
@[simp] theorem State.store_tileNv (s : State) (a : Nat) (bs : List Byte) : (s.store a bs).tileNv = s.tileNv := rfl
@[simp] theorem State.store_drainOrder (s : State) (a : Nat) (bs : List Byte) : (s.store a bs).drainOrder = s.drainOrder := rfl
@[simp] theorem State.store_drainBusy (s : State) (a : Nat) (bs : List Byte) : (s.store a bs).drainBusy = s.drainBusy := rfl
@[simp] theorem State.store_helper (s : State) (a : Nat) (bs : List Byte) : (s.store a bs).helper = s.helper := rfl
@[simp] theorem State.store_drainWaits (s : State) (a : Nat) (bs : List Byte) : (s.store a bs).drainWaits = s.drainWaits := rfl
@[simp] theorem State.store_admissions (s : State) (a : Nat) (bs : List Byte) : (s.store a bs).admissions = s.admissions := rfl
@[simp] theorem State.store_epochSerial (s : State) (a : Nat) (bs : List Byte) : (s.store a bs).epochSerial = s.epochSerial := rfl
@[simp] theorem State.store_lastStamp (s : State) (a : Nat) (bs : List Byte) : (s.store a bs).lastStamp = s.lastStamp := rfl
@[simp] theorem State.store_provTokens (s : State) (a : Nat) (bs : List Byte) : (s.store a bs).provTokens = s.provTokens := rfl
@[simp] theorem State.store_provIds (s : State) (a : Nat) (bs : List Byte) : (s.store a bs).provIds = s.provIds := rfl
@[simp] theorem State.store_epochMsgs (s : State) (a : Nat) (bs : List Byte) : (s.store a bs).epochMsgs = s.epochMsgs := rfl
@[simp] theorem State.store_reqSerial (s : State) (a : Nat) (bs : List Byte) : (s.store a bs).reqSerial = s.reqSerial := rfl
@[simp] theorem State.store_invals (s : State) (a : Nat) (bs : List Byte) : (s.store a bs).invals = s.invals := rfl
@[simp] theorem State.store_streamRefusal (s : State) (a : Nat) (bs : List Byte) : (s.store a bs).streamRefusal = s.streamRefusal := rfl
@[simp] theorem State.store_poolProgress (s : State) (a : Nat) (bs : List Byte) : (s.store a bs).poolProgress = s.poolProgress := rfl
@[simp] theorem State.store_digests (s : State) (a : Nat) (bs : List Byte) : (s.store a bs).digests = s.digests := rfl

/-! ### count changes flt alone -/

@[simp] theorem State.count_time (s : State) (n k : Nat) : (s.count n k).time = s.time := rfl
@[simp] theorem State.count_mem (s : State) (n k : Nat) : (s.count n k).mem = s.mem := rfl
@[simp] theorem State.count_basin (s : State) (n k : Nat) : (s.count n k).basin = s.basin := rfl
@[simp] theorem State.count_regions (s : State) (n k : Nat) : (s.count n k).regions = s.regions := rfl
@[simp] theorem State.count_rings (s : State) (n k : Nat) : (s.count n k).rings = s.rings := rfl
@[simp] theorem State.count_tiles (s : State) (n k : Nat) : (s.count n k).tiles = s.tiles := rfl
@[simp] theorem State.count_cols (s : State) (n k : Nat) : (s.count n k).cols = s.cols := rfl
@[simp] theorem State.count_heaters (s : State) (n k : Nat) : (s.count n k).heaters = s.heaters := rfl
@[simp] theorem State.count_tileLoops (s : State) (n k : Nat) : (s.count n k).tileLoops = s.tileLoops := rfl
@[simp] theorem State.count_clusters (s : State) (n k : Nat) : (s.count n k).clusters = s.clusters := rfl
@[simp] theorem State.count_accs (s : State) (n k : Nat) : (s.count n k).accs = s.accs := rfl
@[simp] theorem State.count_set0 (s : State) (n k : Nat) : (s.count n k).set0 = s.set0 := rfl
@[simp] theorem State.count_set1 (s : State) (n k : Nat) : (s.count n k).set1 = s.set1 := rfl
@[simp] theorem State.count_ops (s : State) (n k : Nat) : (s.count n k).ops = s.ops := rfl
@[simp] theorem State.count_queues (s : State) (n k : Nat) : (s.count n k).queues = s.queues := rfl
@[simp] theorem State.count_epochs (s : State) (n k : Nat) : (s.count n k).epochs = s.epochs := rfl
@[simp] theorem State.count_tokens (s : State) (n k : Nat) : (s.count n k).tokens = s.tokens := rfl
@[simp] theorem State.count_specWrites (s : State) (n k : Nat) : (s.count n k).specWrites = s.specWrites := rfl
@[simp] theorem State.count_ctxs (s : State) (n k : Nat) : (s.count n k).ctxs = s.ctxs := rfl
@[simp] theorem State.count_reqs (s : State) (n k : Nat) : (s.count n k).reqs = s.reqs := rfl
@[simp] theorem State.count_xcache (s : State) (n k : Nat) : (s.count n k).xcache = s.xcache := rfl
@[simp] theorem State.count_fab (s : State) (n k : Nat) : (s.count n k).fab = s.fab := rfl
@[simp] theorem State.count_casc (s : State) (n k : Nat) : (s.count n k).casc = s.casc := rfl
@[simp] theorem State.count_hl (s : State) (n k : Nat) : (s.count n k).hl = s.hl := rfl
@[simp] theorem State.count_fp (s : State) (n k : Nat) : (s.count n k).fp = s.fp := rfl
@[simp] theorem State.count_procs (s : State) (n k : Nat) : (s.count n k).procs = s.procs := rfl
@[simp] theorem State.count_fw (s : State) (n k : Nat) : (s.count n k).fw = s.fw := rfl
@[simp] theorem State.count_rst (s : State) (n k : Nat) : (s.count n k).rst = s.rst := rfl
@[simp] theorem State.count_pwr (s : State) (n k : Nat) : (s.count n k).pwr = s.pwr := rfl
@[simp] theorem State.count_sec (s : State) (n k : Nat) : (s.count n k).sec = s.sec := rfl
@[simp] theorem State.count_light (s : State) (n k : Nat) : (s.count n k).light = s.light := rfl
@[simp] theorem State.count_cal (s : State) (n k : Nat) : (s.count n k).cal = s.cal := rfl
@[simp] theorem State.count_dict (s : State) (n k : Nat) : (s.count n k).dict = s.dict := rfl
@[simp] theorem State.count_pending (s : State) (n k : Nat) : (s.count n k).pending = s.pending := rfl
@[simp] theorem State.count_freeCtr (s : State) (n k : Nat) : (s.count n k).freeCtr = s.freeCtr := rfl
@[simp] theorem State.count_codes (s : State) (n k : Nat) : (s.count n k).codes = s.codes := rfl
@[simp] theorem State.count_ringAt (s : State) (n k : Nat) : (s.count n k).ringAt = s.ringAt := rfl
@[simp] theorem State.count_writes (s : State) (n k : Nat) : (s.count n k).writes = s.writes := rfl
@[simp] theorem State.count_mirrorReads (s : State) (n k : Nat) : (s.count n k).mirrorReads = s.mirrorReads := rfl
@[simp] theorem State.count_calNv (s : State) (n k : Nat) : (s.count n k).calNv = s.calNv := rfl
@[simp] theorem State.count_tileNv (s : State) (n k : Nat) : (s.count n k).tileNv = s.tileNv := rfl
@[simp] theorem State.count_drainOrder (s : State) (n k : Nat) : (s.count n k).drainOrder = s.drainOrder := rfl
@[simp] theorem State.count_drainBusy (s : State) (n k : Nat) : (s.count n k).drainBusy = s.drainBusy := rfl
@[simp] theorem State.count_helper (s : State) (n k : Nat) : (s.count n k).helper = s.helper := rfl
@[simp] theorem State.count_drainWaits (s : State) (n k : Nat) : (s.count n k).drainWaits = s.drainWaits := rfl
@[simp] theorem State.count_admissions (s : State) (n k : Nat) : (s.count n k).admissions = s.admissions := rfl
@[simp] theorem State.count_epochSerial (s : State) (n k : Nat) : (s.count n k).epochSerial = s.epochSerial := rfl
@[simp] theorem State.count_lastStamp (s : State) (n k : Nat) : (s.count n k).lastStamp = s.lastStamp := rfl
@[simp] theorem State.count_provTokens (s : State) (n k : Nat) : (s.count n k).provTokens = s.provTokens := rfl
@[simp] theorem State.count_provIds (s : State) (n k : Nat) : (s.count n k).provIds = s.provIds := rfl
@[simp] theorem State.count_epochMsgs (s : State) (n k : Nat) : (s.count n k).epochMsgs = s.epochMsgs := rfl
@[simp] theorem State.count_reqSerial (s : State) (n k : Nat) : (s.count n k).reqSerial = s.reqSerial := rfl
@[simp] theorem State.count_invals (s : State) (n k : Nat) : (s.count n k).invals = s.invals := rfl
@[simp] theorem State.count_streamRefusal (s : State) (n k : Nat) : (s.count n k).streamRefusal = s.streamRefusal := rfl
@[simp] theorem State.count_poolProgress (s : State) (n k : Nat) : (s.count n k).poolProgress = s.poolProgress := rfl
@[simp] theorem State.count_digests (s : State) (n k : Nat) : (s.count n k).digests = s.digests := rfl

end Sys2Proof.Machine
end

