-- ==== Sys2Proof/WellFormed.lean ====
section
/-! DEFINITION. Which commands can reach the block: numbers that their carriers can hold, and data of the lengths that they can
have. The machine itself gives every command a meaning, well formed or not. -/

namespace Sys2Proof

/-- A requester that exists: a tag of 12 bits (11 R414), or a node 0x01 to 0xFE and a transaction of one byte (12 R458, R459). -/
def portOk : Port → Bool
  | .host tag => decide (tag < 4096)
  | .field node tid service => decide (1 ≤ node ∧ node ≤ 254) && decide (tid < 256) && decide (service < 65536)

/-- A fabric packet's payload is at most 4,096 bytes (09 R360, R362). -/
def packetOk (w : FabricPacket) : Bool := decide (w.data.length ≤ 4096)

/-- A calibration's fit: 16 entries in each level table, 64 ring offsets of six bits, and 16 verification settings (08 R303, R326). -/
def fitOk (f : CalFit) : Bool :=
  decide (f.levelHi.length = 16) && decide (f.levelLo.length = 16) && decide (f.offsets.length = 64) && decide (f.errors.length = 16)
    && f.offsets.all (fun o => decide (-32 ≤ o ∧ o ≤ 31))

/-- Payload lengths of a CAN FD frame (12 R459). -/
def fdLengths : List Nat := [0, 1, 2, 3, 4, 5, 6, 7, 8, 12, 16, 20, 24, 32, 48, 64]

/-- Blocks that can be reset alone (14 R496). -/
def blockNamed (kind num : Nat) : Bool :=
  (decide (kind = 1) && decide (num < 98)) || (decide (kind = 2) && decide (num = 0)) || (decide (kind = 3) && decide (num < 18))
    || (decide (kind = 4) && decide (num < 2))

/-- A command that can reach the block. -/
def Instr.wellFormed : Instr → Bool
  | .regionDefine p _ _ => portOk p
  | .regionDelete p _ _ => portOk p
  | .queueDb _ _ _ => true
  | .queueAbort p _ => portOk p
  | .mvm _ => true
  | .mvg _ => true
  | .ldwCopy _ => true
  | .ldwAdopt _ => true
  | .kap _ => true
  | .nrm _ => true
  | .smx _ => true
  | .actRead _ => true
  | .actWrite _ => true
  | .actAdd _ => true
  | .actSave _ => true
  | .actRestore _ => true
  | .actRelease _ => true
  | .xfr _ => true
  | .wtk _ => true
  | .spb _ => true
  | .spc _ => true
  | .spq _ => true
  | .fnc _ => true
  | .opDepsComplete _ _ => true
  | .streamArm _ _ => true
  | .opStart _ _ => true
  | .pass _ => true
  | .ambiguousInteger _ => true
  | .columnMapChange _ => true
  | .passRepeat _ => true
  | .opContribution => true
  | .drainStart => true
  | .drainComplete => true
  | .preempt => true
  | .stallPreempt => true
  | .suspend => true
  | .preemptedResume => true
  | .thermalPause => true
  | .thermalPauseEnd => true
  | .pauseAlarm => true
  | .opRetire _ => true
  | .epochRetire _ => true
  | .peerEpochTimeout _ _ => true
  | .ldwStart _ _ => true
  | .ldwComplete _ _ => true
  | .kapStart _ _ => true
  | .kapComplete _ _ => true
  | .refresh _ => true
  | .mirrorUncorrectable _ _ => true
  | .graceEnd _ => true
  | .digestComplete => true
  | .clusterRingRewrite _ => true
  | .stackResetOverrun _ => true
  | .streamDescWrite p _ _ => portOk p
  | .stagingStart p _ => portOk p
  | .memoryCompletion _ => true
  | .memoryError _ => true
  | .streamHalt _ => true
  | .resumeDb _ _ _ => true
  | .standstill => true
  | .xlatInvalidate p _ => portOk p
  | .patrolScrub _ _ => true
  | .stackFail _ => true
  | .loopUpdate _ _ fit => (fit.map fitOk).getD true
  | .outerUpdate _ => true
  | .loopLock _ _ => true
  | .pilotDeadlineLoss _ _ => true
  | .plausibilityFail _ => true
  | .pilotComparatorFlag _ _ _ => true
  | .sweepEnd _ _ => true
  | .lineIdentityCheck _ _ _ => true
  | .checkForceInsert _ _ => true
  | .clusterLoopsStop p _ => portOk p
  | .clusterLoopsRestart p _ => portOk p
  | .lowRateEntry _ => true
  | .lowRateExit _ => true
  | .pumpFail _ => true
  | .combReturn _ => true
  | .combReturnTimeout _ => true
  | .heaterShort _ _ => true
  | .heaterOpen _ _ => true
  | .tempAlarm _ => true
  | .injectRequest _ _ _ => true
  | .injectedSequenceStart _ _ _ _ => true
  | .monitorFail _ _ => true
  | .monCapture p _ => portOk p
  | .captureStart _ => true
  | .carouselWindow _ => true
  | .calibrationAbandon _ => true
  | .marginTestRound => true
  | .lanePass _ _ _ => true
  | .laneFrame _ _ => true
  | .marginWaitExpire => true
  | .slotSchedule _ _ => true
  | .laneKeepalive _ _ => true
  | .wr w => packetOk w
  | .rdq w => packetOk w
  | .rdr w => packetOk w
  | .ack w => packetOk w
  | .nak w => packetOk w
  | .dbl w => packetOk w
  | .epc w => packetOk w
  | .epq w => packetOk w
  | .epa w => packetOk w
  | .lctl w => packetOk w
  | .forward w _ => packetOk w
  | .replayTimeout _ => true
  | .laneSilenceTimeout _ => true
  | .laneRetire _ _ => true
  | .packetAged => true
  | .xfrTimeout _ => true
  | .doorbellSend p _ => portOk p
  | .fabricStop p => portOk p
  | .fabricRestart p => portOk p
  | .cascadeStop p => portOk p
  | .cascadeRestart p => portOk p
  | .probeSend => true
  | .memberLossTimeout _ => true
  | .linkFrame _ _ req rsp => decide (req.val + rsp.val ≤ 10)
  | .linkReplayTimeout => true
  | .laneLockLoss _ => true
  | .linkUp => true
  | .prd _ => true
  | .pwr h data => decide (data.length = (h.extractLsb' 32 13).toNat)
  | .mrd _ => true
  | .mwr h data => decide (data.length = (h.extractLsb' 32 13).toNat)
  | .cpl h data => decide (data.length = (h.extractLsb' 32 13).toNat)
  | .cplTimeout _ => true
  | .evt => true
  | .evtHead _ _ => true
  | .hostLevel p _ => portOk p
  | .sessionClose _ _ => true
  | .deviceResetMessage => true
  | .processorResetMessage => true
  | .objectWrite p _ _ data => portOk p && decide (0 < data.length ∧ data.length ≤ 65535)
  | .nvCommit _ _ => true
  | .dirEntry p => portOk p
  | .logEntry p => portOk p
  | .counterClear p _ => portOk p
  | .clearAll p => portOk p
  | .basinStop p => portOk p
  | .basinRestart p => portOk p
  | .fpEnable p => portOk p
  | .fpDisable p => portOk p
  | .fbSilentAssert => true
  | .fbSilentRelease => true
  | .read _ payload => decide (payload.length ∈ fdLengths)
  | .write _ payload => decide (payload.length ∈ fdLengths)
  | .segInit _ payload => decide (payload.length ∈ fdLengths)
  | .segment _ payload => decide (payload.length ∈ fdLengths)
  | .segAck _ payload => decide (payload.length ∈ fdLengths)
  | .abort _ payload => decide (payload.length ∈ fdLengths)
  | .segTimeout => true
  | .reset _ payload => decide (payload.length ∈ fdLengths)
  | .fpResetExecute => true
  | .frameTransmit _ => true
  | .tokenRefill => true
  | .busOff => true
  | .flagLimit _ => true
  | .watchdogExpire _ _ => true
  | .processorException _ _ => true
  | .fwRestartRequest port _ => portOk port
  | .processorReturn _ _ => true
  | .dictWaitTimeout => true
  | .fwCommit p _ => portOk p
  | .commitVerified => true
  | .commitWritten => true
  | .fwActivate p _ => portOk p
  | .activationSwitch _ _ => true
  | .supplyMonitor _ _ => true
  | .pwrGoodLow _ => true
  | .rstNPulse _ _ => true
  | .resetRelease => true
  | .bringupStep o => o.fits.all (fun x => fitOk x.2.2.fit && decide (x.2.2.codes.length = 8))
  | .bootLoad p _ => portOk p
  | .warmResetRequest p => portOk p
  | .blockResetRequest p => portOk p
  | .blockResetAssert kind num => blockNamed kind.toNat num.toNat
  | .blockResetRelease kind num => blockNamed kind.toNat num.toNat
  | .securityViolation => true
  | .deepStandbyRequest p => portOk p
  | .standbyRequest p => portOk p
  | .wake _ => true
  | .clusterSleep _ => true
  | .clusterWake _ => true
  | .clusterAwake _ => true
  | .wakeLockTimeout _ _ => true
  | .powerEstimate _ => true
  | .ladderRise _ _ => true
  | .ladderFall => true
  | .vrAlert => true
  | .emergencyNormal => true
  | .thermalTrip => true
  | .thermalTripRelease => true
  | .pmbusPoll _ _ => true
  | .vrFaultClear p _ => portOk p
  | .floorRaise p _ => portOk p
  | .revokeSlot p _ => portOk p
  | .raiseOtpFloor p _ => portOk p
  | .raiseDebugLock p _ => portOk p
  | .debugUnlock p _ => portOk p
  | .attestRequest p _ => portOk p
  | .attestReady => true
  | .smxComplete => true
  | .captureComplete _ _ => true
  | .codewordLock _ => true
  | .referenceClockLoss => true
  | .referenceClockReturn => true
  | .vrAlertRelease => true
  | .epochMessageTimeout _ => true
  | .busOffRecovery => true
  | .busIdleDetect => true
  | .debugRelease => true
  | .combOvertemperature _ => true

end Sys2Proof
end

