-- ==== Sys2Proof/Tests/Slice0.lean ====
section
/-! SUPPORT. Small tests, each one step or one hypothesis list: ill-formed commands are refused, the effects of single
commands on small states, and states and operands that meet the hypotheses of the statements for the provers. -/

set_option Elab.async false
set_option maxRecDepth 4000

namespace Sys2Proof.Tests

open Sys2Proof.Machine

/-! ### States -/

/-- A device in Held after bring-up, with its host link Up in a session and its field port Active. -/
def up : State := { State.reset with
  time := 1000000
  rst := { State.reset.rst with
    step := 10, group := 8, reachedHeld := true, record := none, options := 2 ^ 24 + 2 ^ 25 }
  hl := { State.reset.hl with state := .up, lanes := 15, session := true, level := 1, peerReq := 1000, peerRsp := 500 }
  fp := { State.reset.fp with state := .active, silentPin := false, winhPin := false }
  light := { State.reset.light with compute := .locked, link := .locked }
  basin := { State.reset.basin with state := .running } }

/-- The next state of an outcome; the state after reset where there is none. -/
def next : Host.Outcome State Fault Refusal → State
  | .next s => s
  | _ => State.reset

/-- A requester by each port. -/
def host : Port := .host 3
/-- A requester by the field port. -/
def field : Port := .field 9 1 4

theorem running_up : Running up := ⟨by decide, by decide⟩
theorem reaches_host : Reaches host up := ⟨running_up, by decide, by decide, by decide, by decide⟩
theorem reaches_field : Reaches field up := ⟨running_up, by decide, by decide, by decide, by decide⟩
theorem writes_host : Writes host up := ⟨reaches_host, by decide⟩
theorem writes_field : Writes field up := ⟨reaches_field, by decide⟩

/-! ### Ill-formed commands -/

/-- A fabric packet of n payload bytes. -/
def pkt (n : Nat) : FabricPacket := { lane := 0, header := 0, data := List.replicate n 0, crc := 0 }
/-- A fit with one level, and one with tables of the right lengths and a ring offset. -/
def fit (n : Nat) (o : Int) : CalFit :=
  { trim := 0, levelHi := List.replicate n 0, levelLo := List.replicate 16 0, offsets := o :: List.replicate 63 0, tLock := 0, errors := List.replicate 16 (0, 0) }

theorem test_port_tag : (Instr.clearAll (.host 4096)).wellFormed = false ∧ (Instr.clearAll (.host 4095)).wellFormed = true := by decide
theorem test_port_node : (Instr.clearAll (.field 0 0 0)).wellFormed = false ∧ (Instr.clearAll (.field 255 0 0)).wellFormed = false ∧
    (Instr.clearAll (.field 254 255 0)).wellFormed = true := by decide
theorem test_port_transaction : (Instr.clearAll (.field 1 256 0)).wellFormed = false := by decide
theorem test_port_service : (Instr.clearAll (.field 1 0 65536)).wellFormed = false := by decide
theorem test_packet_length : (Instr.wr (pkt 4097)).wellFormed = false ∧ (Instr.wr (pkt 4096)).wellFormed = true := by decide +kernel
theorem test_fit_levels : (Instr.loopUpdate 0 ⟨[], .none⟩ (some (fit 15 0))).wellFormed = false ∧
    (Instr.loopUpdate 0 ⟨[], .pattern⟩ (some (fit 16 31))).wellFormed = true := by decide +kernel
theorem test_fit_errors : (Instr.loopUpdate 0 ⟨[], .none⟩ (some { fit 16 0 with errors := [] })).wellFormed = false := by decide +kernel
theorem test_fit_offset : (Instr.loopUpdate 0 ⟨[], .none⟩ (some (fit 16 32))).wellFormed = false := by decide +kernel
theorem test_frame_length : (Instr.read 0 (List.replicate 9 0)).wellFormed = false ∧ (Instr.read 0 (List.replicate 12 0)).wellFormed = true := by decide
theorem test_block_name : (Instr.blockResetAssert 1 98).wellFormed = false ∧ (Instr.blockResetAssert 5 0).wellFormed = false ∧
    (Instr.blockResetAssert 3 17).wellFormed = true := by decide
theorem test_transaction_length : (Instr.pwr 0 [1]).wellFormed = false ∧ (Instr.cpl (2 ^ 32) [1]).wellFormed = true := by decide
theorem test_object_length : (Instr.objectWrite host 0 0 []).wellFormed = false ∧ (Instr.objectWrite host 0 0 [1]).wellFormed = true := by decide
theorem test_frame_flits : (Instr.linkFrame true 0 6 5).wellFormed = false ∧ (Instr.linkFrame true 0 5 5).wellFormed = true := by decide
/-- A bring-up step that finds everything in order. -/
def found : StepOutcome := {
  crystal := true, straps := 15, optionsReadable := true, badImages := [], failedStacks := [], computeStarts := true, linkStarts := true
  unlocked := [], fits := [], refs := [], channels := [], tileGains := [], parking := [] }
theorem test_bringup_fit : (Instr.bringupStep { found with fits := [(0, 0, { fit := fit 15 0, kc := 0, pilot := 0, gain := 0, codes := [] })] }).wellFormed = false ∧ (Instr.bringupStep found).wellFormed = true := by
  decide +kernel

/-! ### The queue and a device that does not run -/

/-- A device under a warm reset, and one in Standby. -/
def dark : State := { up with rst := { up.rst with asserted := some 2 } }
/-- A device in Standby. -/
def standby : State := { up with pwr := { up.pwr with state := 2 } }

theorem test_front_command : step { up with pending := [.ladderFall, .evt] } = exec .ladderFall { up with pending := [.evt] } := rfl
theorem witness_empty_queue : up.pending = [] ∧ standby.pwr.state ≠ 3 ∧ dark.dark = true ∧ dark.pending = [] ∧ standby.pending = [] := by decide
theorem witness_queue_kept : ∃ t, exec .ladderFall up = .next t := ⟨_, rfl⟩
theorem witness_memory_kept : up.mem.wf = true ∧ ∃ t, step up = .next t := ⟨by decide, _, rfl⟩
theorem witness_dark : dark.dark = true ∧ standby.pwr.state ≠ 3 ∧ actsInTheDark .ladderFall = false ∧ actsInTheDark .vrAlert = true := by decide

/-! ### The dictionary -/

theorem witness_answers_host : up.hl.state = .up ∧ State.reset.hl.state ≠ .up := by decide
theorem witness_answers_field : up.fp.rsp.length < 32 ∧ ¬ ({ up with fp := { up.fp with rsp := List.replicate 32 {} } } : State).fp.rsp.length < 32 ∧
    (List.replicate 56 (0 : Byte)).length ≤ 56 ∧ 56 < (List.replicate 57 (0 : Byte)).length := by decide
/-- Counter 0 stands one below its end, with another counter raised. -/
def counted : State := { up with flt := { up.flt with counters := [(0, 0xFFFFFFFE), (7, 1)] } }
theorem witness_counters : (Writes host counted ∧ Writes field counted) ∧ mwf 0 counted.flt.counters = true ∧ (1 : BitVec 32) ≠ 0 :=
  ⟨⟨writes_host, writes_field⟩, by decide⟩
theorem test_counter_saturates : (counted.count 0).flt.sats = [0] ∧ ((counted.count 0).count 0).flt.counters = [(0, 0xFFFFFFFF), (7, 1)] := by decide
theorem test_event_number : (up.event 3 1 0x0101 5).dict.log.map (·.seq) = [1] ∧ (up.event 3 2 0x0101 5).fp.evt.length = 1 := by decide +kernel
theorem witness_events : up.hl.evtQueue.length < 256 ∧ up.fp.evt.length < 64 := by decide
theorem witness_object_writes : Writes host up ∧ Writes field up ∧ 12000 ≤ (12000 : BitVec 32).toNat ∧ (1200000 : BitVec 32).toNat ≤ 1200000 ∧
    ¬ (12000 ≤ (11999 : BitVec 32).toNat) ∧ ¬ ((1200001 : BitVec 32).toNat ≤ 1200000) ∧ ([] : List Byte).length ≠ 4 :=
  ⟨writes_host, writes_field, by decide⟩
theorem witness_nv_commit : Running ({ up with dict := { up.dict with nvDue := [(0x4000B, 5)] } } : State) ∧ up.runs procBarker = true ∧
    ∃ w, (0x4000B, w) ∈ ({ up with dict := { up.dict with nvDue := [(0x4000B, 5)] } } : State).dict.nvDue := ⟨running_up, by decide, 5, by decide⟩
/-- A log of two records, the cursor between them. -/
def logged : State := { up with dict := { up.dict with log := [{ seq := 4 }, { seq := 6 }], objs := [(0x780002, 5)] } }
theorem witness_log_entry : (Reaches host logged ∧ Reaches field logged) ∧ (∃ e ∈ logged.dict.log, logged.obj 0x7800 2 ≤ e.seq ∧
    (∀ f ∈ logged.dict.log, logged.obj 0x7800 2 ≤ f.seq → e.seq ≤ f.seq) ∧ (∀ f ∈ logged.dict.log, f.seq = e.seq → f = e)) ∧
    (∀ e ∈ up.dict.log, e.seq < up.obj 0x7800 2) ∧ logged.dict.log.length ≤ 4096 ∧ up.dark = false :=
  ⟨⟨⟨running_up, by decide, by decide, by decide, by decide⟩, ⟨running_up, by decide, by decide, by decide, by decide⟩⟩, by decide +kernel⟩
theorem witness_dir_first : Reaches host up ∧ objExists 0 0 = true ∧ 256 * bits (up.obj 0 2) 0 16 + bits (up.obj 0 2) 16 8 = 0 := ⟨reaches_host, by decide +kernel⟩
/-- The cursor at its end. -/
def atEnd : State := { up with dict := { up.dict with objs := [(2, 0xFFFFFF)] } }
theorem witness_dir_none : Reaches host atEnd ∧ ∀ i k, k < 256 → objExists i k = true → 256 * i + k < 256 * bits (atEnd.obj 0 2) 0 16 + bits (atEnd.obj 0 2) 16 8 := by
  refine ⟨⟨running_up, by decide, by decide, by decide, by decide⟩, fun i k hk h => ?_⟩
  have e : 256 * bits (atEnd.obj 0 2) 0 16 + bits (atEnd.obj 0 2) 16 8 = 0xFFFFFF := by decide +kernel
  have := objExists_below h; omega

/-- A descriptor of region 0: one tile at tier 1, group 1, format W4, mirror at 64 KiB. -/
def rdesc : BitVec 256 := BitVec.ofNat 256 (1 + 2 ^ 8 + 2 ^ 16 + 2 ^ 24 + 2 ^ 32 + 65536 * 2 ^ 64)
/-- The region that it defines. -/
def region0 : Region := { valid := true, tFirst := 1, tLast := 1, gFirst := 1, gLast := 1, mirrorBase := 65536 }
theorem witness_region_define : Writes host up ∧ rdesc.getLsbD 0 = true ∧ up.regionRefusal 0 rdesc.toNat = none ∧ (up.region 0).st = .empty ∧
    up.regionRefusal 255 (rdesc.toNat + 2 ^ 2 * 3) = some 1 := ⟨writes_host, by decide +kernel⟩
theorem witness_region_delete : Writes field ({ up with regions := [(255, region0)] } : State) ∧ (0 : BitVec 256).getLsbD 0 = false ∧
    ({ up with regions := [(255, region0)] } : State).regionRefusal 255 0 = none ∧ (({ up with regions := [(255, region0)] } : State).region 255).valid = true :=
  ⟨writes_field, by decide +kernel⟩
theorem test_region_define : (next (exec (.regionDefine host 0 rdesc) up)).region 0 = region0 := by decide +kernel

/-- A stream descriptor of one element of 64 bytes, for a target. -/
def sdesc (target : Nat) : Nat := 64 * 2 ^ 52 + 2 ^ 64 + target * 2 ^ 67 + 2 ^ 72 + 2 ^ 144
/-- Context 63 has a descriptor of a staging copy, context 5 runs. -/
def streams : State := { up with
  ctxs := [(5, { desc := sdesc 0, st := .armed, run := some {} }), (63, { desc := sdesc 5 })]
  reqSerial := 4
  reqs := [{ ctx := 5, len := 64, va := some 0, serial := 3 }] }
theorem witness_streams : (Writes host streams ∧ Writes field streams) ∧ (streams.ctx 63).st = .idle ∧ streamFault (sdesc 5) = none ∧
    (streams.ctx 5).st ≠ .idle ∧ streamFault (sdesc 6) = some 2 ∧ sTarget (streams.ctx 63).desc = 5 ∧ sElem (streams.ctx 63).desc ≠ 0 ∧
    sTarget (streams.ctx 0).desc ≠ 5 ∧ invalidateOk 0 = true ∧ streams.usesRange 0 streams.reqSerial = true ∧ up.usesRange 7 up.reqSerial = false ∧ invalidateOk 7 = true ∧
    invalidateOk 8 = false :=
  ⟨⟨writes_host, writes_field⟩, by decide +kernel⟩
theorem test_staging_start : ((next (exec (.stagingStart host 63) streams)).ctx 63).st = .armed := by decide +kernel

/-- A device whose Basin, cluster loops, fabric and cascade are stopped and may run. -/
def halted : State := { up with
  basin := { up.basin with run := false, state := .stopped }
  dict := { up.dict with
    loops := [(97, true)]
    objs := [(0x300003, 0), (0x300004, 1 + 256 + 65536), (0x340005, 1), (0x340009, 0)] }
  xcache := [{ page := 0, level := 3, leaf := 50 }] }
/-- An op that the Basin still runs while it stops. -/
def stopping : State := { halted with ops := [{ stage := .started }] }
theorem witness_run_objects : Writes host halted ∧ halted.basinFaults = [] ∧ halted.basinStopping = false ∧ ¬ (halted.basin.run = true) ∧
    halted.light.compute = .locked ∧ (halted.proc procRingmaster).state = .running ∧ up.basin.run = true ∧ up.basin.state = .running ∧
    stopping.basinStopping = true ∧ up.loopsRun 97 = true ∧ halted.loopsRun 97 = false ∧ halted.loopFaults 97 = [] ∧ halted.loopsAble 97 = true ∧
    halted.fab.state = .stopped ∧ halted.light.link = .locked :=
  ⟨writes_host, by decide +kernel⟩
theorem witness_fabric_restart : Writes field halted ∧ halted.fabricReasons = [] ∧ halted.cascadeReasons = [] ∧ halted.casc.state = .stopped ∧ mwf 0 halted.tokens = true :=
  ⟨writes_field, by decide +kernel⟩
theorem witness_fabric_runs : ({ up with fab := { up.fab with state := .running } } : State).fab.state ≠ .stopped ∧
    ({ up with casc := { up.casc with state := .formed } } : State).casc.state ≠ .stopped := by decide
theorem test_basin_restart : (next (exec (.basinRestart host) halted)).basin.state = .running := by decide +kernel
theorem test_fabric_restart : (next (exec (.fabricRestart host) halted)).fab.state = .testing := by decide +kernel

/-- The field port is Silent, or BusOff. -/
def silent : State := { up with fp := { up.fp with state := .silent } }
theorem witness_fp_enable : Writes host silent ∧ silent.obj 0x0500 2 ≠ 1 ∧ silent.fpFaults = [] ∧ silent.fp.state = .silent ∧ silent.fp.txErr ≤ 255 ∧
    ({ silent with fp := { silent.fp with state := .busOff } } : State).fpFaults = [] ∧ up.fp.state ≠ .silent ∧
    ({ up with dict := { up.dict with objs := [(0x50002, 1)] } } : State).obj 0x0500 2 = 1 :=
  ⟨writes_host, by decide +kernel⟩
theorem test_fp_enable : (next (exec (.fpEnable host) silent)).fp.state = .active := by decide +kernel
theorem test_cascade_restart : (next (exec (.cascadeRestart host) halted)).casc.state = .formed := by decide +kernel

/-! ### Sessions, requests and firmware by a port -/

/-- No session is open; the bundle allows levels 2 to 4. -/
def closed : State := { up with
  hl := { up.hl with session := false }
  fw := { up.fw with bundles := [(0, { hostMin := 2, hostMax := 4 })] } }
theorem witness_sessions : Writes host closed ∧ closed.hl.session = false ∧ closed.barkerBundle.hostMin ≤ (2 : BitVec 16).toNat ∧
    (4 : BitVec 16).toNat ≤ closed.barkerBundle.hostMax ∧ (1 : BitVec 16).toNat < closed.barkerBundle.hostMin ∧
    closed.barkerBundle.hostMax < (5 : BitVec 16).toNat ∧ up.hl.session = true ∧ Reaches (.host (3 : BitVec 12).toNat) closed :=
  ⟨writes_host, by decide +kernel, by decide +kernel, by decide +kernel, by decide +kernel, by decide +kernel, by decide, reaches_host⟩
theorem test_session_opens : (next (exec (.hostLevel host 4) closed)).hl.level = 4 := by decide +kernel
theorem witness_session_ends : up.dark = false ∧ up.hl.session = true := by decide

/-- A capture of 1 pair of samples from channel 0. -/
def capture : BitVec 128 := BitVec.ofNat 128 (2 ^ 25)
theorem witness_port_writes : Writes host up ∧ up.ops = [] ∧ captureOk capture.toNat = true ∧ up.captureOn = none ∧ captureOk 0 = false ∧
    bits (0 : BitVec 64).toNat 23 9 = 0 ∧ bits (0 : BitVec 64).toNat 48 16 = 0 ∧ up.obj 0x3000 6 ≠ 1 ∧ bit up.fab.db 0 = false ∧
    bit ({ up with fab := { up.fab with db := 1 } } : State).fab.db 0 = true ∧ bits (2 ^ 31 : BitVec 64).toNat 23 9 ≠ 0 :=
  ⟨writes_host, by decide +kernel⟩
/-- A commit of the first 8 KiB of staging. -/
def commit : BitVec 128 := BitVec.ofNat 128 (8192 * 2 ^ 32)
/-- Bank 1 holds a bundle too; a commit is under way in another state. -/
def twoBanks : State := { up with fw := { up.fw with bankState1 := 2 } }
theorem witness_firmware_writes : Writes host twoBanks ∧ (101 : BitVec 8).toNat < 102 ∧ 102 ≤ (102 : BitVec 8).toNat ∧
    bits commit.toNat 64 64 = 0 ∧ bits commit.toNat 0 32 % 4096 = 0 ∧ bits commit.toNat 0 32 + bits commit.toNat 32 32 ≤ stagingSize ∧
    up.committing = false ∧ up.activating = false ∧ up.targetBank.isSome = true ∧
    ({ up with fw := { up.fw with commitSt := 1 } } : State).committing = true ∧ twoBanks.activationRefusal 101 1 = none ∧ twoBanks.bankOf 101 ≠ 1 ∧
    up.activationRefusal 0 1 = some 1 ∧ up.activating = false ∧ up.strapBoot ≠ 2 ∧
    ({ up with fw := { up.fw with map := [(5, 1)] } } : State).targetBank = none ∧ twoBanks.committing = false ∧ twoBanks.activating = false :=
  ⟨writes_host, by decide +kernel⟩
/-- Bring-up step 3 of a boot over the host link. -/
def hostBoot : State := { up with rst := { up.rst with straps := 2, step := 3 } }
theorem witness_boot_load : Writes host hostBoot ∧ hostBoot.strapBoot = 2 ∧ hostBoot.rst.step = 3 := ⟨writes_host, by decide⟩
theorem test_boot_load : (next (exec (.bootLoad host commit) hostBoot)).fw.commitReason = 4 := by decide +kernel
theorem test_activate : (next (exec (.fwActivate host 0x165) twoBanks)).fw.actCurrent = 101 := by decide +kernel

/-- 5800:02 names plane 17, which is in reset in the second state. -/
def named : State := { up with dict := { up.dict with objs := [(0x580002, 3 + 17 * 256)] } }
/-- The plane is in reset. -/
def namedReset : State := { named with rst := { named.rst with blocks := [{ kind := 3, num := 17, since := 5 }] } }
theorem witness_reset_requests : Writes host named ∧ bits (named.obj 0x5800 2) 0 8 = 3 ∧ bits (named.obj 0x5800 2) 8 8 = 17 ∧ blockOk 3 17 = true ∧
    named.blockReset 3 17 = false ∧ (3, 17) ∉ named.rst.requests ∧ namedReset.blockReset 3 17 = true ∧ up.devState = 3 ∧
    (∀ e ∈ up.ctxs, e.2.st = .idle) ∧ hostBoot.devState ≠ 3 ∧ up.runs procPower = true :=
  ⟨writes_host, by decide +kernel⟩
theorem witness_field_requests : Writes (.field 9 1 4) up ∧ up.runs procSecurity = true := ⟨writes_field, by decide⟩
theorem test_standby : (next (exec (.standbyRequest host) up)).pwr.state = 2 := by decide +kernel

/-- An option command of kind 1 with this device's serial number and a challenge of zeros. -/
def option1 : BitVec 1280 := BitVec.ofNat 1280 (281480451867471 + Config.serial % 18446744073709551616 * 18446744073709551616)
/-- The device whose challenge it answers. -/
def challenged : State := { up with sec := { up.sec with challenge := List.replicate 32 0 } }
theorem witness_security : Writes host challenged ∧ challenged.runs procSecurity = true ∧ challenged.sec.floorNv ≤ (0 : BitVec 32).toNat ∧
    (∀ x ∈ challenged.mappedVersions, (0 : BitVec 32).toNat ≤ x) ∧ challenged.optionForm (0 : BitVec 1280).toNat = some 1 ∧ challenged.sec.attest ≠ 1 ∧
    (0 : BitVec 32).toNat < ({ up with sec := { up.sec with floorNv := 1 } } : State).sec.floorNv ∧
    ({ up with sec := { up.sec with attest := 1 } } : State).sec.attest = 1 :=
  ⟨writes_host, by decide +kernel⟩
set_option exponentiation.threshold 1300 in
theorem witness_option_form : challenged.optionForm option1.toNat = none := by
  have hs : Config.serial % 18446744073709551616 < 18446744073709551616 := Nat.mod_lt _ (by norm_num)
  have e : option1.toNat = 281480451867471 + Config.serial % 18446744073709551616 * 18446744073709551616 := by
    unfold option1
    rw [BitVec.toNat_ofNat]
    apply Nat.mod_eq_of_lt
    have p : 2 ^ 128 ≤ 2 ^ 1280 := Nat.pow_le_pow_right Nat.two_pos (by decide)
    generalize 2 ^ 1280 = m at p ⊢
    generalize Config.serial % 18446744073709551616 = x at hs ⊢
    norm_num at p
    omega
  have q : Config.serial % 2 ^ 64 = Config.serial % 18446744073709551616 := by norm_num
  unfold State.optionForm
  rw [e, q]
  generalize Config.serial % 18446744073709551616 = x at hs ⊢
  have b : ∀ n lo w, bits n lo w = n / 2 ^ lo % 2 ^ w := by intro n lo w; simp [bits, Nat.shiftRight_eq_div_pow]
  have f0 : bits (281480451867471 + x * 18446744073709551616) 0 32 = 0x4658434F := by rw [b]; norm_num; omega
  have f1 : bits (281480451867471 + x * 18446744073709551616) 32 8 = 1 := by rw [b]; norm_num; omega
  have f2 : bits (281480451867471 + x * 18446744073709551616) 48 8 = 1 := by rw [b]; norm_num; omega
  have f3 : bits (281480451867471 + x * 18446744073709551616) 56 8 = 0 := by rw [b]; norm_num; omega
  have f4 : bits (281480451867471 + x * 18446744073709551616) 64 64 = x := by rw [b]; norm_num; omega
  have big : ∀ lo, 128 ≤ lo → ∀ w, bits (281480451867471 + x * 18446744073709551616) lo w = 0 := by
    intro lo hl w
    rw [b, Nat.div_eq_of_lt, Nat.zero_mod]
    exact lt_of_lt_of_le (b := 2 ^ 128) (by norm_num; omega) (Nat.pow_le_pow_right (by norm_num) hl)
  rw [f0, f1, f2, f3, f4, big 416 (by norm_num), big 128 (by norm_num)]
  simp
  decide

/-- A release key whose secret is 1, in slots 0 and 1; security version 1 in bank 0; debug level 1; a challenge of zeros. -/
def keyed : State := { up with
  sec := { up.sec with challenge := List.replicate 32 0, keys := [(0, pointBytes eccGx eccGy), (1, pointBytes eccGx eccGy)], floorSteps := 3 }
  fw := { up.fw with bundles := [(0, { secVersion := 1 })] }
  rst := { up.rst with options := 2 ^ 24 + 2 ^ 25 + 1 } }
/-- An option command of a kind and an argument for the unit of serial number 5, signed with the key of slot 0. -/
def signed (kind arg sig : Nat) : BitVec 1280 := BitVec.ofNat 1280 (0x4658434F + 2 ^ 32 + 2 ^ 48 * kind + 2 ^ 64 * 5 + 2 ^ 384 * arg + 2 ^ 512 * sig)
/-- A command of each kind. -/
def signedAll : List (BitVec 1280) := [
  signed 1 1 865532761397539875921448283075101992878946847615130077309601161080443542512293175650488334984660233869384554891607949896433636617304471246023966873538373916776008871361581223454259718370470230333045636501521493156275532763561190710,
  signed 2 1 221495380668635729029836217067878937393212559913081877539416396358638457816514914097591288294556218438595485109210112693822483314774399452196917987138783900391105378072119290095806569874180593287867903764379149928430787409729463307,
  signed 3 1 178422424772283392812075844062656523622341064339640438597348317445098136474059644915704500526378999624847478953892684894629697327522865467767648710114306679205825414452646106188575048496567490894540043730179490808579554660490400583,
  signed 4 0 218848420445374216513828784994162074171572418469684178488429163206933530885914294582268125981595639607143659483320081745566362187142498731342320364351173337760296723984059177961045528577462854345477517165482900450214740094515517046]
set_option exponentiation.threshold 1300 in
/-- What OptionCommandsApplyOnceSigned asks, by commands for the unit of serial number 5: the serial number is a constant without a body, so a
command for a unit can only be written out for a number named. -/
theorem witness_signed (h : Config.serial % 2 ^ 64 = 5) : Writes host keyed ∧ keyed.runs procSecurity = true ∧
    signedAll.all (fun c => decide (keyed.optionForm c.toNat = none) && keyed.optionSigned c.toNat && decide (keyed.optionRule c.toNat = none)) = true ∧
    signedAll.map (fun c => bits c.toNat 48 8) = [1, 2, 3, 4] := by
  refine ⟨writes_host, by decide, ?_, by decide +kernel⟩
  simp only [State.optionForm, h]
  decide +kernel

/-! ### The host link -/

/-- A host frame header with tag 3: its fields, its type and its tcrc over the header and the data. -/
def hdr (n : Nat) (data : List Byte) : BitVec 256 := BitVec.ofNat 256 (n + 3 * 2 ^ 12 + 2 ^ 224 * crc32c (leBytes 28 (n + 3 * 2 ^ 12) ++ data))
/-- PRD of 4 bytes of 0000:01. -/
def prd : BitVec 256 := hdr (1 + 4 * 2 ^ 32 + 2 ^ 80) []
/-- PRD of an index that holds no object. -/
def prdNone : BitVec 256 := hdr (1 + 4 * 2 ^ 32 + 0x0999 * 2 ^ 64) []
/-- PRD with a length of 0, which no PRD has. -/
def prdBad : BitVec 256 := hdr 1 []
/-- The data of a PWR of fp.silent_ms. -/
def four : List Byte := [0x2A, 0, 0, 0]
/-- PWR of 4 bytes to 0500:02. -/
def pwr : BitVec 256 := hdr (2 + 4 * 2 ^ 32 + 0x0500 * 2 ^ 64 + 2 * 2 ^ 80) four
theorem witness_host_objects : (Reaches (.host (bits prd.toNat 12 12)) up ∧ Reaches (.host (bits prdNone.toNat 12 12)) up ∧
    Reaches (.host (bits prdBad.toNat 12 12)) up ∧ Reaches (.host (bits pwr.toNat 12 12)) up) ∧
    (bits prd.toNat 0 8 = 1 ∧ badHeader prd.toNat = false ∧ tcrcOk prd.toNat [] = true ∧ objExists 0 1 = true ∧ bits prd.toNat 80 8 = 1 ∧
      bits prd.toNat 64 16 = 0 ∧ (objRow 0 1).map (·.1.acc) ≠ some 2 ∧ up.mustWait 0 1 = none) ∧
    (bits prdNone.toNat 0 8 = 1 ∧ badHeader prdNone.toNat = false ∧ tcrcOk prdNone.toNat [] = true ∧
      objExists (bits prdNone.toNat 64 16) (bits prdNone.toNat 80 8) = false ∧ up.mustWait (bits prdNone.toNat 64 16) (bits prdNone.toNat 80 8) = none) ∧
    (bits pwr.toNat 0 8 = 2 ∧ badHeader pwr.toNat = false ∧ tcrcOk pwr.toNat four = true ∧ four.length = bits pwr.toNat 32 13 ∧ bits pwr.toNat 88 24 = 0) ∧
    (bits (1 : BitVec 256).toNat 0 8 = 1 ∧ tcrcOk (1 : BitVec 256).toNat [] = false) ∧
    (bits prdBad.toNat 0 8 = 1 ∧ badHeader prdBad.toNat = true ∧ tcrcOk prdBad.toNat [] = true) :=
  ⟨⟨reaches_host, reaches_host, reaches_host, reaches_host⟩, by decide +kernel⟩
theorem witness_host_object_value : ∃ b, up.value 0 1 = some b := ⟨_, rfl⟩
theorem test_crc32c_check_value : crc32c [0x31, 0x32, 0x33, 0x34, 0x35, 0x36, 0x37, 0x38, 0x39] = 0xE3069283 := by decide +kernel

/-- MRD of 64 bytes at physical address 4096, in stack 1. -/
def mrd : BitVec 256 := hdr (3 + 2 ^ 8 + 4096 * 2 ^ 64 + 64 * 2 ^ 192) []
/-- MRD of an address between DRAM and staging. -/
def mrdNone : BitVec 256 := hdr (3 + 2 ^ 8 + dramEnd * 2 ^ 64 + 8 * 2 ^ 192) []
/-- MWR of 4 bytes at physical address 4096. -/
def mwr : BitVec 256 := hdr (4 + 2 ^ 8 + 4 * 2 ^ 32 + 4096 * 2 ^ 64) four
/-- MWR of an address between DRAM and staging. -/
def mwrNone : BitVec 256 := hdr (4 + 2 ^ 8 + 4 * 2 ^ 32 + dramEnd * 2 ^ 64) four
theorem witness_host_memory : (Running up ∧ up.hl.state = .up ∧ up.hl.held = []) ∧
    (badHeader mrd.toNat = false ∧ bits mrd.toNat 8 2 = 1 ∧ bits mrd.toNat 0 8 = 3 ∧ tcrcOk mrd.toNat [] = true ∧
      badSpan 1 (bits mrd.toNat 64 64) (bits mrd.toNat 192 13) = false ∧ up.hostWaits mrd.toNat [] = false ∧ physOk (bits mrd.toNat 64 64) = true ∧
      physOk (bits mrd.toNat 64 64 + bits mrd.toNat 192 13 - 1) = true ∧ up.mem.errs (bits mrd.toNat 64 64) (bits mrd.toNat 192 13) = false) ∧
    (badHeader mrdNone.toNat = false ∧ bits mrdNone.toNat 0 8 = 3 ∧ bits mrdNone.toNat 8 2 = 1 ∧ tcrcOk mrdNone.toNat [] = true ∧
      badSpan 1 (bits mrdNone.toNat 64 64) (bits mrdNone.toNat 192 13) = false ∧ up.hostWaits mrdNone.toNat [] = false ∧
      physOk (bits mrdNone.toNat 64 64) = false) :=
  ⟨⟨running_up, by decide, by decide⟩, by decide +kernel⟩
theorem witness_host_memory_write :
    (badHeader mwr.toNat = false ∧ bits mwr.toNat 8 2 = 1 ∧ bits mwr.toNat 0 8 = 4 ∧ tcrcOk mwr.toNat four = true ∧ four.length = bits mwr.toNat 32 13 ∧
      badSpan 1 (bits mwr.toNat 64 64) 4 = false ∧ up.hostWaits mwr.toNat four = false ∧ physOk (bits mwr.toNat 64 64) = true ∧
      physOk (bits mwr.toNat 64 64 + 4 - 1) = true ∧ up.mem.storeErrs (bits mwr.toNat 64 64) 4 = false ∧ up.mem.wf = true) ∧
    (badHeader mwrNone.toNat = false ∧ bits mwrNone.toNat 8 2 = 1 ∧ bits mwrNone.toNat 0 8 = 4 ∧ tcrcOk mwrNone.toNat four = true ∧
      four.length = bits mwrNone.toNat 32 13 ∧ badSpan 1 (bits mwrNone.toNat 64 64) 4 = false ∧ up.hostWaits mwrNone.toNat four = false ∧
      physOk (bits mwrNone.toNat 64 64) = false) := by decide +kernel
theorem test_mwr : (next (exec (.mwr mwr four) up)).mem.bytes = [(4096, 0x2A)] := by decide +kernel

/-- CPL with tag 3 of 4 bytes, of none with an error, of a write. -/
def cpl : BitVec 256 := hdr (7 + 4 * 2 ^ 32) four
/-- CPL with an error status. -/
def cplErr : BitVec 256 := hdr (7 + 2 ^ 24) []
/-- Requests with tag 3: a read of context 5, and a write of a retired epoch. -/
def asked : State := { up with reqs := [{ ctx := 5, path := 2, len := 4, tag := 3, time := 1000000 }] }
/-- The write of a retired epoch. -/
def askedEpoch : State := { up with reqs := [{ ctx := 64, path := 2, len := 4, tag := 3, write := true }] }
theorem witness_completions : (Running asked ∧ Running askedEpoch) ∧
    (asked.hl.state = .up ∧ bits cpl.toNat 0 8 = 7 ∧ badCpl cpl.toNat = false ∧ tcrcOk cpl.toNat four = true ∧ four.length = bits cpl.toNat 32 13 ∧
      asked.hostReq (bits cpl.toNat 12 12) = some { ctx := 5, path := 2, len := 4, tag := 3, time := 1000000 } ∧ bits cpl.toNat 24 8 = 0) ∧
    (bits cplErr.toNat 0 8 = 7 ∧ badCpl cplErr.toNat = false ∧ tcrcOk cplErr.toNat [] = true ∧ 0 = bits cplErr.toNat 32 13 ∧ bits cplErr.toNat 12 12 = 3 ∧
      bits cplErr.toNat 24 8 ≠ 0) ∧
    askedEpoch.hostReq (bits cplErr.toNat 12 12) = some { ctx := 64, path := 2, len := 4, tag := 3, write := true } ∧
    up.hostReq (bits cpl.toNat 12 12) = none ∧ asked.hostReq (3 : BitVec 12).toNat = some { ctx := 5, path := 2, len := 4, tag := 3, time := 1000000 } ∧
    asked.time < 1000000 + asked.obj 0x0400 0x0B ∧ 1000000 + asked.obj 0x0400 0x0B ≤ ({ asked with time := 2 ^ 50 } : State).time :=
  ⟨⟨running_up, running_up⟩, by decide +kernel⟩

/-- The link is Down, Locking with every lane, Locking with one. -/
def down : State := { up with hl := { up.hl with state := .down, lanes := 0 } }
/-- All four lanes are locked and the peer was heard. -/
def locking : State := { up with hl := { up.hl with state := .locking, peerSeen := true } }
theorem witness_link : (Running down ∧ Running locking) ∧ 4 ≤ down.rst.step ∧ down.hl.state ≠ .up ∧ locking.hl.state = .locking ∧ locking.hl.lanes = 15 ∧
    locking.hl.peerSeen = true ∧ down.hl.lanes ≠ 15 ∧ up.hl.lanes.getLsbD (3 : Fin 4).val = true ∧ locking.hl.lanes.getLsbD (3 : Fin 4).val = true ∧ locking.hl.state ≠ .up ∧
    locking.hl.lanes ≠ BitVec.ofNat 4 (2 ^ (3 : Fin 4).val) ∧ ({ locking with hl := { locking.hl with lanes := 8 } } : State).hl.lanes = BitVec.ofNat 4 (2 ^ (3 : Fin 4).val) ∧ down.hl.lanes.getLsbD (0 : Fin 4).val = false :=
  ⟨⟨running_up, running_up⟩, by decide⟩
/-- A control word: fseq 9, the last frame acknowledged 4. -/
def ctl : BitVec 64 := BitVec.ofNat 64 (9 + 4 * 2 ^ 12)
/-- Three frames are uncovered; fseq 9 is next. -/
def framed : State := { up with hl := { up.hl with rxNext := 9, txNext := 6, uncovered := 3, lastCover := 5 } }
theorem witness_frames : Running framed ∧ framed.hl.state = .up ∧ bits ctl.toNat 34 6 = 0 ∧ bits ctl.toNat 0 12 = framed.hl.rxNext ∧ bit ctl.toNat 24 = false ∧
    framed.hl.gap = false ∧ ({ framed with hl := { framed.hl with gap := true } } : State).hl.gap = true ∧ bits (0 : BitVec 64).toNat 34 6 = 0 ∧
    bits (0 : BitVec 64).toNat 0 12 ≠ framed.hl.rxNext ∧ (bits (0 : BitVec 64).toNat 0 12 + 1) % 4096 ≠ framed.hl.rxNext ∧ 0 < framed.hl.uncovered ∧
    framed.hl.lastCover + 4800 ≤ framed.time ∧ framed.hl.replays < 7 ∧ ({ framed with hl := { framed.hl with replays := 7 } } : State).hl.replays = 7 :=
  ⟨running_up, by decide +kernel⟩
theorem test_frame_frees_two : (next (exec (.linkFrame true ctl 1 1) framed)).hl.uncovered = 1 := by decide +kernel
theorem test_eighth_replay : (next (exec .linkReplayTimeout ({ framed with hl := { framed.hl with replays := 7 } } : State))).hl.state = .down := by decide +kernel

/-- A record waits, a ring of 8 records stands at host address 4096 with one unread. -/
def ringed : State := { up with
  dict := { up.dict with objs := [(0x40008, 4096), (0x40009, 8)] }
  hl := { up.hl with evtQueue := [{ seq := 7 }], evtTail := 1, evtHead := 0 } }
theorem witness_events_to_host : Running ringed ∧ ringed.hl.state = .up ∧ ringed.hl.evtQueue = [{ seq := 7 }] ∧ ringed.hl.session = true ∧ ringed.hl.mwrOut = [] ∧
    ringed.obj 0x0400 9 ≠ 0 ∧ (ringed.hl.evtTail + 2 ^ 32 - ringed.hl.evtHead) % 2 ^ 32 < ringed.obj 0x0400 9 ∧
    (ringed.hl.peerRsp + 4096 - ringed.hl.sentRsp % 4096) % 4096 ≠ 0 ∧ 17 ≤ ringed.hl.peerRsp ∧ closed.hl.session = false ∧ ringed.hl.held = [] ∧
    (1 : BitVec 64).toNat < 2 ^ 32 ∧ (ringed.hl.evtTail + 2 ^ 32 - (1 : BitVec 64).toNat) % 2 ^ 32 ≤ ringed.obj 0x0400 9 ∧
    ringed.obj 0x0400 9 < (ringed.hl.evtTail + 2 ^ 32 - (2 : BitVec 64).toNat) % 2 ^ 32 ∧ 2 ^ 32 ≤ (2 ^ 32 : BitVec 64).toNat :=
  ⟨running_up, by decide +kernel⟩
theorem test_event_delivered : (next (exec .evt ringed)).hl.evtTail = 2 := by decide +kernel

/-- Queue 3 has its rings, with 1,023 ops submitted and none retired. -/
def rings : State := { up with queues := [(3, { tail := 1023, submitted := 1023, confRing := 0, confCpl := 65536 })] }
theorem witness_doorbells : Running rings ∧ rings.hl.state = .up ∧ rings.hl.held = [] ∧ closed.hl.session = false ∧ rings.hl.session = true ∧
    (rings.queue 0).confRing = 0xFFFFFFFF ∧ (rings.queue 3).confRing ≠ 0xFFFFFFFF ∧ (rings.queue 3).confCpl ≠ 0xFFFFFFFF ∧
    2 ^ 16 ≤ (2 ^ 16 : BitVec 64).toNat ∧
    (1024 + 65536 - (rings.queue 3).tail % 65536) % 65536 + ((rings.queue 3).submitted - (rings.queue 3).done) ≤ 1024 ∧
    1024 < (1025 + 65536 - (rings.queue 3).tail % 65536) % 65536 + ((rings.queue 3).submitted - (rings.queue 3).done) ∧
    (1023 + 65536 - (rings.queue 3).tail % 65536) % 65536 = 0 :=
  ⟨running_up, by decide +kernel⟩
theorem test_doorbell_fits : (next (exec (.queueDb 3 3 1024) rings)).queue 3 = { tail := 1024, submitted := 1024, confRing := 0, confCpl := 65536 } := by decide +kernel
theorem test_doorbell_overrun : (next (exec (.queueDb 3 3 1025) rings)).flt.counters = [(11, 1)] := by decide +kernel

/-- Context 5 halted with fault 2 reading device virtual address 0, which a 2 MiB page at physical 3 * 2 MiB maps. -/
def faulted : State := { up with
  dict := { up.dict with objs := [(0x50003, 0), (0x300004, 1 + 256 + 65536)] }
  mem := { up.mem with bytes := [(0, 1), (1, 0x20), (8192, 0x32)] }
  ctxs := [(5, { desc := sdesc 0, st := .halted, faultSeq := 2, run := some {} })] }
theorem test_device_reset_message : (next (exec .deviceResetMessage ({ up with hl := { up.hl with streak := (1, 0, 8) } } : State))).rst.asserted = some 2 := by
  decide +kernel
theorem witness_reset_messages : Running up ∧ (({ up with hl := { up.hl with streak := (1, 0, 8) } } : State).hl.streak.1 = 1) ∧
    8 ≤ ({ up with hl := { up.hl with streak := (1, 0, 8) } } : State).hl.streak.2.2 ∧ up.hl.streak.2.2 < 8 ∧
    ({ up with hl := { up.hl with streak := (2, 101, 8) } } : State).hl.streak.2.1 < 102 ∧ 102 ≤ ({ up with hl := { up.hl with streak := (2, 102, 9) } } : State).hl.streak.2.1 :=
  ⟨running_up, by decide⟩
/-- The place that device virtual address 0 has in `faulted`. -/
def placed : Bool := match faulted.translateFresh false 0 with
  | .ok _ => true
  | .error _ => false
theorem witness_resume : Running faulted ∧ faulted.hl.state = .up ∧ faulted.hl.held = [] ∧ (2 : BitVec 64).toNat < 2 ^ 16 ∧
    (faulted.ctx (5 : Fin 64).val).run = some {} ∧ (faulted.ctx (5 : Fin 64).val).st = .halted ∧ (2 : BitVec 64).toNat = (faulted.ctx (5 : Fin 64).val).faultSeq ∧
    (faulted.ctx 5).addr {} 0 = 0 ∧ placed = true ∧ (1 : BitVec 64).toNat ≠ (faulted.ctx (5 : Fin 64).val).faultSeq :=
  ⟨running_up, by decide +kernel⟩
theorem test_stale_resume : (next (exec (.resumeDb 3 5 1) faulted)).flt.counters = [(0x11, 1)] := by decide +kernel

/-! ### The field port -/

/-- The identifier of a frame of a service from node 9 to this node. -/
def fid (service : Nat) : BitVec 29 := BitVec.ofNat 29 (service * 2 ^ 16 + 9 * 2 ^ 8 + up.obj 0x0500 4)
/-- A field-port request body: transaction 7, object 0500:02, flags and length. -/
def body (flags len : Byte) : List Byte := [7, 0, 0, 5, 2, len, flags, 0]
/-- A write transfer of 100 bytes is open; a read of 100 bytes has sent its first segment. -/
def segWrite : State := { up with fp := { up.fp with seg := some { node := 9, tid := 7, write := true, index := 0x500, sub := 2, total := 200 } } }
/-- The read transfer. -/
def segRead : State := { up with fp := { up.fp with seg := some { node := 9, tid := 7, total := 100, next := 1, data := List.replicate 100 1 } } }
/-- The read has sent its last segment. -/
def segEnd : State := { up with fp := { up.fp with seg := some { node := 9, tid := 7, total := 100, next := 2, data := List.replicate 100 1 } } }
theorem witness_fp_frames : (Running up ∧ Running segWrite ∧ Running segRead) ∧ up.fp.state = .active ∧ up.runs procBarker = true ∧ up.fp.rsp.length < 32 ∧
    bits (fid 1).toNat 0 8 = up.obj 0x0500 4 ∧ bits (fid 1).toNat 8 8 = 9 ∧ bits (fid 1).toNat 8 8 ≠ up.obj 0x0500 4 ∧ bits (fid 1).toNat 16 8 = 1 ∧
    bits (fid 3).toNat 16 8 = 3 ∧ up.winh = false ∧ ({ up with fp := { up.fp with winhPin := true } } : State).winh = true ∧
    pByte (body 0 4 ++ four) 5 ≤ 56 ∧ 8 + pByte (body 0 4 ++ four) 5 ≤ (body 0 4 ++ four).length ∧ bits (fid 5).toNat 16 8 = 5 ∧
    pByte (body 1 0 ++ four) 6 % 2 = 1 ∧ up.fp.seg = none ∧ 12 ≤ (body 1 0 ++ four).length ∧ 0 < leAt (body 1 0 ++ four) 8 4 ∧ leAt (body 1 0 ++ four) 8 4 ≤ 65535 ∧
    leAt (body 1 0 ++ [0xFF, 0xFF, 0, 0]) 8 4 = 65535 :=
  ⟨⟨running_up, running_up, running_up⟩, by decide +kernel⟩
theorem witness_fp_segments : bits (fid 7).toNat 16 8 = 7 ∧ ((7 : Byte) :: 0 :: 0 :: 0 :: List.replicate 60 (5 : Byte)).length = 64 ∧
    segWrite.fp.seg = some { node := 9, tid := 7, write := true, index := 0x500, sub := 2, total := 200 } ∧ bits (fid 8).toNat 16 8 = 8 ∧
    pByte [7, 0, 0, 0] 0 = 7 ∧ pByte [7, 0, 0, 0] 2 = 0 ∧ pByte [7, 0, 0, 0] 3 % 2 = 0 ∧ 60 * 1 < 100 ∧ 100 ≤ 60 * 2 ∧
    segRead.fp.seg.map (·.next) = some 1 ∧ segEnd.fp.seg.map (·.next) = some 2 ∧ pByte [7, 0, 1, 0] 2 = (2 - 1) % 256 ∧
    bits (fid 9).toNat 16 8 = 9 ∧ bits (fid 11).toNat 16 8 = 0x0B ∧ bit up.rst.options 24 = true ∧
    pByte (body 0 0 ++ [BitVec.ofNat 8 (up.obj 0x0500 4), BitVec.ofNat 8 (up.obj 0x0500 4 ^^^ 0xFF)]) 8 = up.obj 0x0500 4 ∧
    pByte (body 0 0 ++ [BitVec.ofNat 8 (up.obj 0x0500 4), BitVec.ofNat 8 (up.obj 0x0500 4 ^^^ 0xFF)]) 9 = up.obj 0x0500 4 ^^^ 0xFF := by decide +kernel
theorem witness_fp_discards : bits (0 : BitVec 29).toNat 8 8 = 0 ∧ silent.fp.state ≠ .active ∧ bits (fid 1).toNat 0 8 = silent.obj 0x0500 4 := by decide +kernel
theorem test_fp_segment : (next (exec (.segment (fid 7) ((7 : Byte) :: 0 :: 0 :: 0 :: List.replicate 60 (5 : Byte))) segWrite)).fp.seg.map (·.next) = some 1 := by
  decide +kernel
theorem test_fp_read_ends : (next (exec (.segAck (fid 8) [7, 0, 1, 0]) segEnd)).fp.seg = none := by decide +kernel
theorem test_fp_silent_counts : (next (exec (.read (fid 1) (body 0 0)) silent)).flt.counters = [(0x2E, 1)] := by decide +kernel

/-- Frames and tokens wait. -/
def bus : State := { up with fp := { up.fp with rsp := [{ service := 2, node := 9 }], tokens := 2, refillAt := some 900000, txErr := 248 } }
/-- Only an event waits. -/
def busEvent : State := { bus with fp := { bus.fp with rsp := [], evt := [{ seq := 3 }] } }
theorem witness_fp_transmit : Running bus ∧ bus.fp.state = .active ∧ bus.fp.silentPin = false ∧ bus.fp.txErr ≤ 255 ∧ 0 < bus.fp.tokens ∧ bus.fp.rsp = [{ service := 2, node := 9 }] ∧
    busEvent.fp.rsp = [] ∧ busEvent.fp.evt = [{ seq := 3 }] ∧ ({ bus with fp := { bus.fp with tokens := 0 } } : State).fp.tokens = 0 ∧ up.fp.rsp = [] ∧ up.fp.evt = [] ∧ bus.fp.refillAt = some 900000 ∧
    900000 ≤ bus.time ∧ bus.fp.tokens < bus.obj 0x0500 9 ∧ ({ bus with time := 899999 } : State).time < 900000 :=
  ⟨running_up, by decide +kernel⟩
theorem test_frame_error : (next (exec (.frameTransmit .error) bus)).fp.txErr = 256 := by decide +kernel
theorem test_token : (next (exec .tokenRefill bus)).fp.tokens = 3 := by decide +kernel

/-- The transmit error counter has passed its limit. -/
def beyond : State := { bus with fp := { bus.fp with txErr := 256 } }
/-- Recovering from bus-off; Pinned and waiting for the bus. -/
def recovering : State := { up with fp := { up.fp with state := .busOff, recovering := true } }
/-- Pinned, with FB_SILENT released. -/
def pinned : State := { up with fp := { up.fp with state := .pinned, pinnedWait := true } }
/-- A transfer idle since time 0, and a reset accepted at time 0, 2 s ago. -/
def late : State := { segWrite with time := 2400000000, fp := { segWrite.fp with resetAt := some 0 } }
theorem witness_fp_confinement : (Running beyond ∧ Running recovering ∧ Running pinned ∧ Running late) ∧ 255 < beyond.fp.txErr ∧ beyond.fp.state = .active ∧
    up.fp.txErr ≤ 255 ∧ recovering.fp.recovering = true ∧ recovering.fp.state = .busOff ∧ pinned.fp.pinnedWait = true ∧ pinned.fp.state = .pinned ∧
    up.fp.pinnedWait = false ∧ segWrite.time < 0 + 1200000000 ∧ 0 + 1200000000 ≤ late.time ∧ late.fp.resetAt = some 0 ∧ 0 + 120000000 ≤ late.time ∧
    late.fp.resetSent = false ∧ ({ late with time := 5 } : State).time < 0 + 120000000 ∧
    ([] ++ List.replicate (min (255 : Fin 256).val 128) up.time).length ≤ 128 ∧ up.obj 0x0500 0x0B < 128 ∧ 0 ≤ up.obj 0x0500 0x0B :=
  ⟨⟨running_up, running_up, running_up, running_up⟩, by decide +kernel⟩
theorem test_bus_off : (next (exec .busOff beyond)).fp.state = .busOff := by decide +kernel
theorem test_flag_limit : (next (exec (.flagLimit 255) up)).fp.state = .flagLimit ∧ (next (exec (.flagLimit 0) up)).fp.state = .active := by decide +kernel
theorem test_bus_idle : (next (exec .busIdleDetect pinned)).fp.state = .active := by decide +kernel
theorem test_fp_reset : (next (exec .fpResetExecute late)).rst.asserted = some 2 := by decide +kernel

/-! ### Digits, readings and accumulators -/

theorem test_reading_clean : convert true (256 + 8 * 512 + 2) = (0, .clean) ∧ convert false 259 = (0, .warn) ∧ convert false 260 = (0, .ambiguous) := by decide
theorem test_reading_clamped : convert true 0 = (-512, .ambiguous) ∧ convert false 100000 = (960, .ambiguous) := by decide
theorem test_digits : digitsOf 1 (-100) = [9, 12] ∧ digitVal true 9 = -7 ∧ digitVal false 12 = 12 := by decide
theorem witness_accumulator : (({} : Acc).overrange = false ∧ (0 : Int) ≤ 3 - ({} : Acc).exp ∧ 3 - ({} : Acc).exp ≤ 56) ∧
    ({} : Acc).count < 2 ^ 30 ∧ ({ ({} : Acc) with count := 2 ^ 30 } : Acc).count = 2 ^ 30 ∧ ({ ({} : Acc) with overrange := true } : Acc).overrange = true := by
  decide

/-! ### Ops -/

/-- Queue 2 has one op submitted and not admitted, of the descriptor given. -/
def submit (d : Nat) : State := { up with
  mem := up.mem.writeN stagingBase (leBytes 64 d)
  queues := [(2, { tail := 1, submitted := 1, confRing := 0, confCpl := 65536 })] }
/-- Whether a descriptor is one that DescriptorsAreAdmitted speaks of, of an opcode. -/
def plain (d op : Nat) : Bool :=
  decide ((submit d).nextDesc 2 = d) && (submit d).canAdmit 2 && !(submit d).slotErrs 2 ((submit d).queue 2).admitted && decide ((submit d).admitFault d = none) && !dInEpoch d && !dResume d && decide (dOpcode d = op)
/-- MVM of region 0, drained nowhere, with no save area. -/
def mvmD : Nat := 1 + 2 * 2 ^ 75 + (2 ^ 32 - 1) * 2 ^ 160
/-- MVM with a save area. -/
def mvmSave : Nat := 1 + 2 * 2 ^ 75
theorem witness_admit_passes : plain mvmD 1 = true ∧ plain (2 + 2 * 2 ^ 64 + 2 * 2 ^ 75 + (2 ^ 32 - 1) * 2 ^ 160 + 2 ^ 200) 2 = true ∧ plain 3 3 = true ∧
    plain (3 + 2 ^ 72) 3 = true ∧ dMode 3 = false ∧ dMode (3 + 2 ^ 72) = true ∧ plain 4 4 = true ∧ plain (5 + 2 ^ 84 + 2 ^ 88) 5 = true ∧ plain 6 6 = true := by decide +kernel
theorem witness_admit_moves : plain 7 7 = true ∧ plain (7 + 2 ^ 64) 7 = true ∧ plain (7 + 2 * 2 ^ 64) 7 = true ∧ plain (7 + 3 * 2 ^ 64) 7 = true ∧
    plain (7 + 4 * 2 ^ 64) 7 = true ∧ plain (7 + 5 * 2 ^ 64) 7 = true ∧ plain (8 + 64 * 2 ^ 160) 8 = true ∧ plain (9 + 2 ^ 80) 9 = true ∧
    plain 10 10 = true ∧ plain 11 11 = true ∧ plain 12 12 = true ∧ plain 13 13 = true := by decide +kernel
theorem witness_admit_no_op : Running (submit 13) ∧ (∀ x ∈ (submit 13).ops, ¬ (x.queue = (2 : Fin 4).val ∧ x.seq = ((submit 13).queue 2).admitted)) ∧
    (submit (13 + 2 ^ 100)).admitFault (13 + 2 ^ 100) = some 8 ∧ (submit (13 + 2 ^ 100)).slotErrs 2 0 = false ∧ (submit (13 + 2 ^ 100)).canAdmit 2 = true ∧ up.canAdmit 2 = false ∧
    ({ submit 13 with basin := { up.basin with run := false } } : State).canSchedule = false :=
  ⟨running_up, fun x h => absurd h (List.not_mem_nil), by decide +kernel⟩
theorem test_fence_admitted : ((next (exec (.fnc 2) (submit 13))).op 2 0).map (·.stage) = some .completed ∨
    ((next (exec (.fnc 2) (submit 13))).op 2 0).map (·.stage) = some .started := by decide +kernel
theorem test_bad_descriptor : ((next (exec (.fnc 2) (submit (13 + 2 ^ 100)))).op 2 0).map (fun x => (x.status, x.detail)) = some (1, 8) := by decide +kernel

/-- One admitted op of queue 2, slot 5. -/
def with1 (o : Op) : State := { up with ops := [o], epochSerial := 9, tokens := [(3, 4)] }
/-- An admitted op of a descriptor. -/
def opOf (d : Nat) : Op := { queue := 2, seq := 5, desc := d, kind := opKind (dOpcode d) }
/-- A failed op before it in its queue, on which it depends. -/
def failedBefore : State := { up with ops := [{ queue := 2, seq := 4, stage := .completed, status := 1 }, opOf (9 + 2 ^ 80 + 2 ^ 16)] }
/-- The op before it has not completed. -/
def waitBefore : State := { up with ops := [{ queue := 2, seq := 4 }, opOf (9 + 2 ^ 80 + 2 ^ 16)] }
/-- An open epoch 1. -/
def open1 : State := { with1 (opOf (11 + 2 ^ 64)) with epochs := [(1, { st := .opened })] }
theorem witness_deps : Running (with1 (opOf 1)) ∧ (∀ d ∈ [mvmD, 2, 3, 4, 13, 10, 9 + 3 * 2 ^ 64 + 4 * 2 ^ 80, 11 + 2 ^ 64],
      (with1 (opOf d)).slotOp (2 : Fin 4) (5 : Fin 1024) = some (opOf d) ∧ (with1 (opOf d)).op 2 (opOf d).seq = some (opOf d) ∧ (opOf d).stage = .admitted ∧
      (with1 (opOf d)).canSchedule = true ∧ (with1 (opOf d)).depsDone (opOf d) = true ∧ (with1 (opOf d)).depFailed (opOf d) = none) ∧
    failedBefore.depFailed (opOf (9 + 2 ^ 80 + 2 ^ 16)) = some 4 ∧ failedBefore.depsDone (opOf (9 + 2 ^ 80 + 2 ^ 16)) = true ∧
    waitBefore.depsDone (opOf (9 + 2 ^ 80 + 2 ^ 16)) = false := ⟨running_up, by decide +kernel⟩
theorem witness_deps_kinds : ((with1 (opOf 10)).epoch (dNamed 10)).st = .closed ∧ (opOf (9 + 3 * 2 ^ 64 + 4 * 2 ^ 80)).epoch = none ∧
    dCount (9 + 3 * 2 ^ 64 + 4 * 2 ^ 80) ≤ (with1 (opOf 9)).token (dToken (9 + 3 * 2 ^ 64 + 4 * 2 ^ 80)) ∧ up.casc.state ≠ .broken ∧ mwf 0 (with1 (opOf 9)).tokens = true ∧
    (open1.epoch (dNamed (11 + 2 ^ 64))).st = .opened ∧ (open1.epoch (dNamed (11 + 2 ^ 64))).doomed = false := by decide +kernel
theorem test_wait_takes : (next (exec (.opDepsComplete 2 5) (with1 (opOf (9 + 3 * 2 ^ 64 + 4 * 2 ^ 80))))).tokens = [] := by decide +kernel
theorem test_epoch_opens : ((next (exec (.opDepsComplete 2 5) (with1 (opOf 10)))).epoch 0).stamp = 72 := by decide +kernel
/-- A load of region 0, a stream of the whole ring image in context 0. -/
def loading1 : State := { with1 { opOf 3 with ready := true } with
  regions := [(0, region0)], ctxs := [(0, { desc := region0.mirrorBytes * 2 ^ 52 + 2 ^ 64 + 1 * 2 ^ 67 + 2 ^ 72 + 2 ^ 144 })] }
theorem witness_stream_arm : loading1.nextToArm = some { opOf 3 with ready := true } ∧ loading1.canSchedule = true ∧ loading1.blockReset 2 0 = false ∧ (opOf 3).mvm = none ∧
    (loading1.region (dRegion 3)).valid = true ∧ (opOf 3).stage = .admitted ∧ loading1.unfitUse { opOf 3 with ready := true } (loading1.usesOf { opOf 3 with ready := true }) = none ∧
    ((loading1.usesOf { opOf 3 with ready := true }).map CtxUse.extra).sum ≤ loading1.poolFree := by decide +kernel

/-- The vector of 64 elements of A4, all 1. -/
def vec : List Byte := leBytes 64 (headerOf 0 0 64) ++ List.replicate 32 0x11
/-- An MVM ready to start: region 0 resident, the input vector there. -/
def mvmOp (d : Nat) : Op := { opOf d with ready := true, armed := [0] }
/-- The device before it starts. -/
def ready1 (d : Nat) : State := { up with
  ops := [mvmOp d]
  regions := [(0, { region0 with st := .resident, hwmC := 64, hwmP := 64 })]
  ctxs := [(0, { st := .armed, run := some { need := 96, done := 96, data := vec } })]
  clusters := [(0, { base := .locked, loopsOn := true })] }
/-- The verdict that lets an op start with set 0. -/
def goes (s : State) (o : Op) : Bool := match s.atStart o with
  | .go k => decide (k = 0)
  | _ => false
/-- The device while it runs. -/
def running1 (d : Nat) : State := next (exec (.opStart 2 5) (ready1 d))
theorem witness_op_start : Running (ready1 mvmD) ∧ (ready1 mvmD).slotOp (2 : Fin 4) (5 : Fin 1024) = some (mvmOp mvmD) ∧ (mvmOp mvmD).waitsStart = true ∧
    (ready1 mvmD).canSchedule = true ∧ goes (ready1 mvmD) (mvmOp mvmD) = true ∧ (ready1 mvmD).basinFree (mvmOp mvmD) = true ∧
    (ready1 mvmD).nextToStart = some (mvmOp mvmD) ∧ (ready1 mvmD).feed (mvmOp mvmD) = some vec ∧
    (parseInput 1 vec).isSome = true ∧ dResume mvmD = false ∧
    (match ({ ready1 mvmD with regions := [] } : State).atStart (mvmOp mvmD) with | .err st _ => decide (st = 4) | _ => false) = true := ⟨running_up, by decide +kernel⟩
theorem test_op_start : (running1 mvmD).basin.running = some (2, 5) ∧ ((running1 mvmD).set 0).st = .filling := by decide +kernel

/-- What is asked of a running op with passes left, of the readings of its next pass, and of one that has taken them all. -/
def passHyps (s : State) : Bool := match s.issueOp with
  | some o => match o.mvm with
    | some m => !s.heldByFinishing && !m.reread && !s.holdsIssue o m && decide (m.next < m.bits) && s.mayIssue o
    | none => false
  | none => false
/-- A step of the running op's data, to reach the states that follow. -/
def runWith (s : State) (f : MvmRun → MvmRun) : State := { s with ops := s.ops.map (fun o => { o with mvm := o.mvm.map f }) }
/-- Every pass taken. -/
def passed (d : Nat) : State := runWith (running1 d) (fun m => { m with next := m.bits })
/-- A stopped issue, an integer of tile 128 column 4 ambiguous, a repeat of pass 1. -/
def ambiguous1 (d : Nat) : State := runWith (running1 d) (fun m => { m with next := 2, fresh := [{ pass := 1, d := 4, tier := 1, group := 0, col := 4 }], repeats := [{ pass := 1, cols := [4] }] })
/-- What PASS_REPEAT asks. -/
def repeatable (d : Nat) : State := runWith (running1 d) (fun m => { m with next := 2, repeats := [{ pass := 1, cols := [4] }], stopIssue := true })
/-- Its hypotheses. -/
def repeatHyps (s : State) : Bool := match s.passOp with
  | some o => match o.mvm with
    | some m => decide (m.lowestRepeat = some { pass := 1, cols := [4] }) && !m.reread && m.stopIssue && decide (m.freshFirst = []) && s.mayIssue o &&
      decide (s.litTilesWith o (fun t => t.pendingMap.any (fun m => decide (m.why ≠ .carousel))) = [])
    | none => false
  | none => false
/-- The Basin has accepted an op of queue 1 behind one whose passes are all issued. -/
def overlap (d : Nat) : State := next (exec (.opStart 1 5) { passed d with
  ops := { opOf (d + 2 * 2 ^ 72) with queue := 1, ready := true, armed := [0] } :: (passed d).ops })
/-- An integer of the op that finishes has stopped issue. -/
def holding : State := runWith (overlap mvmD) (fun m => if m.set = 0 then { m with stopIssue := true, repeats := [{ pass := 1, cols := [4] }] } else m)
theorem witness_passes : Running (running1 mvmD) ∧ passHyps (running1 mvmD) = true ∧ (passed mvmD).runningOp.bind (·.mvm) ≠ none ∧
    ((ambiguous1 mvmD).ambiguousOp (128 : Fin 25088)).bind (·.mvm) = ((ambiguous1 mvmD).op 2 5).bind (·.mvm) ∧ repeatHyps (repeatable mvmD) = true ∧
    (repeatable mvmD).flt.starts = [] ∧ (running1 mvmD).basinFree (mvmOp mvmD) = false ∧ holding.heldByFinishing = true ∧
    (({ up with tiles := [(7, { pendingMap := [{ col := none, why := .idle }] })] } : State).tile (7 : Fin 25088).val).pendingMap = [{ col := none, why := .idle }] ∧
    (up.tile 7).suspended = none ∧ (up.tile 7).calib = none ∧
    ({ up with tiles := [(7, { pendingMap := [{ col := none, why := .idle }] })] } : State).mapReady (7 : Fin 25088).val = true := ⟨⟨by decide +kernel, by decide +kernel⟩, by decide +kernel⟩
theorem test_overlap : (overlap mvmD).basin.finishing = some (2, 5) ∧ (overlap mvmD).basin.running = some (1, 5) ∧ ((overlap mvmD).set 1).st = .filling := by
  decide +kernel
theorem test_held_by_finishing : next (exec (.pass []) holding) = holding ∧ holding.passOp.map (·.queue) = some 2 := by decide +kernel
theorem test_pass_counts : ((next (exec (.pass []) (running1 mvmD))).runningOp.bind (·.mvm)).map (·.next) = some 1 := by decide +kernel
theorem test_pass_when_stopped : next (exec (.pass []) (repeatable mvmD)) = repeatable mvmD := by decide +kernel
theorem test_ambiguous_stops : ((next (exec (.ambiguousInteger 128) (ambiguous1 mvmD))).runningOp.bind (·.mvm)).map (·.stopIssue) = some true := by decide +kernel

/-- The op that runs in a state. -/
def theOp (s : State) : Op := (s.runningOp).getD {}
/-- Its progress. -/
def theRun (s : State) : MvmRun := (theOp s).mvm.getD {}
/-- An op whose drain waits: set 0 Draining behind nothing. -/
def draining1 : State := { up with
  ops := [{ opOf mvmD with stage := .draining, set := some 0, plan := some { ocb := (2 ^ 32 - 1) * 2 ^ 288 } }]
  drainOrder := [(2, 5)]
  ctxs := [(0, { run := some { need := 64, done := 64 } })] }
/-- The drain has begun. -/
def drainBusy1 : State := { draining1 with drainBusy := true }
theorem witness_contribution : (running1 mvmD).contribOp = some (theOp (running1 mvmD)) ∧ (theOp (running1 mvmD)).mvm = some (theRun (running1 mvmD)) ∧
    (theRun (running1 mvmD)).next < (theRun (running1 mvmD)).bits ∧ (passed 1).contribOp.bind (·.mvm) = (passed 1).ops.head?.bind (·.mvm) ∧
    (running1 mvmD).drainBusy = false := by decide +kernel
theorem witness_drain : Running draining1 ∧ draining1.drainBusy = false ∧ draining1.drainOrder.head? = some (2, 5) ∧ (draining1.op 2 5).bind (·.set) = some 0 ∧
    drainBusy1.drainBusy = true ∧ ((draining1.op 2 5).bind (·.plan)).isSome = true ∧
    (drainBusy1.ctx (((draining1.op 2 5).getD {}).drainCtx)).run = some { need := 64, done := 64 } ∧ oMaskOff ((2 ^ 32 - 1) * 2 ^ 288) = 0xFFFFFFFF ∧
    ((draining1.op 2 5).map (·.bytes)) = some [] := ⟨running_up, by decide +kernel⟩
theorem test_contribution : (next (exec .opContribution (passed mvmD))).basin.running = none := by decide +kernel
theorem test_finishing_contributes : (next (exec .opContribution (overlap mvmD))).basin.finishing = none ∧
    (next (exec .opContribution (overlap mvmD))).basin.running = some (1, 5) ∧ ((next (exec .opContribution (overlap mvmD))).set 0).st = .held := by decide +kernel
theorem test_drain_starts : (next (exec .drainStart draining1)).drainBusy = true := by decide +kernel
/-- A completed op is the oldest of queue 2, with its record area at 64 KiB of staging; and an SMX in the helper. -/
def completed1 : State := { with1 { opOf (13 + 2 ^ 8) with stage := .completed } with queues := [(2, { submitted := 6, admitted := 6, done := 5, confRing := 0, confCpl := 65536 })] }
/-- An SMX op whose output stands at offset 128 of staging. -/
def helping : State := { with1 { opOf (6 + 128 * 2 ^ 192) with stage := .started, bytes := [7] } with helper := some (2, 5) }
theorem witness_retire : Running completed1 ∧ (completed1.op (2 : Fin 4).val (completed1.queue (2 : Fin 4).val).done).map (·.stage) = some .completed ∧
    completed1.runs procRingmaster = true ∧ helping.helper = some (2, 5) ∧ (helping.op 2 5).map (fun o => (o.epoch, o.cancel, decide (o.due ≤ helping.time), helping.mem.storeErrs (stagingBase + dOutOff o.desc) o.bytes.length)) = some (none, 0, true, false) ∧
    (({ completed1 with ops := [opOf 13] } : State).op (2 : Fin 4).val (completed1.queue 2).done).map (·.stage) = some .admitted := ⟨running_up, by decide +kernel⟩
theorem test_retire : ((next (exec (.opRetire 2) completed1)).queue 2).done = 6 ∧ (next (exec (.opRetire 2) completed1)).ops = [] := by decide +kernel
theorem test_smx : (next (exec .smxComplete helping)).mem.read (stagingBase + 128) = 7 := by decide +kernel

/-- The op that runs may be preempted, with one of queue 1 ready for the other set. -/
def preemptable : State := { running1 mvmSave with
  ops := { opOf (mvmD + 2 * 2 ^ 72) with queue := 1, ready := true, armed := [0] } :: (running1 mvmSave).ops
  basin := { (running1 mvmSave).basin with stalledAt := some 0 }
  time := 10000000 }
/-- It has been preempted, and its area saved. -/
def preempted1 : State := next (exec .preempt preemptable)
/-- Its area is saved, and nothing else waits. -/
def resumable : State :=
  { preempted1 with ops := (preempted1.ops.filter (fun o => decide (o.queue = 2))).map (fun o =>
      { o with mvm := o.mvm.map (fun m => { m with suspended := true, saved := true }) }) }
theorem tileImage_length (xs : List Acc) : (tileImage xs).length = 32 * xs.length := by
  simp [tileImage, List.length_flatMap]; omega
theorem saveArea_length (s : State) (o : Op) (m : MvmRun) : (s.saveArea o m).length = 133120 := by
  simp [State.saveArea, List.length_flatMap, tileImage_length, State.accTile]
theorem witness_preempt : Running preemptable ∧ (theOp preemptable).mvm = some (theRun preemptable) ∧ dSave (theOp preemptable).desc ≠ offNone ∧
    preemptable.obj 0x1800 1 < (theRun preemptable).left ∧ preemptable.mapsDue = false ∧ preemptable.pauseDue = false ∧ preemptable.basin.preempted = none ∧
    (preemptable.ops.any (fun x => decide (x.queue < (theOp preemptable).queue) && preemptable.couldStart x (some (theRun preemptable).set))) = true ∧
    preemptable.basin.stalledAt = some 0 ∧ 0 + preemptable.obj 0x1800 2 ≤ preemptable.time ∧ dSave (theOp (running1 mvmD)).desc = offNone ∧
    (running1 mvmD).basin.stalledAt = none := ⟨⟨by decide +kernel, by decide +kernel⟩, by decide +kernel⟩
theorem witness_suspend : preempted1.preemptedOp.bind (fun o => o.mvm.map (fun m => (m.saved, m.fresh, o.epoch))) = some (false, [], none) ∧
    resumable.preemptedOp.bind (fun o => o.mvm.map (fun m => m.saved)) = some true ∧ resumable.basin.running = none ∧
    resumable.preemptedOp.map (resumable.couldResume ·) = some true ∧ resumable.canSchedule = true ∧ resumable.ops.length = 1 ∧
    resumable.preemptedOp.map (resumable.basinFree ·) = some true ∧ resumable.mayResume = true ∧ resumable.mapsDue = false ∧
    preempted1.preemptedOp.map (fun o => (stagingOk (dSave o.desc) (preempted1.saveArea o (o.mvm.getD {})).length,
      preempted1.mem.storeErrs (stagingBase + dSave o.desc) (preempted1.saveArea o (o.mvm.getD {})).length)) = some (true, false) := by
  simp only [saveArea_length]; decide +kernel
theorem test_preempt_counts : preempted1.flt.counters = [(0x0C, 1)] ∧ preempted1.basin.preempted = some (2, 5) := by decide +kernel
theorem test_resume : (next (exec .preemptedResume resumable)).basin.running = some (2, 5) := by decide +kernel

/-- An epoch that may retire; peer data of stamp 5; an epoch message out. -/
def ending : State := { up with
  epochs := [(3, { st := .committing, serial := 1, spc := some (0, 0) })]
  ops := [{ queue := 0, seq := 0, kind := .spc, stage := .started, desc := 11 + 3 * 2 ^ 64 }] }
/-- Provisional data of a peer. -/
def peered : State := { up with specWrites := [{ key := .peer 7 5, space := 0, addr := 64, data := [1], born := 0 }] }
/-- A commit message of epoch 2 that nobody answered. -/
def messaging : State := { up with
  epochs := [(2, { st := .committing, awaiting := [4], firstSent := 0, spc := some (0, 0) })]
  fab := { up.fab with tags := [(4, { busy := true, kind := .epoch })] }
  time := 2 ^ 40 }
theorem witness_epoch_ends : Running ending ∧ ending.mayRetire (3 : Fin 8) = true ∧ ending.specWrites = [] ∧ messaging.epochMsgs = [] ∧ up.mayRetire (3 : Fin 8) = false ∧
    peered.specWrites = [{ key := .peer (7 : BitVec 17).toNat (5 : BitVec 16).toNat, space := 0, addr := 64, data := [1], born := 0 }] ∧
    0 + peered.obj 0x1800 7 ≤ ({ peered with time := 2 ^ 40 } : State).time ∧ ({ peered with time := 0 } : State).time < 0 + peered.obj 0x1800 7 ∧
    (up.epoch (2 : Fin 8)).awaiting = [] ∧ (messaging.epoch (2 : Fin 8)).awaiting = [4] ∧ (messaging.fabTag 4).busy = true ∧ (messaging.fabTag 4).kind = .epoch ∧
    (messaging.epoch 2).firstSent + messaging.obj 0x1800 7 ≤ messaging.time ∧ (messaging.epoch 2).spc = some (0, 0) := ⟨running_up, by decide +kernel⟩
theorem test_peer_epoch_dropped : (next (exec (.peerEpochTimeout 7 5) ({ peered with time := 2 ^ 40 } : State))).specWrites = [] := by decide +kernel
theorem test_epoch_retires : ((next (exec (.epochRetire 3) ending)).epoch 3).taken = [] := by decide +kernel

/-! ### Weights and memory -/

/-- Translation maps device virtual address 0 and on to physical address 0 and on; region 0 is valid; cluster 0 runs locked. -/
def mapped (o : Op) (r : Region) : State := { up with
  mem := { up.mem with bytes := [(0, 1), (1, 0x20), (8192, 0x32)] }
  regions := [(0, r)]
  clusters := [(0, { base := .locked, loopsOn := true })]
  ctxs := [(0, { st := .armed, run := some { need := 64, done := 64, data := List.replicate 64 3 } })]
  ops := [o] }
/-- The region as keys that hold 4 positions. -/
def keys : Region := { region0 with kind := 1, st := .resident, hwmC := 4, hwmP := 4 }
/-- A load, ready with its stream armed; a load that has begun; an append that has begun. -/
def ldwOp : Op := { opOf 3 with ready := true, armed := [0] }
/-- The checked pages of the load. -/
def loads (s : State) (o : Op) : Bool := match s.loadCheck o with
  | .ok _ => true
  | .error _ => false
/-- An append ready to start. -/
def kapOp : Op := { opOf (4 + 64 * 2 ^ 160) with ready := true, armed := [0] }
theorem witness_loads : Running (mapped ldwOp region0) ∧ (mapped ldwOp region0).slotOp (2 : Fin 4) (5 : Fin 1024) = some ldwOp ∧ ldwOp.queue = (2 : Fin 4).val ∧
    (mapped ldwOp region0).op (2 : Fin 4) ldwOp.seq = some ldwOp ∧ (mapped ldwOp region0).loadMayStart ldwOp = true ∧ loads (mapped ldwOp region0) ldwOp = true ∧
    (∀ t ∈ ((mapped ldwOp region0).region (dRegion ldwOp.desc)).tileList, ((mapped ldwOp region0).tile t).calib = none ∧
      ((mapped ldwOp region0).tile t).why ≠ .carousel) ∧
    loads (mapped ldwOp { region0 with valid := false }) ldwOp = false ∧ (mapped ldwOp { region0 with valid := false }).loadMayStart ldwOp = true ∧
    (mapped (opOf 3) region0).loadMayStart (opOf 3) = false ∧ ((up.region 0).mirrorBytes ≤ ({ opOf 3 with pos := 1024 } : Op).pos) ∧ (opOf 3).kind = .ldw :=
  ⟨running_up, by decide +kernel⟩
theorem witness_appends : kapOp.kind = .kap ∧ kapOp.stage = .admitted ∧ kapOp.ready = true ∧ (mapped kapOp keys).canSchedule = true ∧
    (mapped kapOp keys).kapHeld kapOp = false ∧ (mapped kapOp keys).kapBehind kapOp = false ∧ (mapped kapOp keys).writing (2, 5) = false ∧ (mapped kapOp keys).kapCheck kapOp = none ∧ (mapped kapOp keys).ringsReady ((mapped kapOp keys).region 0) = true ∧
    (mapped kapOp keys).kapVector kapOp = some (List.replicate 64 3) ∧ dMode kapOp.desc = false ∧
    (∀ v ∈ (List.range 64).map (kapElem keys.format (List.replicate 64 3)), kapInRange keys.format v = true) ∧ (mapped kapOp keys).mem.bad = [] ∧
    (mapped kapOp keys).mem.failed = [] ∧ (mapped kapOp { keys with st := .loading }).kapCheck kapOp = some (4, 0) ∧
    (({ kapOp with stage := .started, pos := 4 } : Op).epoch = none) := by decide +kernel
theorem test_load_starts : ((next (exec (.ldwStart 2 5) (mapped ldwOp region0))).region 0).st = .loading := by decide +kernel
theorem test_append_moves_marks : ((next (exec (.kapComplete 2 5) (mapped { kapOp with stage := .started, pos := 4 } keys))).region 0).hwmC = 5 := by decide +kernel

/-- A region that is Resident, and one Mirror-damaged since 2^20. -/
def resident1 : State := mapped (opOf 13) { region0 with st := .resident, pages := [65536] }
/-- The mirror is damaged. -/
def damaged1 : State := mapped (opOf 13) { region0 with st := .mirrorDamaged, graceStart := 1000000, badGranules := [1024] }
/-- A finished digest message; a cluster that waits for its rings; a stack in reset for long. -/
def digested : State := { resident1 with digests := [{ region := 0, message := List.replicate 1032 0 }] }
/-- Cluster 0 waits for its rings. -/
def rewriting : State := { up with clusters := [(0, { base := .locked, loopsOn := true, needRewrite := true })] }
/-- Stack 1 is in a block reset. -/
def stackReset : State := { up with
  time := 10000000
  mem := { up.mem with inReset := [1] }
  rst := { up.rst with blocks := [{ kind := 4, num := 1, since := 0 }] } }
theorem witness_refresh : (Running resident1 ∧ Running damaged1 ∧ Running rewriting ∧ Running stackReset) ∧ (up.region (0 : Fin 256)).valid = false ∧
    (resident1.region (0 : Fin 256)).valid = true ∧ (resident1.region (0 : Fin 256)).st = .resident ∧ (resident1.region (0 : Fin 256)).mirrorHas 1024 = true ∧
    (resident1.region (0 : Fin 256)).mirrorHas 7 = false ∧ (damaged1.region (0 : Fin 256)).st = .mirrorDamaged ∧
    (damaged1.region 0).graceStart + 8 * refreshPeriod ≤ ({ damaged1 with time := 2 ^ 40 } : State).time ∧
    damaged1.time < (damaged1.region (0 : Fin 256)).graceStart + 8 * refreshPeriod ∧
    8 + (digested.region 0).mirrorBytes ≤ ([] ++ List.replicate 1032 (0 : Byte)).length ∧ (digested.region 0).st ≠ .loading ∧ up.digests = [] ∧
    (rewriting.cluster (0 : Fin 98)).needRewrite = true ∧ rewriting.loopsLocked (0 : Fin 98) = true ∧ (rewriting.cluster (0 : Fin 98)).asleep = false ∧
    (rewriting.cluster (0 : Fin 98)).rewriting = false ∧ (rewriting.cluster (0 : Fin 98)).inReset = false ∧ (up.cluster (0 : Fin 98)).needRewrite = false ∧
    (1 : Fin 2).val ∉ up.mem.inReset ∧ (1 : Fin 2).val ∈ stackReset.mem.inReset ∧ 0 + 2 * refreshPeriod ≤ stackReset.time ∧
    stackReset.rst.blocks = [{ kind := 4, num := 1, since := 0 }] :=
  ⟨⟨running_up, running_up, running_up, running_up⟩, by decide +kernel⟩
theorem test_mirror_damaged : ((next (exec (.mirrorUncorrectable 0 1024) resident1)).region 0).st = .mirrorDamaged := by decide +kernel
theorem test_grace_end : ((next (exec (.graceEnd 0) ({ damaged1 with time := 2 ^ 40 } : State))).region 0).st = .failed := by decide +kernel

/-- Context 5 reads 64 bytes at physical 4096 + 64 of stack 1, or writes them. -/
def reading1 (write : Bool) : State := { up with
  mem := { up.mem with bytes := [(4160, 9)] }
  ctxs := [(5, { desc := sdesc 0, st := .armed, run := some { need := 64, issued := 64, write := write, data := List.replicate 64 6 } })]
  reqs := [{ ctx := 5, path := 1, len := 64, addr := 4160, write := write }] }
/-- Context 5 stands at an address that translates nowhere. -/
def stands : State := { up with ctxs := [(5, { desc := sdesc 0, st := .armed, run := some { need := 64 } })] }
/-- The pool has no line left and has moved nothing for long. -/
def starved : State := { up with ctxs := [(5, { st := .armed, lines := 16257, borrowed := 1, run := some {} })] }
theorem witness_memory : (Running (reading1 false) ∧ Running (reading1 true) ∧ Running stands ∧ Running starved) ∧
    (reading1 true).oldestLocal (5 : Fin 64) = some { ctx := 5, path := 1, len := 64, addr := 4160, write := true } ∧
    ((reading1 false).ctx (5 : Fin 64)).run.isSome = true ∧ (reading1 false).oldestLocal (5 : Fin 64) = some { ctx := 5, path := 1, len := 64, addr := 4160 } ∧
    ((stands.ctx 5).run.map (·.op)) = some none ∧ stackOf (64 * 1024) ∉ resident1.mem.inReset ∧ stackOf (64 * 7) ∉ up.mem.inReset ∧ (reading1 false).mem.bad = [] ∧ (reading1 false).mem.failed = [] ∧
    stackOf 4160 = 1 ∧ 4160 < dramEnd ∧ stackOf 4160 ∉ up.mem.inReset ∧ stackOf 4160 ∈ stackReset.mem.inReset ∧ (up.ctx (5 : Fin 64)).st ≠ .armed ∧
    stands.standsAt (5 : Fin 64) = some (0, 1) ∧ up.standing = false ∧ starved.standing = true ∧ starved.yielder = some 5 ∧ up.mirrorsWith 7 = [] ∧
    resident1.mirrorsWith 1024 ≠ [] ∧ 64 * 1024 < dramEnd ∧ 1024 ∉ resident1.mem.bad ∧ (1 : Fin 2).val ∉ up.mem.failed ∧ stagingBase / 64 + (9 : Fin 3145728).val ∉ up.mem.bad ∧
    (1 : Fin 2).val ∈ ({ up with mem := { up.mem with failed := [1] } } : State).mem.failed :=
  ⟨⟨running_up, running_up, running_up, running_up⟩, by decide +kernel⟩
theorem test_memory_written : (next (exec (.memoryCompletion ⟨5, []⟩) (reading1 true))).mem.read 4160 = 6 := by decide +kernel
theorem test_staging_error : (next (exec (.memoryError (.staging 9)) up)).mem.bad = [stagingBase / 64 + 9] := by decide +kernel
theorem test_stream_halts : ((next (exec (.streamHalt 5) stands)).ctx 5).st = .halted := by decide +kernel
theorem test_patrol : (next (exec (.patrolScrub 7 .uncorrectable) up)).mem.bad = [7] ∧ (next (exec (.patrolScrub 7 .clean) up)).mem.bad = [] := by decide +kernel

/-! ### Light, loops, converters and calibration -/

/-- Pumps and combs in the states that the statements name. -/
def lit (compute : CombSt) (pumps : Nat) : State := { up with light := { up.light with compute := compute, computePumps := pumps, computeLostAt := some 5 } }
theorem witness_combs : Running (lit .lost 2) ∧ (lit .dark 0).comb false = .dark ∧ (lit .locked 0).comb false = .locked ∧ (lit .starting 1).pumps false < 2 ∧
    (lit .starting 1).comb false = .starting ∧ (lit .locked 3).pumps false = 3 ∧ (lit .locked 4).pumps false = 4 ∧ (lit .lost 2).comb false = .lost ∧
    (lit .lost 2).combWaits false = some 5 ∧ (lit .lost 2).time ≤ 5 + 300000000 ∧ (lit .lost 2).time < 5 + 300000000 ∧ 5 + 300000000 < ({ lit .lost 2 with time := 300000006 } : State).time ∧ 5 + 300000000 ≤ ({ lit .lost 2 with time := 300000005 } : State).time ∧
    up.combWaits true = none := ⟨running_up, by decide⟩
theorem test_spare_pump : (next (exec (.pumpFail false) (lit .locked 0))).light.computePumps = 3 ∧ (next (exec (.pumpFail false) (lit .locked 0))).light.compute = .lost := by
  decide +kernel
theorem test_second_pump : (next (exec (.pumpFail false) (lit .locked 3))).light.computeDead = true := by decide +kernel

/-- The column of a tile in a state. -/
def withCol (tile p : Nat) (c : ColSt) : State := { up with
  cols := [(33 * tile + p, c)]
  clusters := [(0, { base := .locked, loopsOn := true })] }
/-- Tile 3 updated as far as update 207; at time 1,000,000 update 208 is due. -/
def looping : State := { withCol 3 1 {} with tileLoops := [(3, { updated := 208 })] }
/-- Outer update 25 is due after update 207, the first after 26 times 8 inner ones. -/
def outerDue : State := { withCol 3 1 { loop := .closed } with time := 4800 * 207, tileLoops := [(3, { updated := 208, inner := 208, outer := 25 })] }
theorem witness_loops : Running looping ∧ (looping.cluster ((3 : Fin 25088) / 256).val).loopsOn = true ∧ (looping.cluster 0).asleep = false ∧ (looping.cluster 0).inReset = false ∧
    (looping.tileLoop (3 : Fin 25088)).updated ≤ looping.updateNow 0 ∧ (looping.cluster 0).updatesAt (looping.updateNow 0) = true ∧
    outerDue.light.compute ≠ .lost ∧ (outerDue.tileLoop (3 : Fin 25088)).inner = 8 * ((outerDue.tileLoop (3 : Fin 25088)).outer + 1) ∧
    (outerDue.tileLoop 3).obfp = false ∧ (outerDue.tileLoop 31).obfp = false ∧ outerDue.tileLoops.length = 1 ∧ 1 ∈ outerDue.serving 3 ∧ outerDue.loopOf 3 1 ≠ .locked ∧ (outerDue.tileLoop (3 : Fin 25088)).updated = outerDue.updateNow 0 + 1 ∧
    (up.cluster 0).loopsOn = false := ⟨running_up, by decide +kernel⟩
theorem test_loop_update : ((next (exec (.loopUpdate 3 ⟨[], .none⟩ none) looping)).tileLoop 3).updated = 209 := by decide +kernel
theorem test_outer_update : ((next (exec (.outerUpdate 3) outerDue)).tileLoop 3).outer = 26 := by decide +kernel
/-- A column with a history of 16, and recovery of it. -/
def clean16 : State := withCol 3 1 { loop := .closed, clean := 16 }
/-- The column is in recovery. -/
def clean16r : State := { clean16 with tiles := [(3, { recovs := [1] })] }
/-- 16 deadlines missed; plausibility twice over on one column, on four. -/
def missed16 : State := withCol 3 1 { loop := .locked, missedRun := 16 }
/-- One column beyond its window twice. -/
def plaus1 : State := withCol 3 1 { loop := .locked, plaus := 2 }
/-- Four columns. -/
def plaus4 : State := { up with cols := [(99, { loop := .locked, plaus := 2 }), (100, { loop := .locked, plaus := 2 }), (101, { loop := .locked, plaus := 2 }), (102, { loop := .closed, plaus := 2 })] }
theorem witness_locks : Running clean16 ∧ (clean16.col (3 : Fin 25088) (1 : Fin 33)).loop = .closed ∧ 16 ≤ (clean16.col 3 1).clean ∧
    (1 : Fin 33).val ∈ (clean16r.tile (3 : Fin 25088)).recovs ∧ (1 : Fin 33).val ∉ (clean16.tile 3).recovs ∧ clean16.light.recheck = false ∧
    (up.col 3 1).loop ≠ .closed ∧ 16 ≤ (missed16.col 3 1).missedRun ∧ (clean16.col 3 1).missedRun < 16 ∧
    columns.filter (fun p => decide (2 ≤ (plaus1.col 3 p).plaus ∧ ((plaus1.col 3 p).loop = .closed ∨ (plaus1.col 3 p).loop = .locked))) = [1] ∧
    (columns.filter (fun p => decide (2 ≤ (plaus4.col 3 p).plaus ∧ ((plaus4.col 3 p).loop = .closed ∨ (plaus4.col 3 p).loop = .locked)))).length = 4 ∧
    (plaus4.tile (3 : Fin 25088)).modelSuspect = false ∧ columns.filter (fun p => decide (2 ≤ (up.col 3 p).plaus)) = [] := ⟨running_up, by decide +kernel⟩
theorem test_lock : ((next (exec (.loopLock 3 1) clean16)).col 3 1).loop = .locked ∧ ((next (exec (.loopLock 3 1) missed16)).col 3 1).loop = .locked := by decide +kernel
theorem test_deadline : ((next (exec (.pilotDeadlineLoss 3 1) missed16)).tile 3).recovs = [1] := by decide +kernel
theorem test_suspect : ((next (exec (.plausibilityFail 3) plaus4)).tile 3).modelSuspect = true := by decide +kernel
/-- Loop coefficients with kp and nb0 alone. -/
def gains : LoopIn := { kp := 16384, ki := 0, kd := 0, ad := 0, nb0 := 16384, nb1 := 0, nb2 := 0, na1 := 0, na2 := 0, bt := 100, low := false }
theorem witness_close : (({ pc := 500 } : ColSt).close gains 0).isSome = true ∧ (0 : Int) ≤ ({ pc := 500 } : ColSt).pc ∧ ({ pc := 500 } : ColSt).pc ≤ 32767 := by decide +kernel
/-- The op that runs lights a hot column of region 0; the Basin is paused. -/
def hot : State := { running1 mvmD with cols := [(33 * 129 + 5, { loop := .locked, det := some .out })] }
/-- A pause that has lasted since time 5. -/
def paused : State := { running1 mvmD with
  tileLoops := [(129, { at_ := some 6 })]
  basin := { (running1 mvmD).basin with state := .paused }
  light := { (running1 mvmD).light with pausing := true, pauseStart := 5 } }
theorem witness_pauses : Running hot ∧ Running paused ∧ hot.basin.state = .running ∧ hot.pauseTiles.any (fun t => (hot.serving t).any (hot.columnHot t)) = true ∧
    hot.mapsDue = false ∧ paused.light.pausing = true ∧ (∀ t ∈ paused.pauseTiles, ((paused.tileLoop t).at_.map (fun a => decide (paused.light.pauseStart < a))) = some true) ∧
    paused.basin.state = .paused ∧ paused.pauseTiles.all (fun t => (paused.serving t).all (fun p => decide (paused.detOf t p = .clean))) = true ∧
    paused.light.alerted = false ∧ paused.obj 0x4000 8 < (({ paused with time := 2 ^ 40 } : State).time - paused.light.pauseStart) / 4800 :=
  ⟨⟨by decide +kernel, by decide +kernel⟩, ⟨by decide +kernel, by decide +kernel⟩, by decide +kernel⟩
theorem test_pause : (next (exec .thermalPause hot)).basin.state = .paused ∧ (next (exec .thermalPauseEnd paused)).light.lastPause = 999995 := by decide +kernel

/-- A sweep of column 1 of tile 3 that is over, with a step inside the window or without. -/
def swept (found : Bool) : State := withCol 3 1 { loop := .sweeping, pilotLevel := 100, sweep := some { step := 66, level := 100, best := 10, found := found } }
/-- A check waits for column 1 of tile 3. -/
def checking : State := { withCol 3 1 { loop := .locked } with
  cal := { up.cal with checks := [{ tile := 3, p := 1, since := 0 }] }
  tiles := [(3, { recovs := [1] })] }
/-- A check of a Carousel calibration waits. -/
def carouselCheck : State := { checking with
  cal := { up.cal with checks := [{ tile := 3, p := 1, since := 0, carousel := true }] }
  tiles := [(3, { calib := some { p := 1, start := 0 } })] }
/-- The eight codes of a clean check: six 32, a 64 and a 0. -/
def goodCodes : List (Fin 8192) := [512, 512, 512, 512, 512, 512, 768, 256]
theorem witness_flags : Running (swept true) ∧ up.detOf 3 1 = .out ∧ checking.detOf (3 : Fin 25088) (1 : Fin 33) ≠ .out ∧ ((swept true).col (3 : Fin 25088) (1 : Fin 33)).loop = .sweeping ∧
    (((swept true).col 3 1).sweep.map (fun w => (w.step, w.found))) = some (66, true) ∧ (((swept false).col 3 1).sweep.map (fun w => (w.step, w.found))) = some (66, false) ∧
    (withCol 3 1 { loop := .sweeping, sweep := some { step := 65 } }).col 3 1 = { loop := .sweeping, sweep := some { step := 65 } } ∧
    (up.col (3 : Fin 25088) (1 : Fin 33)).loop ≠ .sweeping ∧ checking.cal.checks = [{ tile := (3 : Fin 25088), p := (1 : Fin 33), since := 0 }] ∧
    checking.checkReady { tile := (3 : Fin 25088), p := (1 : Fin 33), since := 0 } = true ∧
    carouselCheck.checkReady { tile := (3 : Fin 25088), p := (1 : Fin 33), since := 0, carousel := true } = true ∧
    (carouselCheck.tile 3).calib = some { p := 1, start := 0 } ∧ carouselCheck.cal.checks = [{ tile := 3, p := 1, since := 0, carousel := true }] ∧
    goodCodes.map (fun c => convert false (c : Nat)) = [(32, .clean), (32, .clean), (32, .clean), (32, .clean), (32, .clean), (32, .clean), (64, .clean), (0, .clean)] :=
  ⟨running_up, by decide +kernel⟩
theorem test_sweep_closes : ((next (exec (.sweepEnd 3 1) (swept true))).col 3 1).loop = .closing ∧ ((next (exec (.sweepEnd 3 1) (swept false))).col 3 1).loop ≠ .closing := by
  decide +kernel
theorem test_check_returns : ((next (exec (.lineIdentityCheck 3 1 goodCodes) checking)).tile 3).recovs = [] ∧
    ((next (exec (.lineIdentityCheck 3 1 []) checking)).tile 3).recovs = [1] := by decide +kernel
/-- Cluster 0 quiet since time 0; the same at the low rate, with an announcement. -/
def quiet : State := { looping with time := 4800 * 2 ^ 28 }
/-- The low rate since update 100, an op announced. -/
def lowRate : State := { looping with clusters := [(0, { base := .locked, loopsOn := true, lowFrom := some 100, announced := true })] }
theorem witness_rates : Running quiet ∧ Running lowRate ∧ (quiet.cluster (0 : Fin 98)).loopsOn = true ∧ (quiet.cluster (0 : Fin 98)).asleep = false ∧ (quiet.cluster (0 : Fin 98)).lowAt (quiet.updateNow 0) = false ∧
    quiet.atUpdateBoundary 0 = true ∧ quiet.recovering 0 = 0 ∧
    (quiet.cluster 0).capture = none ∧ (quiet.cluster 0).lastAct + 4800 * quiet.obj 0x4800 1 ≤ quiet.time ∧
    looping.time < (looping.cluster (0 : Fin 98)).lastAct + 4800 * looping.obj 0x4800 1 ∧ (lowRate.cluster (0 : Fin 98)).lowAt (lowRate.updateNow 0) = true ∧ (lowRate.cluster (0 : Fin 98)).lowTo = none ∧
    (lowRate.cluster (0 : Fin 98)).announced = true := ⟨running_up, running_up, by decide +kernel⟩
theorem test_low_rate : ((next (exec (.lowRateEntry 0) quiet)).cluster 0).lowFrom.isSome = true ∧ ((next (exec (.lowRateExit 0) lowRate)).cluster 0).lowTo = some 209 := by
  decide +kernel

/-- Heater 2 of tile 3 applies code 2,048; a converter has failed; a capture is asked for; a trigger waits. -/
def heated : State := { withCol 3 1 {} with heaters := [(34 * 3 + 2, { applied := some 2048, lowSenses := 2 })] }
/-- Converter 4 of cluster 0 has failed, and a capture of one pair waits. -/
def converters : State := { up with
  time := 960000
  clusters := [(0, { loopsOn := true, monFailed := [4], capture := some { req := 2 ^ 25 }, queued := [{ conv := 6, kind := 1, chans := [6], since := 0 }] })] }
/-- The capture has its samples. -/
def capturing : State := { next (exec (.captureStart 0) converters) with time := 960008 }
theorem witness_heaters : Running heated ∧ (heated.heater (3 : Fin 25088) (2 : Fin 34)).short = false ∧ (heated.heater (3 : Fin 25088) (2 : Fin 34)).open_ = false ∧
    2 ≤ (heated.heater (3 : Fin 25088) (2 : Fin 34)).lowSenses ∧ (heated.cluster ((3 : Fin 25088).val / 256)).monFailed.length < 2 ∧
    (heated.col 3 2).retired = false ∧ (up.heater (3 : Fin 25088) (2 : Fin 34)).lowSenses < 2 ∧
    ((((up.tileLoop 3).tTile : Int) : ℚ) / 256 ≤ f32Val (up.obj 0x4800 2)) ∧
    f32Val (up.obj 0x4800 2) < ((((({ up with tileLoops := [(3, { tTile := 32767 })] } : State).tileLoop (3 : Fin 25088)).tTile : Int) : ℚ) / 256) :=
  ⟨running_up, by decide +kernel⟩
theorem witness_converters : Running converters ∧ (8700 < 17408 ∧ chanConv 8700 = (15 : Fin 16).val) ∧
    ((converters.cluster (0 : Fin 98)).queued.filter (fun t => decide (t.conv = (15 : Fin 16).val))).length < 4 ∧
    converters.runs (procCluster (0 : Fin 98)) = true ∧ (∀ t ∈ (converters.cluster (0 : Fin 98)).queued, t.conv ≠ (5 : Fin 16).val) ∧
    (converters.cluster (0 : Fin 98)).queued = [{ conv := (6 : Fin 16).val, kind := 1, chans := [6], since := 0 }] ∧ ([6] : List Nat).length = ([9] : List (Fin 4096)).length ∧
    (let x := converters.cluster (0 : Fin 98); let since := 2 * (0 - x.loopStart); let len := x.slotLen (since / 9600)
      max (cdiv since len * len) (x.injectedEnd 6) ≤ converters.halfNow 0) ∧
    converters.halfNow 0 < (({ queued := [], injected := [(6, 0, 1920001)] } : ClusterSt).injectedEnd 6) ∧ converters.atUpdateBoundary 0 = true ∧ (5 : Fin 16).val ∉ (converters.cluster (0 : Fin 98)).monFailed ∧ (4 : Fin 16).val ∈ (converters.cluster (0 : Fin 98)).monFailed ∧
    (converters.cluster (0 : Fin 98)).monFailed = [4] ∧ 4 ≠ (5 : Fin 16).val ∧ (up.cluster (0 : Fin 98)).capture = none ∧
    (converters.cluster (0 : Fin 98)).capture = some { req := 2 ^ 25 } ∧ converters.basinOps = [] ∧
    (capturing.cluster (0 : Fin 98)).capture = some { req := 2 ^ 25, started := true, since := 960000 } ∧ 2 * 960000 + 15 * bits (2 ^ 25) 25 13 ≤ 2 * capturing.time ∧
    ([7, 8] : List (Fin 4096)).length = 2 * bits (2 ^ 25) 25 13 ∧ up.atUpdateBoundary 0 = false := ⟨running_up, by decide +kernel⟩
theorem test_heater_short : ((next (exec (.heaterShort 3 2) heated)).heater 3 2).short = true ∧ ((next (exec (.heaterOpen 3 2) heated)).heater 3 2).open_ = true := by
  decide +kernel
theorem test_capture : (next (exec (.captureComplete 0 [7, 8]) capturing)).cal.captured = [7, 8] := by decide +kernel
/-- The carousel is on; tile 3 has its window next at column 32; the spare's own calibration began long ago. -/
def carousel : State := { looping with
  time := 4800 * 250
  dict := up.dict
  tiles := [(3, { pointer := 32 }), (4, { calib := some { p := 32, start := 0 } })] }
theorem witness_windows : Running carousel ∧ ({ up with dict := { up.dict with objs := [(0x4C0001, 0)] } } : State).obj 0x4C00 1 = 0 ∧ carousel.skipped (3 : Fin 25088) = false ∧ carousel.runs (procCluster 0) = true ∧ (carousel.tile 4).why = .idle ∧ (carousel.tile 4).calib.map (·.ended) = some false ∧ carousel.obj 0x4C00 1 = 1 ∧
    carousel.updateNow ((3 : Fin 25088).val / 256) % 50 = 0 ∧ (carousel.tileLoop (3 : Fin 25088)).lastWindow ≠ some 250 ∧ (carousel.tile 3).calib = none ∧
    (carousel.tile 3).why = .idle ∧ (carousel.tile 3).pendingMap = [] ∧ (carousel.tile 3).awaiting = [] ∧ (carousel.tile 3).warned = [] ∧ (carousel.tile 3).pointer = 32 ∧
    (carousel.tile (4 : Fin 25088)).calib = some { p := 32, start := 0 } ∧ 0 + 250 ≤ carousel.updateNow 0 ∧ ({ carousel with time := 0 } : State).updateNow 0 < 0 + 250 :=
  ⟨running_up, by decide +kernel⟩
theorem test_window : ((next (exec (.carouselWindow 3) carousel)).tile 3).calib = some { p := 32, start := 250 } := by decide +kernel
theorem test_abandon : (next (exec (.calibrationAbandon 4) carousel)).flt.counters = [(0x20, 1)] := by decide +kernel

/-! ### The fabric -/

/-- Device 0 of a fabric of two devices along the third dimension, its lanes in a state. -/
def fabric (base : LaneSt) (st : FabSt) : State := { up with
  dict := { up.dict with objs := [(0x300003, 0), (0x300004, 1 + 1 * 256 + 2 * 65536)] }
  fab := { up.fab with state := st, base := .excluded, lanes := [(1537, { out := some base }), (1599, { inn := some base })] } }
/-- The margin test, begun at time 0, in its first round and in its last moment. -/
def testing : State := { fabric .testing .testing with fab := { (fabric .testing .testing).fab with testEnd := some 1000000000, round := 1 } }
/-- The inbound lane 1599 from device 1, and the outbound lane 1537 to it. -/
theorem test_wiring : testing.laneFrom 1599 = some 1 ∧ testing.laneTo 1537 = some 1 ∧ testing.laneFrom 1600 = none := by decide +kernel
/-- A frame word of device 1, level 2, without good bits; one of device 9. -/
def frameWord (dev : Nat) : BitVec 64 := BitVec.ofNat 64 (0x4F1B + dev * 2 ^ 16 + 2 * 2 ^ 41)
/-- Plane 12 is in reset. -/
def planeReset : State := { testing with rst := { testing.rst with blocks := [{ kind := 3, num := 12, since := 5 }] } }
theorem witness_margin : Running testing ∧ testing.fab.state = .testing ∧ testing.fab.testEnd = some 1000000000 ∧
    1000000000 + 2400000 * 1 ≤ ({ testing with time := 2 ^ 40 } : State).time + 150 * testing.obj 0x3000 0x0A ∧
    ({ testing with time := 0 } : State).time + 150 * 0 < 1000000000 + 2400000 * 1 ∧ up.fab.state ≠ .testing ∧ planeReset.blockReset 3 ((1599 : Fin 2304).val / 128) = true ∧
    planeReset.blockReset 3 (12 : Fin 18) = true ∧ testing.time < 1000000000 := ⟨running_up, by decide +kernel⟩
theorem witness_lanes : testing.blockReset 3 ((1599 : Fin 2304).val / 128) = false ∧ testing.laneFrom (1599 : Fin 2304) = some 1 ∧ testing.fabLit = true ∧
    mwf {} testing.fab.lanes = true ∧ testing.inLane (1599 : Fin 2304) = .testing ∧ (testing.lane (1599 : Fin 2304)).wiring = false ∧
    (testing.lane 1599).bits + 599999999 < 600000000 ∧ 600000000 ≤ (testing.lane 1599).bits + 600000000 ∧ 1 ∉ testing.fab.mismatched ∧
    bits (0 : BitVec 64).toNat 0 16 ≠ 0x4F1B ∧ bits (frameWord 1).toNat 0 16 = 0x4F1B ∧ bits (frameWord 9).toNat 16 17 ≠ 1 ∧ bits (frameWord 1).toNat 16 17 = 1 ∧
    bits (frameWord 1).toNat 41 4 = testing.obj 0x3000 6 ∧ (∀ m < 128 / routerSize (laneDim (1599 : Fin 2304)), bit (frameWord 1).toNat (33 + m) = false) ∧
    (testing.lane (128 * 12 + 1)).goodOut = false ∧ (testing.lane (128 * 12 + 65)).goodOut = false := by decide +kernel
theorem test_lane_passes : (next (exec (.lanePass 1599 600000000 true) testing)).inLane 1599 = .inService ∧
    ((next (exec (.lanePass 1599 600000000 false) testing)).lane 1599).bits = 0 := by decide +kernel
theorem test_wrong_wiring : (next (exec (.laneFrame 1599 (frameWord 9)) testing)).inLane 1599 = .excluded := by decide +kernel

/-- A packet for device 1 waits; the fabric runs with its lanes in service. -/
def sending : State := { fabric .inService .running with fab := { (fabric .inService .running).fab with queues := [{ pkt := { ptype := 1, dest := 1 }, dim := 2, hop := 1, born := 0 }] } }
/-- An entry waits for device 1 instead. -/
def entering : State := { fabric .inService .running with fab := { (fabric .inService .running).fab with entries := [(1, 7)] } }
theorem witness_slots : Running sending ∧ sending.blockReset 3 (12 : Fin 18) = false ∧ up.fabLit = false ∧ sending.fabLit = true ∧ slotCap sending.ladderLevel = 24 ∧
    slotCap ({ sending with pwr := { sending.pwr with levelPower := 5 } } : State).ladderLevel ≤ (4 : Fin 24).val ∧ entering.fab.entries = [(1, 7)] ∧
    entering.takeLane 12 0 1 false = some 1537 ∧ sending.fab.entries = [] ∧ sending.nextPeer 12 0 = some 1 ∧ sending.takeLane 12 0 1 = some 1537 ∧
    (sending.peerQueue (fiberDim 12) 1 1 ++ sending.peerQueue (fiberDim 12) 1 0).head? = some { pkt := { ptype := 1, dest := 1 }, dim := 2, hop := 1, born := 0 } ∧
    testing.fab.entries = [] ∧ testing.nextPeer 12 0 = none := ⟨running_up, by decide +kernel⟩
theorem test_slot_sends : (next (exec (.slotSchedule 12 0) sending)).fab.queues = [] ∧ ((next (exec (.slotSchedule 12 0) sending)).lane 1537).lseqTx = 1 := by decide +kernel
/-- A lane with 17 errors in a millisecond; one with four fruitless replays; one with a packet uncovered. -/
def lanes (l : Lane) : State := { sending with fab := { sending.fab with lanes := [(1537, { l with out := some .inService })] } }
theorem witness_lane_ends : sending.outLane (1537 : Fin 2304) = .inService ∧ (sending.lane (1537 : Fin 2304)).lastSent + 4800 ≤ sending.time ∧
    sending.lineFree ((1537 : Fin 2304).val / 128) (3 : Fin 24) ((1537 : Fin 2304).val % 128) = true ∧ up.outLane (1537 : Fin 2304) ≠ .inService ∧
    (sending.lane (1537 : Fin 2304)).lastFrame + 9600 ≤ sending.time ∧ ({ sending with time := 5 } : State).time < (sending.lane (1537 : Fin 2304)).lastFrame + 9600 ∧
    16 < (((lanes { errors := List.replicate 17 999999 }).lane (1537 : Fin 2304)).errors.filter (fun t => decide ((lanes {}).time < t + 1200000))).length ∧
    ((lanes {}).lane (1537 : Fin 2304)).errors.length ≤ 16 ∧ 4 ≤ ((lanes { replays := 4 }).lane (1537 : Fin 2304)).replays ∧
    ((lanes { replays := 4 }).lane (1537 : Fin 2304)).lastEntry + 1200 ≤ sending.time ∧ ((lanes { busyAt := some 5 }).lane (1537 : Fin 2304)).busyAt = some 5 ∧
    5 + 308 ≤ sending.time ∧ ((lanes { busyAt := some 5, replay := [(0, {})] }).lane (1537 : Fin 2304)).replay ≠ [] ∧
    ((lanes {}).lane (1537 : Fin 2304)).busyAt = none ∧ (lanes {}).outLane (1537 : Fin 2304) = .inService ∧
    ((lanes { replays := 4, replay := [(0, {})] }).lane (1537 : Fin 2304)).lastEntry + 1200 ≤ sending.time ∧ ({ sending with time := 5 } : State).time < 0 + 1200 := by decide +kernel
theorem test_third_retirement_bars : ((next (exec (.laneRetire 1537 false) (lanes { replays := 4, retiresOut := 2 }))).lane 1537).out = some .barred := by decide +kernel
theorem test_replay_counts : (next (exec (.replayTimeout 1537) (lanes { busyAt := some 5, replay := [(0, {})] }))).flt.counters = [(0x24, 1)] := by decide +kernel

/-- A packet on lane 1599 from device 1 to device 0: its type, channel, other fields and payload, its CRCs right. -/
def packet (t vl more : Nat) (data : List Byte) : FabricPacket :=
  let h := t + vl * 2 ^ 4 + 1 * 2 ^ 32 + data.length * 2 ^ 51 + 2 * 2 ^ 84 + more
  { lane := 1599, header := BitVec.ofNat 256 (h + 2 ^ 224 * crc32c (leBytes 28 h)), data := data, crc := BitVec.ofNat 32 (crc32c data) }
/-- The device that receives it. -/
def receiving : State := fabric .inService .running
/-- What is asked of a packet that is in order, whole and well formed. -/
def accepted (t : Nat) (w : FabricPacket) : Bool :=
  headerOk w && payloadOk w && decide ((fpPacket w).ptype = t) && decide ((fpPacket w).dest = receiving.ownDev) && !receiving.badPacket (fpPacket w) &&
    decide (bits w.header.toNat 112 10 = ((receiving.lane w.lane.val).lseqRx + 1) % 1024) && decide (receiving.inLane w.lane.val = .inService)
theorem witness_packets : accepted 1 (packet 1 0 0 [7]) = true ∧ accepted 2 (packet 2 0 (64 * 2 ^ 200) []) = true ∧ accepted 3 (packet 3 1 0 [7]) = true ∧
    accepted 4 (packet 4 1 0 []) = true ∧ accepted 5 (packet 5 1 0 []) = true ∧ accepted 6 (packet 6 0 0 []) = true ∧ accepted 7 (packet 7 0 0 []) = true ∧
    accepted 8 (packet 8 0 0 []) = true ∧ accepted 9 (packet 9 1 0 []) = true ∧ accepted 15 (packet 15 1 0 []) = true := by decide +kernel
theorem witness_packet_drops : Running receiving ∧ headerOk (packet 1 0 (1 * 2 ^ 8) []) = true ∧ (fpPacket (packet 1 0 (1 * 2 ^ 8) [])).dest ≠ receiving.ownDev ∧
    headerOk { packet 1 0 0 [] with header := 1 } = false ∧ receiving.fabLit = true ∧ (ptVL 4).isSome = true ∧ receiving.fresh (fpPacket (packet 4 1 0 [])) = false ∧
    bit (receiving.obj 0x3000 7) 1 = bit (receiving.obj 0x3000 7) 2 ∧ ((receiving.takePacket (packet 1 0 (1 * 2 ^ 8) [])).2.isSome) = true ∧
    (fpPacket (packet 1 0 (1 * 2 ^ 8 + 2 * 2 ^ 5) [])).hops = 2 := ⟨running_up, by decide +kernel⟩
theorem test_packet_order : ((next (exec (.ack (packet 4 1 0 [])) receiving)).lane 1599).lseqRx = 0 ∧
    ((next (exec (.ack (packet 4 1 (5 * 2 ^ 112) [])) receiving)).lane 1599).lseqRx = 1023 := by decide +kernel
theorem test_stale_ack : (next (exec (.ack (packet 4 1 0 [])) receiving)).flt.counters = [(0x27, 1)] := by decide +kernel
theorem test_third_hop : (next (exec (.forward (packet 1 0 (1 * 2 ^ 8 + 2 * 2 ^ 5) []) false) receiving)).flt.counters = [(0x22, 1)] := by decide +kernel

/-- A packet held since time 0; a doorbell that waits; a cascade of two, this device a member; a cascade master that heard nothing. -/
def aged : State := { sending with time := 18600 }
/-- Tag 9 belongs to a doorbell. -/
def ringing : State := { sending with time := 2 ^ 40, fab := { sending.fab with tags := [(9, { busy := true, kind := .doorbell })] } }
/-- Tag 9 belongs to a probe. -/
def probing : State := { sending with fab := { sending.fab with tags := [(9, { busy := true, kind := .probe })] } }
/-- A cascade of two devices: the master. -/
def master : State := { up with
  time := 2 ^ 40
  casc := { up.casc with state := .formed }
  dict := { up.dict with objs := [(0x340005, 2)] } }
theorem witness_fabric_ages : Running aged ∧ (∃ q ∈ aged.fab.queues, q.born + 18600 ≤ aged.time) ∧ (∀ q ∈ receiving.fab.queues, receiving.time < q.born + 18600) ∧
    (sending.fabTag (9 : BitVec 16).toNat).busy = false ∧ (ringing.fabTag (9 : BitVec 16).toNat).busy = true ∧
    (ringing.fabTag (9 : BitVec 16).toNat).lastFormed + ringing.obj 0x3000 8 ≤ ringing.time ∧ (ringing.fabTag 9).kind = .doorbell ∧ ringing.fresh { ptype := ptACK, tag := 9 } = true ∧
    (master.fab.tags.filter (fun e => e.2.busy)).length + (if master.cascI = 0 then master.cascM - 1 else 1) ≤ 65536 ∧ ({ master with dict := up.dict } : State).cascM ≤ 1 ∧
    ({ master with dict := { up.dict with objs := [(0x340005, 2), (0x340006, 1)] } } : State).cascI ≠ 0 ∧ (probing.fabTag 9).kind = .probe ∧ (probing.fabTag 9).busy = true ∧ up.casc.state = .stopped ∧
    master.casc.state ≠ .stopped ∧ master.casc.lastProbe + master.obj 0x3400 8 ≤ master.time ∧ master.cascI = 0 ∧ master.cascM = 2 ∧ master.casc.state = .formed ∧
    mget 0 master.casc.lastWord (1 : Fin 4096) + 239999 ≤ master.time ∧ 1 ≤ (1 : Fin 4096).val ∧ (1 : Fin 4096).val < master.cascM :=
  ⟨running_up, by decide +kernel⟩
theorem test_aged : (next (exec .packetAged aged)).fab.queues = [] ∧ (next (exec .packetAged aged)).flt.counters = [(0x26, 1)] := by decide +kernel
theorem test_doorbell_timeout : (next (exec (.xfrTimeout 9) ringing)).fab.db = 512 := by decide +kernel
theorem test_member_lost : (next (exec (.memberLossTimeout 1) master)).casc.state = .broken := by decide +kernel

/-! ### Processors, resets, power -/

/-- Processor 9 with recent restarts at some times. -/
def restarts (ts : List Nat) (p : ProcSt) : State := { up with procs := [(9, { state := p, recent := ts })] }
theorem witness_restarts : Running (restarts [] .running) ∧ ((restarts [] .held).proc (9 : Fin 102)).state ≠ .running ∧ (up.proc (9 : Fin 102)).state = .running ∧
    hostBoot.rst.reachedHeld = true ∧ State.reset.rst.reachedHeld = false ∧ Running State.reset ∧ (State.reset.proc (9 : Fin 102)).state = .running ∧
    (((up.proc 9).recent.filter (fun t => decide (up.time < t + 1200000000))) ++ [up.time]).length < 4 ∧
    4 ≤ ((((restarts [7, 8, 9] .running).proc 9).recent.filter (fun t => decide (up.time < t + 1200000000))) ++ [up.time]).length ∧
    ((restarts [7, 8, 9] .running).proc 9).activated = false := ⟨running_up, by decide, by decide, by decide, by decide, ⟨by decide, by decide⟩, by decide, by decide, by decide, by decide⟩
theorem test_watchdog : ((next (exec (.watchdogExpire 9 64) up)).proc 9).state = .restarting ∧ (next (exec (.watchdogExpire 9 64) up)).flt.counters = [(0x32, 1), (0x33, 1)] := by
  decide +kernel
theorem test_fourth_restart : ((next (exec (.processorException 9 64) (restarts [7, 8, 9] .running))).proc 9).state = .held := by decide +kernel
/-- An access has waited for processor 3 since time 0. -/
def waiting1 : State := { up with dict := { up.dict with waiting := [{ port := host, proc := 3, index := 0x5000, sub := 1, since := 0 }] } }
theorem witness_returns : ((restarts [] .restarting).proc (9 : Fin 102)).state = .restarting ∧ 4 ≤ (9 : Fin 102).val ∧ ((restarts [] .restarting).proc 9).cause ≤ 2 ∧
    (restarts [] .restarting).dict.waiting = [] ∧ mwf {} (restarts [] .restarting).procs = true ∧ ((restarts [] .held).proc (9 : Fin 102)).state ≠ .restarting ∧
    waiting1.dict.waiting = [{ port := host, proc := 3, index := 0x5000, sub := 1, since := 0 }] ∧ 0 + 42000 ≤ waiting1.time ∧
    ({ waiting1 with time := 41999 } : State).time < 0 + 42000 := by decide +kernel
theorem test_returns : ((next (exec (.processorReturn 9 false) (restarts [] .restarting))).proc 9).state = .running := by decide +kernel
theorem test_dict_wait : (next (exec .dictWaitTimeout waiting1)).dict.waiting = [] := by decide +kernel
/-- A commit is Verifying, or Writing; an activation stands at processor 9; processor 9 is halted for debug. -/
def commitIn (st : Nat) : State := { up with fw := { up.fw with commitSt := st } }
/-- An activation in progress. -/
def activating1 : State := { up with fw := { up.fw with actSt := 1, actList := [9], actCurrent := 9 } }
/-- Processors halted before their first instruction. -/
def haltedProcs : State := { restarts [] .debugHalted with rst := { up.rst with haltDebug := true } }
theorem witness_firmware : (Running (commitIn 1) ∧ Running (commitIn 2) ∧ Running activating1 ∧ Running haltedProcs) ∧ (commitIn 2).fw.commitSt ≠ 1 ∧ (commitIn 1).fw.commitSt = 1 ∧
    (commitIn 1).runs procSecurity = true ∧ (commitIn 1).targetBank = some 1 ∧ (commitIn 2).runs procBarker = true ∧ up.fw.actList = [] ∧ activating1.fw.actList = [9] ∧
    activating1.fw.actSt = 1 ∧ activating1.runs procSecurity = true ∧ (activating1.proc 9).state = .running ∧ activating1.pwr.emergency = false ∧
    ({ activating1 with pwr := { activating1.pwr with emergency := true } } : State).pwr.emergency = true ∧ activating1.runs procPower = true ∧ 9 ≠ procBarker ∧
    activating1.rst.reachedHeld = true ∧ up.rst.haltDebug = false ∧ haltedProcs.rst.haltDebug = true ∧ mwf {} haltedProcs.procs = true :=
  ⟨⟨running_up, running_up, running_up, running_up⟩, by decide +kernel⟩
set_option exponentiation.threshold 40000 in
/-- A bundle header of five empty images: its magic, its form 1, five images, its length, and each image's kind, place and digest. -/
def bundleHead : Nat := 0x46584942 + 2 ^ 32 + 5 * 2 ^ 216 + 4192 * 2 ^ 224 +
  ((List.range 5).map (fun i => (i + 4096 * 2 ^ 32 + 14117766514510818851725116474988244384196648230711247132272706446250362449694224666509649228612022337552304222285880 * 2 ^ 128) *
    2 ^ (8 * (64 + 64 * i)))).sum
/-- The bundle, signed with the key whose secret is 1. -/
def bundle : List Byte := leBytes 4096 bundleHead ++ leBytes 96 10853181093541872776597184020407545733928169825540080231518458825353159630099230495468179160447026300243202939728916580460308357695439347181757909198348471933857110694128910725528803866248617529531975361300462018845611125925580674
/-- A commit of the first 4,192 bytes of staging is Writing. -/
def writing (m : Mem) : State := { keyed with mem := m, fw := { keyed.fw with commitSt := 2, commitReq := (0, 4192) } }
/-- The bundle stands at the start of staging. -/
def bundled : State := writing (up.mem.writeN stagingBase bundle)
theorem running_writing (m : Mem) : Running (writing m) ∧ (writing m).fw.commitSt = 2 ∧ (writing m).runs procBarker = true ∧
    (writing m).runs procSecurity = true ∧ (writing m).targetBank = some 1 ∧ ∀ bs, (writing m).verifyBundle bs = keyed.verifyBundle bs :=
  ⟨running_up, rfl, rfl, rfl, rfl, fun _ => rfl⟩
theorem bundled_staged : bundled.staged = bundle := by
  have l : bundle.length = 4192 := by unfold bundle; rw [List.length_append, leBytes_length, leBytes_length]
  apply List.ext_getElem
  · rw [l]; simp [State.staged, State.staging, Mem.readN, bundled, writing]
  · intro j h1 h2
    have := Mem.read_writeN_inside stagingBase bundle (m := up.mem) (by decide) j h2
    simpa [State.staged, State.staging, Mem.readN, bundled, writing] using this
theorem ok_of_isSome {e : Except Nat Bundle} (h : e.toOption.isSome = true) : ∃ b, e = .ok b := by
  cases e with
  | ok b => exact ⟨b, rfl⟩
  | error _ => cases h
theorem witness_commit_written : Running bundled ∧ bundled.fw.commitSt = 2 ∧ bundled.runs procBarker = true ∧ bundled.runs procSecurity = true ∧
    bundled.targetBank = some 1 ∧ (∃ h, bundled.verifyBundle bundled.staged = .ok h) ∧ ∃ r, (commitIn 2).verifyBundle (commitIn 2).staged = .error r := by
  obtain ⟨h1, h2, h3, h4, h5, h6⟩ := running_writing (up.mem.writeN stagingBase bundle)
  refine ⟨h1, h2, h3, h4, h5, ?_, 3, by decide +kernel⟩
  have k : (keyed.verifyBundle bundle).toOption.isSome = true := by decide +kernel
  rw [bundled_staged, bundled, h6]
  exact ok_of_isSome k
theorem test_empty_bundle : (next (exec .commitVerified (commitIn 1))).fw.commitReason = 3 := by decide +kernel
theorem test_bad_digest : (next (exec (.activationSwitch false []) activating1)).fw.actReason = 7 := by decide +kernel

/-- A warm reset that nothing holds any more; one that a rail still holds; rail VDD_AON is present. -/
def released : State := { dark with rst := { dark.rst with rails := 255, pwrGood := true, clearAt := 5 } }
/-- Rail 2 is low. -/
def lowRail : State := { released with rst := { released.rst with rails := 251 } }
theorem witness_resets : dark.dark = true ∧ up.dark = false ∧ up.pwr.seqOff = false ∧ (2 : Fin 8) ≠ 6 ∧ (2 : Fin 8) ≠ 7 ∧
    ({ up with pwr := { up.pwr with seqOff := true } } : State).pwr.seqOff = true ∧ bit up.rst.rails.toNat 6 = true ∧ up.pwr.state = 3 ∧
    released.dark = true ∧ released.resetHeld = false ∧ released.rst.clearAt ≤ released.time ∧ lowRail.resetHeld = true ∧
    ({ released with time := 3 } : State).time < released.rst.clearAt ∧ mwf 0 up.rst.backup = true := by decide +kernel
theorem test_brownout : (next (exec (.supplyMonitor 2 true) up)).rst.asserted = some 2 ∧ (next (exec (.supplyMonitor 6 true) up)).rst.asserted = some 1 := by decide +kernel
theorem test_release : (next (exec .resetRelease released)).rst.step = 1 ∧ next (exec .resetRelease lowRail) = lowRail := by decide +kernel
/-- Bring-up at a step, with the record of a cold reset of cause 1. -/
def bringup (n : Nat) : State := { State.reset with rst := { State.reset.rst with step := n, record := some (1, 1) } }
/-- A step at which nothing fails. -/
def fine : StepOutcome :=
  { crystal := true, straps := 0, optionsReadable := true, badImages := [], failedStacks := [], computeStarts := true, linkStarts := true
    unlocked := [], fits := [], refs := [], channels := [], tileGains := [], parking := [] }
theorem witness_bringup : (Running (bringup 1) ∧ Running (bringup 5) ∧ Running (bringup 9)) ∧ (bringup 1).rst.failed = false ∧ (bringup 1).rst.stopped = false ∧
    (bringup 1).rst.haltDebug = false ∧ (bringup 1).rst.record = some (1, 1) ∧ fine.failedStacks = [] ∧ (bringup 9).fab.state ≠ .testing ∧
    ({ bringup 9 with fab := { (bringup 9).fab with state := .testing } } : State).fab.state = .testing ∧
    ({ bringup 9 with rst := { (bringup 9).rst with failed := true } } : State).rst.failed = true :=
  ⟨⟨⟨by decide, by decide⟩, ⟨by decide, by decide⟩, ⟨by decide, by decide⟩⟩, by decide +kernel⟩
theorem test_step_1 : (next (exec (.bringupStep fine) (bringup 1))).rst.lastCause = 1 ∧ (next (exec (.bringupStep fine) (bringup 9))).rst.reachedHeld = true := by decide +kernel
theorem witness_blocks : Running namedReset ∧ blockOk (5 : BitVec 8).toNat (0 : BitVec 8).toNat = false ∧ namedReset.blockReset (3 : BitVec 8).toNat (17 : BitVec 8).toNat = true ∧
    blockOk (1 : BitVec 8).toNat (97 : BitVec 8).toNat = true ∧ (97 : BitVec 8).toNat < 98 ∧ up.blockReset 1 (97 : BitVec 8).toNat = false ∧ up.rst.reachedHeld = true ∧
    State.reset.rst.reachedHeld = false ∧ namedReset.rst.blocks = [{ kind := 3, num := (17 : BitVec 8).toNat, since := 5 }] ∧ 5 + 12000 ≤ namedReset.time ∧
    ({ namedReset with time := 12004 } : State).time < 5 + 12000 ∧ namedReset.hl.held = [] ∧ hostBoot.strapClk ≤ 1 ∧
    2 ≤ ({ up with rst := { up.rst with straps := 8 } } : State).strapClk := ⟨running_up, by decide +kernel⟩
theorem test_cluster_reset : ((next (exec (.blockResetAssert 1 97) up)).cluster 97).inReset = true := by decide +kernel
theorem test_plane_release : (next (exec (.blockResetRelease 3 17) namedReset)).rst.blocks = [] := by decide +kernel
theorem test_violation : (next (exec .securityViolation up)).sec.violations = 1 := by decide +kernel

/-- Levels and trips in being, cluster 5 asleep, waking, and awake at the low rate for long. -/
def hotLevels : State := { up with pwr := { up.pwr with levelPower := 2, powerBelow := [(2, 1)], quietSince := some 5, emergency := true } }
/-- A trip, and a regulator that alerts. -/
def tripped : State := { dark with
  time := 1300000000
  rst := { dark.rst with rails := 255, pwrGood := true }
  pwr := { up.pwr with trip := true, tripAt := 0, vrAlert := true } }
/-- Deep standby. -/
def deep : State := { dark with pwr := { up.pwr with seqOff := true } }
theorem witness_power : (Running hotLevels ∧ f32Bad (0x7F800000 : BitVec 32).toNat = true ∧ f32Bad (0x42C80000 : BitVec 32).toNat = false) ∧
    hotLevels.pwr.quietSince = some 5 ∧ hotLevels.time < 5 + 12000000 ∧ 5 + 12000000 ≤ ({ hotLevels with time := 2 ^ 40 } : State).time ∧
    hotLevels.pwr.emergency = true ∧ hotLevels.runs procPower = true ∧ hotLevels.emergent = false ∧ up.pwr.quietSince = none ∧ up.pwr.vrAlert = false ∧
    tripped.pwr.vrAlert = true ∧ tripped.pwr.trip = true ∧ tripped.pwr.tripAt + 1200000000 ≤ tripped.time ∧ tripped.rst.rails = 255 ∧ tripped.rst.pwrGood = true ∧
    tripped.pwr.seqOff = false ∧ up.pwr.trip = false ∧ standby.dark = false ∧ standby.pwr.state = 2 ∧ standby.pwr.fpWasActive = false ∧ deep.dark = true ∧
    deep.pwr.seqOff = true ∧ tripped.dark = true := ⟨⟨running_up, by decide, by decide⟩, by decide +kernel⟩
theorem test_wake : (next (exec (.wake false) standby)).pwr.state = 3 ∧ next (exec (.wake true) standby) = standby := by decide +kernel
theorem test_trip : (next (exec .thermalTrip up)).rst.record = some (2, 8) ∧ (next (exec .thermalTripRelease tripped)).pwr.trip = false := by decide +kernel
/-- Cluster 5 in the states of the sleep statement. -/
def sleeper (c : ClusterSt) : State := { up with
  clusters := [(5, c)]
  dict := { up.dict with objs := [(0x50000A, 1), (0x50000C, 0)] } }
/-- At the low rate since update 0, long ago. -/
def drowsy : State := { sleeper { base := .locked, loopsOn := true, lowFrom := some 0 } with time := 2 ^ 45 }
/-- Cluster 5 is asleep and kept awake by its bit. -/
def asleep : State := { sleeper { asleep := true } with dict := { up.dict with objs := [(0x50000C, 32)], loops := [(5, true)] } }
theorem witness_sleep : (Running drowsy ∧ Running asleep) ∧ (asleep.cluster (5 : Fin 98)).asleep = true ∧ (drowsy.cluster (5 : Fin 98)).asleep = false ∧
    (drowsy.cluster (5 : Fin 98)).waking = none ∧ (drowsy.cluster (5 : Fin 98)).inReset = false ∧ drowsy.runs procPower = true ∧ drowsy.sleepOk (5 : Fin 98) = true ∧
    drowsy.noWindows (5 : Fin 98) = true ∧ up.sleepOk (5 : Fin 98) = false ∧ mwf 0 drowsy.rings = true ∧ up.wanted (5 : Fin 98) = false ∧ asleep.wanted (5 : Fin 98) = true ∧
    asleep.loopsRun (5 : Fin 98) = false ∧ ((sleeper { base := .locked, loopsOn := true, waking := some 0 }).cluster (5 : Fin 98)).waking.isSome = true ∧
    (sleeper { base := .locked, loopsOn := true, waking := some 0 }).loopsLocked (5 : Fin 98) = true ∧
    ((sleeper { base := .locked, loopsOn := true, waking := some 0 }).cluster (5 : Fin 98)).rewriting = false ∧
    ((sleeper { base := .locked, loopsOn := true, waking := some 0 }).cluster (5 : Fin 98)).needRewrite = false ∧
    ((sleeper { base := .locked, loopsOn := true, waking := some 0, needRewrite := true }).cluster (5 : Fin 98)).needRewrite = true ∧
    ({ sleeper { base := .sweeping, waking := some 0 } with time := 1200000 } : State).loopOf (1280 : Fin 25088) (0 : Fin 33) ≠ .locked ∧
    (up.col (1280 : Fin 25088) (0 : Fin 33)).retired = false ∧ (0 : Fin 33).val ∉ (up.tile (1280 : Fin 25088)).recovs := ⟨⟨running_up, running_up⟩, by decide +kernel⟩
theorem test_sleeps : ((next (exec (.clusterSleep 5) drowsy)).cluster 5).asleep = true ∧ ((next (exec (.clusterWake 5) asleep)).cluster 5).waking.isSome = true := by decide +kernel
/-- A clean answer of regulator 1: 0.75 V, in units of 2^-12 V. -/
def answer1 : VrAnswer := { vin := 0, vout := 3072, mode := 0x14, iout := 0, temp := 0, status := 0 }
theorem witness_polls : (Running up ∧ up.runs procPower = true ∧ 4 ≤ up.rst.step ∧ mget 0 up.pwr.misses ((0 : Fin 8).val + 1) < 2) ∧ State.reset.rst.step < 4 ∧
    2 ≤ mget 0 ({ up with pwr := { up.pwr with misses := [(1, 2)] } } : State).pwr.misses ((0 : Fin 8).val + 1) ∧ up.vrLatched ((0 : Fin 8).val + 1) = false ∧
    bits answer1.mode.toNat 5 3 = 0 ∧ statusFault answer1.status = false ∧ bit up.pwr.clearing.toNat (0 : Fin 8) = false :=
  ⟨⟨running_up, by decide, by decide, by decide⟩, by decide +kernel⟩
theorem witness_poll_volts : 95 / 100 * railVolts ((0 : Fin 8).val + 1) ≤ (answer1.vout.toNat : ℚ) * pow2 (sint 5 (bits answer1.mode.toNat 0 5)) ∧
    (answer1.vout.toNat : ℚ) * pow2 (sint 5 (bits answer1.mode.toNat 0 5)) ≤ 105 / 100 * railVolts ((0 : Fin 8).val + 1) := by decide +kernel
theorem test_three_misses : (next (exec (.pmbusPoll 0 none) ({ up with pwr := { up.pwr with misses := [(1, 2)] } } : State))).vrLatched 1 = true := by decide +kernel

end Sys2Proof.Tests
end

section
/-! SUPPORT. The conversion of a reading, as a function of the integer and of the residual, and the statement about it
(02 R57 to R59). -/

namespace Sys2Proof.Machine

/-- The class of a residual (02 Arithmetic table 6). -/
def residualClass (r : Int) : Residual :=
  if r = 4 then .ambiguous else if r = -3 ∨ r = 3 then .warn else .clean

theorem residualClass_clean {r : Int} (hl : -2 ≤ r) (hu : r ≤ 2) : residualClass r = .clean := by
  have h4 : r ≠ 4 := by omega
  have h3 : ¬ (r = -3 ∨ r = 3) := by omega
  simp only [residualClass, if_neg h4, if_neg h3]

theorem residualClass_warn {r : Int} (h : r = -3 ∨ r = 3) : residualClass r = .warn := by
  have h4 : r ≠ 4 := by omega
  simp only [residualClass, if_neg h4, if_pos h]

/-- Within the residuals of R57, the eight codes from three below a nominal code to four above it give its integer. -/
theorem floor_nominal_add (high : Bool) (n : Int) {r : Int} (hl : -3 ≤ r) (hu : r ≤ 4) :
    (nominal high n + r - 256 + 3) / 8 + sumLo high = n := by
  unfold nominal
  omega

/-- A code near the nominal one of an integer of the range converts to that integer, in the class of its residual. -/
theorem convert_nominal_add {high : Bool} {n r : Int} (hlo : sumLo high ≤ n) (hhi : n ≤ sumHi high) (hl : -3 ≤ r)
    (hu : r ≤ 4) : convert high (nominal high n + r) = (n, residualClass r) := by
  have hres : nominal high n + r - (256 + 8 * (n - sumLo high)) = r := by unfold nominal; omega
  unfold convert
  simp only [floor_nominal_add high n hl hu, hres, if_neg (not_lt.mpr hlo), if_neg (not_lt.mpr hhi)]
  unfold residualClass
  split_ifs <;> rfl

/-- A code below the range is ambiguous and clamped to the lower end (R59). -/
theorem convert_below {high : Bool} {c : Int} (h : (c - 256 + 3) / 8 + sumLo high < sumLo high) :
    convert high c = (sumLo high, .ambiguous) :=
  if_pos h

theorem sumLo_le_sumHi (high : Bool) : sumLo high ≤ sumHi high := by cases high <;> decide

/-- A code above the range is ambiguous and clamped to the upper end (R59). -/
theorem convert_above {high : Bool} {c : Int} (h : sumHi high < (c - 256 + 3) / 8 + sumLo high) :
    convert high c = (sumHi high, .ambiguous) :=
  (if_neg (not_lt.mpr ((sumLo_le_sumHi high).trans h.le))).trans (if_pos h)

/-- Settles O39: the codes around a nominal code give its integer with the class of their residual, and the others are
clamped. -/
theorem readingsConvertByTheirResidual : Obligations.ReadingsConvertByTheirResidual := by
  intro high lo hi hlo hhi
  obtain rfl : lo = sumLo high := hlo
  obtain rfl : hi = sumHi high := hhi
  refine ⟨fun n r hn hn' hl hu => ?clean, fun n r hn hn' hr => ?warn, fun n hn hn' => ?ambiguous,
    fun c => convert_below, fun c => convert_above⟩
  case clean =>
    rw [← residualClass_clean hl hu]
    exact convert_nominal_add hn hn' (by omega) (by omega)
  case warn =>
    rw [← residualClass_warn hr]
    exact convert_nominal_add hn hn' (by omega) (by omega)
  case ambiguous => exact convert_nominal_add hn hn' (by decide) le_rfl

end Sys2Proof.Machine
end

section
/-! SUPPORT. One contribution to an accumulator: what aligning it does to the value, what counting it does to the count,
and the statement about both (02 R72 to R76). -/

namespace Sys2Proof.Machine

/-! ### The limits -/

theorem accMin_eq : accMin = -(2 ^ 127 : Int) := by norm_num [accMin]

theorem accMax_eq : accMax = 2 ^ 127 - 1 := by norm_num [accMax]

theorem accMin_le_accMax : accMin ≤ accMax := by decide

/-! ### Counting (R74) -/

section
variable (x : Acc) (k : Nat)

@[simp] theorem Acc.counted_a : (x.counted k).a = x.a := by unfold Acc.counted; split_ifs <;> rfl

@[simp] theorem Acc.counted_overrange : (x.counted k).overrange = x.overrange := by unfold Acc.counted; split_ifs <;> rfl

@[simp] theorem Acc.counted_exp : (x.counted k).exp = x.exp := by unfold Acc.counted; split_ifs <;> rfl

@[simp] theorem Acc.counted_poison : (x.counted k).poison = x.poison := by unfold Acc.counted; split_ifs <;> rfl

@[simp] theorem Acc.counted_pass : (x.counted k).pass = x.pass := by unfold Acc.counted; split_ifs <;> rfl

end

theorem Acc.counted_one_of_lt {x : Acc} (h : x.count < countMax) : x.counted 1 = { x with count := x.count + 1 } :=
  if_neg (not_lt.mpr h)

theorem Acc.counted_one_of_full {x : Acc} (h : x.count = countMax) :
    x.counted 1 = { x with count := countMax, inexact := true } :=
  if_pos (h ▸ Nat.lt_succ_self x.count)

/-! ### Aligning (R72, R73, R75, R76) -/

/-- Aligning changes the value and the two flags alone. -/
theorem Acc.align_frame (x : Acc) (r sh : Int) : x.align r sh =
    { x with a := (x.align r sh).a, inexact := (x.align r sh).inexact, overrange := (x.align r sh).overrange } := by
  unfold Acc.align
  dsimp only
  split_ifs <;> rfl

@[simp] theorem Acc.align_count (x : Acc) (r sh : Int) : (x.align r sh).count = x.count := by rw [Acc.align_frame]

@[simp] theorem Acc.align_exp (x : Acc) (r sh : Int) : (x.align r sh).exp = x.exp := by rw [Acc.align_frame]

@[simp] theorem Acc.align_poison (x : Acc) (r sh : Int) : (x.align r sh).poison = x.poison := by rw [Acc.align_frame]

@[simp] theorem Acc.align_pass (x : Acc) (r sh : Int) : (x.align r sh).pass = x.pass := by rw [Acc.align_frame]

/-- A zero contribution leaves the accumulator as it is (R73). -/
theorem Acc.align_zero (x : Acc) (sh : Int) : x.align 0 sh = x := if_pos (.inl rfl)

/-- An accumulator with OVERRANGE set stays as it is (R76). -/
theorem Acc.align_of_overrange {x : Acc} (h : x.overrange = true) (r sh : Int) : x.align r sh = x := if_pos (.inr h)

/-- Inside the alignment window a non-zero contribution is added exactly, or saturates on the side of the sum. -/
theorem Acc.align_window {x : Acc} {r sh : Int} (hr : r ≠ 0) (hx : x.overrange = false) (h0 : 0 ≤ sh) (h56 : sh ≤ 56) :
    x.align r sh =
      if x.a + r * 2 ^ sh.toNat < accMin then { x with a := accMin, overrange := true }
      else if accMax < x.a + r * 2 ^ sh.toNat then { x with a := accMax, overrange := true }
      else { x with a := x.a + r * 2 ^ sh.toNat } := by
  have hadds : ¬ (r = 0 ∨ x.overrange = true) := by simp [hr, hx]
  unfold Acc.align
  simp only [if_neg hadds, if_neg (not_lt.mpr h56), if_pos h0, if_neg (not_lt.mpr h0), Nat.cast_pow, Nat.cast_ofNat]

section
variable {x : Acc} {r sh : Int} (hx : x.overrange = false) (h0 : 0 ≤ sh) (h56 : sh ≤ 56)
include hx h0 h56

/-- A sum that fits 128 bits is exact; a zero contribution is no exception. -/
theorem Acc.align_exact (hmin : accMin ≤ x.a + r * 2 ^ sh.toNat) (hmax : x.a + r * 2 ^ sh.toNat ≤ accMax) :
    x.align r sh = { x with a := x.a + r * 2 ^ sh.toNat } := by
  by_cases hr : r = 0
  · simp only [hr, Acc.align_zero, zero_mul, add_zero]
  · rw [Acc.align_window hr hx h0 h56, if_neg (not_lt.mpr hmin), if_neg (not_lt.mpr hmax)]

theorem Acc.align_underflow (hr : r ≠ 0) (h : x.a + r * 2 ^ sh.toNat < accMin) :
    x.align r sh = { x with a := accMin, overrange := true } := by
  rw [Acc.align_window hr hx h0 h56, if_pos h]

theorem Acc.align_overflow (hr : r ≠ 0) (h : accMax < x.a + r * 2 ^ sh.toNat) :
    x.align r sh = { x with a := accMax, overrange := true } := by
  rw [Acc.align_window hr hx h0 h56, if_neg (not_lt.mpr (accMin_le_accMax.trans h.le)), if_pos h]

end

/-! ### Adding a contribution: aligning, then counting -/

section
variable (x : Acc) (r e : Int)

@[simp] theorem Acc.add_a : (x.add r e).a = (x.align r (e - x.exp)).a := Acc.counted_a _ _

@[simp] theorem Acc.add_overrange : (x.add r e).overrange = (x.align r (e - x.exp)).overrange := Acc.counted_overrange _ _

@[simp] theorem Acc.add_exp : (x.add r e).exp = x.exp := (Acc.counted_exp _ _).trans (Acc.align_exp x r _)

@[simp] theorem Acc.add_poison : (x.add r e).poison = x.poison := (Acc.counted_poison _ _).trans (Acc.align_poison x r _)

@[simp] theorem Acc.add_pass : (x.add r e).pass = x.pass := (Acc.counted_pass _ _).trans (Acc.align_pass x r _)

end

/-- Below the largest count a contribution raises the count by one and sets no flag by it. -/
theorem Acc.add_of_lt {x : Acc} (r e : Int) (h : x.count < countMax) :
    x.add r e = { x.align r (e - x.exp) with count := x.count + 1 } := by
  have ha : (x.align r (e - x.exp)).count < countMax := by rwa [Acc.align_count]
  rw [Acc.add, Acc.counted_one_of_lt ha, Acc.align_count]

/-- At the largest count a contribution leaves the count there and sets INEXACT. -/
theorem Acc.add_of_full {x : Acc} (r e : Int) (h : x.count = countMax) :
    x.add r e = { x.align r (e - x.exp) with count := countMax, inexact := true } :=
  Acc.counted_one_of_full ((Acc.align_count x r _).trans h)

/-- Below the largest count, INEXACT after a contribution is what the alignment left. -/
theorem Acc.add_inexact_of_lt {x : Acc} (r e : Int) (h : x.count < countMax) :
    (x.add r e).inexact = (x.align r (e - x.exp)).inexact := by rw [Acc.add_of_lt r e h]

/-- Settles O41: a contribution is aligned and then counted, by the case of its alignment. -/
theorem accumulatorsAddExactlyOrFlag : Obligations.AccumulatorsAddExactlyOrFlag := by
  intro x r e
  refine ⟨fun h => ?below, fun h => ?full, fun h => ?zero, fun hx h0 h56 => ?window, fun h => ?overrange,
    Acc.add_exp x r e, Acc.add_poison x r e, Acc.add_pass x r e⟩
  case below => rw [Acc.add_of_lt r e h]
  case full => rw [Acc.add_of_full r e h]; exact ⟨rfl, rfl⟩
  case zero =>
    subst h
    have halign := Acc.align_zero x (e - x.exp)
    rw [Acc.add_a, Acc.add_overrange, halign]
    exact ⟨rfl, rfl, fun hc => by rw [Acc.add_inexact_of_lt 0 e hc, halign]⟩
  case window =>
    dsimp only
    rw [← accMin_eq, ← accMax_eq, Acc.add_a, Acc.add_overrange]
    refine ⟨fun hmin hmax => ?exact, fun hr h => ?underflow, fun hr h => ?overflow⟩
    case exact =>
      have halign := Acc.align_exact hx h0 h56 hmin hmax
      exact ⟨by rw [halign], by rw [halign, hx], fun hc => by rw [Acc.add_inexact_of_lt r e hc, halign]⟩
    case underflow => rw [Acc.align_underflow hx h0 h56 hr h]; exact ⟨rfl, rfl⟩
    case overflow => rw [Acc.align_overflow hx h0 h56 hr h]; exact ⟨rfl, rfl⟩
  case overrange =>
    rw [Acc.add_a, Acc.add_overrange, Acc.align_of_overrange h]
    exact ⟨rfl, h⟩

end Sys2Proof.Machine
end

section
/-! SUPPORT. A doorbell of the host: the header of its DBL, what serving it comes to, the outcomes of a queue doorbell,
and the statement about them (05 R166, R167; 11 R413, R427). -/

namespace Sys2Proof.Machine

/-! ### The header of a DBL (11 Host link table 2) -/

theorem bits_eq_div_mod (n lo w : Nat) : bits n lo w = n / 2 ^ lo % 2 ^ w := by
  rw [bits, Nat.shiftRight_eq_div_pow]

section
variable {tag off v : Nat} (htag : tag < 2 ^ 12) (hoff : off < 2 ^ 16) (hv : v < 2 ^ 64)
include htag hoff hv

/-- A DBL's header holds its type, its tag, its offset and its value, and zeros elsewhere. -/
theorem doorbellHeader_eq :
    hostHeader 5 tag 0 off 0 v = 5 + tag * 2 ^ 12 + off * 2 ^ 64 + v * 2 ^ 128 := by
  have hoff64 : off < 2 ^ 64 := hoff.trans (by norm_num)
  simp only [hostHeader, field, Nat.mod_eq_of_lt htag, Nat.mod_eq_of_lt hoff64, Nat.mod_eq_of_lt hv]
  omega

theorem doorbellHeader_type : bits (hostHeader 5 tag 0 off 0 v) 0 8 = 5 := by
  rw [doorbellHeader_eq htag hoff hv, bits_eq_div_mod]; omega

theorem doorbellHeader_tag : bits (hostHeader 5 tag 0 off 0 v) 12 12 = tag := by
  rw [doorbellHeader_eq htag hoff hv, bits_eq_div_mod]; omega

theorem doorbellHeader_addr : bits (hostHeader 5 tag 0 off 0 v) 64 64 = off := by
  rw [doorbellHeader_eq htag hoff hv, bits_eq_div_mod]; omega

theorem doorbellHeader_value : bits (hostHeader 5 tag 0 off 0 v) 128 64 = v := by
  rw [doorbellHeader_eq htag hoff hv, bits_eq_div_mod]; omega

/-- The fields that a DBL must leave 0 are 0: the space and the reserved bits beside it, the length with the reserved
bits around it, the offset's upper bits, and the detail. -/
theorem doorbellHeader_zeros : let h := hostHeader 5 tag 0 off 0 v
    bits h 8 2 = 0 ∧ bits h 10 2 = 0 ∧ bits h 24 8 = 0 ∧ bits h 32 13 = 0 ∧ bits h 45 19 = 0 ∧ bits h 80 48 = 0 ∧
      bits h 192 32 = 0 := by
  simp only [doorbellHeader_eq htag hoff hv, bits_eq_div_mod]
  omega

theorem badHeader_doorbellHeader : badHeader (hostHeader 5 tag 0 off 0 v) = false := by
  obtain ⟨hspace, hbeside, hbelow, hlen, habove, haddr, hdetail⟩ := doorbellHeader_zeros htag hoff hv
  simp [badHeader, doorbellHeader_type htag hoff hv, hspace, hbeside, hbelow, hlen, habove, haddr, hdetail]

/-- A DBL touches no memory, so no stack's block reset holds it. -/
theorem hostWaits_doorbellHeader (s : State) : s.hostWaits (hostHeader 5 tag 0 off 0 v) [] = false := by
  simp [State.hostWaits, doorbellHeader_type htag hoff hv]

/-- A well-formed DBL is a doorbell at its offset, answered under its tag. -/
theorem serveHost_doorbell (s : State) : s.serveHost (hostHeader 5 tag 0 off 0 v) [] =
    (s.bell off v).1.answer (.host tag) 0 0 (s.bell off v).2 := by
  simp only [State.serveHost, badHeader_doorbellHeader htag hoff hv, doorbellHeader_type htag hoff hv,
    doorbellHeader_tag htag hoff hv, doorbellHeader_addr htag hoff hv, doorbellHeader_value htag hoff hv,
    Bool.false_eq_true, if_false]

/-- On a link that is Up, with no request waiting, a DBL is served when it arrives. -/
theorem hostCommand_doorbell {s : State} (hup : s.hl.state = .up) (hheld : s.hl.held = []) :
    s.hostCommand (hostHeader 5 tag 0 off 0 v) = (s.bell off v).1.answer (.host tag) 0 0 (s.bell off v).2 := by
  simp only [State.hostCommand, State.hostOpen, State.hostOrder, hup, hheld, hostWaits_doorbellHeader htag hoff hv,
    serveHost_doorbell htag hoff hv, decide_true, ne_eq, not_true_eq_false, Bool.false_eq_true, or_self, if_true, if_false]

end

/-! ### The doorbell of a queue (11 R427, Host link table 6) -/

/-- Offset 0x1000 + 8 q of the window is the doorbell of queue q. -/
theorem bell_queue (s : State) (q : Fin 4) (v : Nat) : s.bell (0x1000 + 8 * q) v = s.queueBell q v := by
  have hoff : doorbellOff (0x1000 + 8 * q) = true := by revert q; decide
  have hlow : 0x1000 + 8 * (q : Nat) < 0x1100 := by omega
  have hindex : (0x1000 + 8 * (q : Nat) - 0x1000) / 8 = q := by omega
  rw [State.bell, if_neg (not_not.mpr hoff), if_pos hlow, hindex]

/-- QUEUE_DB rings the doorbell of its queue and is answered with what that gave. -/
theorem exec_queueDb {s : State} (hrun : Running s) (hup : s.hl.state = .up) (hheld : s.hl.held = []) (tag : BitVec 12)
    (q : Fin 4) (v : BitVec 64) : exec (.queueDb tag q v) s =
      .next ((s.queueBell q v.toNat).1.answer (.host tag.toNat) 0 0 (s.queueBell q v.toNat).2) := by
  have hoff : 0x1000 + 8 * (q : Nat) < 2 ^ 16 := by omega
  show s.live (s.hostCommand (hostHeader 5 tag.toNat 0 (0x1000 + 8 * q) 0 v.toNat)) = _
  rw [live_running hrun, hostCommand_doorbell tag.isLt hoff v.isLt hup hheld, bell_queue]

section
variable {s : State} {q : Nat}

/-- Without a session the doorbell is refused with detail 3. -/
theorem queueBell_of_no_session (v : Nat) (h : s.hl.session = false) : s.queueBell q v = (s, .refused 3) := by
  simp [State.queueBell, h]

theorem queueBell_of_no_ring (v : Nat) (h : s.hl.session = true) (hring : (s.queue q).confRing = 0xFFFFFFFF) :
    s.queueBell q v = (s, .err errAccess 0) := by
  simp [State.queueBell, h, hring]

section
variable (h : s.hl.session = true) (hring : (s.queue q).confRing ≠ 0xFFFFFFFF) (hcpl : (s.queue q).confCpl ≠ 0xFFFFFFFF)
include h hring hcpl

theorem queueBell_of_large {v : Nat} (hv : 2 ^ 16 ≤ v) : s.queueBell q v = (s, .err errValue 0) := by
  simp [State.queueBell, h, hring, hcpl, show 65536 ≤ v from hv]

/-- With a session, a configured ring and a tail of 16 bits, the queue decides: the answer says whether it took the tail. -/
theorem queueBell_of_open {v : Nat} (hv : v < 2 ^ 16) :
    s.queueBell q v = ((s.doorbell q v).1, if (s.doorbell q v).2 then .ok [] else .okIgnored) := by
  simp only [State.queueBell, h, hring, hcpl, not_le.mpr hv, not_true_eq_false, or_self, if_false]
  rcases s.doorbell q v with ⟨t, _ | _⟩ <;> rfl

end

/-! ### What the queue makes of a new tail (05 R166, R167) -/

/-- The number of ops that a new tail submits (05 R167). -/
def QueueSt.newOps (u : QueueSt) (tail : Nat) : Nat := (tail + 65536 - u.tail % 65536) % 65536

/-- The tail that the queue has already submits nothing. -/
theorem doorbell_of_none {tail : Nat} (hn : (s.queue q).newOps tail = 0) : s.doorbell q tail = (s, false) :=
  if_pos hn

/-- Beyond 1,024 ops submitted and not retired the tail is ignored, and counter 0x0B counts it. -/
theorem doorbell_of_overrun {tail : Nat} (hn : (s.queue q).newOps tail ≠ 0)
    (hfull : 1024 < (s.queue q).newOps tail + ((s.queue q).submitted - (s.queue q).done)) :
    s.doorbell q tail = (s.count 0x0B, false) :=
  (if_neg hn).trans (if_pos hfull)

/-- Otherwise the queue holds the new tail, and its count of submitted ops rises by the new ones. -/
theorem doorbell_of_fits {tail : Nat} (htail : tail < 2 ^ 16) (hn : (s.queue q).newOps tail ≠ 0)
    (hfits : (s.queue q).newOps tail + ((s.queue q).submitted - (s.queue q).done) ≤ 1024) :
    s.doorbell q tail = (s.modQueue q (fun u =>
      { u with tail := tail, submitted := u.submitted + (s.queue q).newOps tail }), true) := by
  have hmod : tail % 65536 = tail := Nat.mod_eq_of_lt htail
  have hdoorbell : s.doorbell q tail = (s.modQueue q (fun u =>
      { u with tail := tail % 65536, submitted := u.submitted + (s.queue q).newOps tail }), true) :=
    (if_neg hn).trans (if_neg (not_lt.mpr hfits))
  rw [hdoorbell, hmod]

end

/-- The next descriptor of a queue lies in the slot of the count of ops admitted, modulo 1,024. -/
theorem nextDesc_eq (s : State) (q : Nat) : s.nextDesc q =
    leNat (s.mem.readN (stagingBase + (s.queue q).confRing + 64 * ((s.queue q).admitted % 1024)) 64) := by
  rw [State.nextDesc, State.slotDesc, State.staging, ← Nat.add_assoc]

/-- Settles O33: a queue doorbell is served at once, and its answer is that of the first check that fails, or of the
queue. -/
theorem hostDoorbells : Obligations.HostDoorbells := by
  refine ⟨fun tag q v s hrun hup hheld => ?_, nextDesc_eq⟩
  rw [exec_queueDb hrun hup hheld]
  refine ⟨fun h => ?closed, fun h hring => ?unconfigured, fun h hring hcpl => ⟨fun hv => ?large, fun hv hn hfits => ?fits,
    fun hv hn hfull => ?overrun, fun hv hn => ?none⟩⟩
  case closed => rw [queueBell_of_no_session _ h]
  case unconfigured => rw [queueBell_of_no_ring _ h hring]
  case large => rw [queueBell_of_large h hring hcpl hv]
  case fits => rw [queueBell_of_open h hring hcpl hv, doorbell_of_fits hv hn hfits]; rfl
  case overrun => rw [queueBell_of_open h hring hcpl hv, doorbell_of_overrun hn hfull]; rfl
  case none => rw [queueBell_of_open h hring hcpl hv, doorbell_of_none hn]; rfl

end Sys2Proof.Machine
end

section
/-! SUPPORT. Requests by a port that the Barker serves: how a command's access of an object comes to the object's own rule,
what decides a write of it, and the cursors that reads move (12 R432, R433, R436). -/

namespace Sys2Proof.Machine

section
variable {s t : State} {p : Port} {index sub : Nat} {data : List Byte}

/-- A write of an object that the Barker keeps is decided at once, and answered. -/
theorem live_portWrite {a : Ans} (h : Writes p s) (hk : keeper index sub = none)
    (hobj : s.writeObj p index sub data 0 = (t, some a)) :
    s.live (s.portWrite p index sub data) = .next (t.answer p index sub a) := by
  have hwait : s.mustWait index sub = none := by simp only [State.mustWait, hk]
  rw [live_running (writes_running h), portWrite_of_writes h, writeNow_eq h.1 index sub data 0 hwait, hobj]

/-- A read of the whole of an object that the Barker keeps is answered at once, by either port. -/
theorem live_portRead {b : List Byte} {len : Nat} (h : Reaches p s) (hk : keeper index sub = none)
    (hobj : s.readObj index sub = (t, .ok b)) (hlen : b.length ≤ len) :
    s.live (s.portRead p index sub len) = .next (t.answer p index sub (.ok b)) := by
  have hwait : s.mustWait index sub = none := by simp only [State.mustWait, hk]
  have hwhole : (if isField p then b else (b.drop 0).take len) = b := by
    rw [List.drop_zero, List.take_of_length_le hlen, ite_self]
  simp only [live_running (reaches_running h), portRead_of_reaches h, State.readNow, servedIndex_of_reaches h, hwait, hobj,
    hwhole, not_true_eq_false, if_false]

/-! ### The rule of a write: refused, an object that acts, or a member of a family that acts -/

theorem writeObj_of_refused {a : Ans} {off : Nat} (h : s.writeRefusal p index sub data off = some a) :
    s.writeObj p index sub data off = (s, some a) := by
  simp only [State.writeObj, h]

theorem writeObj_of_act {x : State × Option Ans} {off : Nat} (h : s.writeRefusal p index sub data off = none)
    (hact : s.act p index sub (leNat data) data = some x) : s.writeObj p index sub data off = x := by
  simp only [State.writeObj, h, hact]

theorem writeObj_of_actFamily {x : State × Option Ans} {off : Nat} (h : s.writeRefusal p index sub data off = none)
    (hact : s.act p index sub (leNat data) data = none) (hfam : s.actFamily index sub (leNat data) = some x) :
    s.writeObj p index sub data off = x := by
  simp only [State.writeObj, h, hact, hfam]

/-- A value outside the range that an object's line states is out of range. -/
theorem inRange_of_range {r : ObjRow} {i lo hi v : Nat} (hrow : objRow index sub = some (r, i)) (hr : r.range = some (lo, hi))
    (hv : ¬ (lo ≤ v ∧ v ≤ hi)) : inRange index sub v = false := by
  have hbounds : (decide (lo ≤ v) && decide (v ≤ hi)) = false := by simpa using hv
  simp only [inRange, hrow, hr, hbounds, Bool.false_and]

/-- A scalar of the right length that passes every check but its range is refused for its value. -/
theorem writeRefusal_of_range {r : ObjRow} {i : Nat} (hrow : objRow index sub = some (r, i)) (hacc : r.acc = 1 ∨ r.acc = 2)
    (hden : s.accessDenied p index sub (leNat data) = false) (hlen : data.length = s.sizeOf r index sub) (hty : r.ty ≠ 9)
    (hlate : lateRange index sub = false) (hrange : inRange index sub (leNat data) = false) :
    s.writeRefusal p index sub data 0 = some (.err errValue 0) := by
  have hwritable : r.acc ≠ 0 ∧ r.acc ≠ 3 := by omega
  simp [State.writeRefusal, hrow, hwritable, hden, pieces, hlen, hty, hlate, hrange]

end

/-! ### Cursors: where they are stored, and what they look for -/

/-- A value stored in an object replaces what the object held, over its default. -/
theorem setObj_of_default {index sub d : Nat} (s : State) (v : Nat)
    (h : (objRow index sub).map (fun x => rowDefault x.1 x.2) = some d) :
    s.setObj index sub v = { s with dict := { s.dict with objs := mset d s.dict.objs (256 * index + sub) v } } := by
  obtain ⟨⟨r, i⟩, hrow, rfl⟩ := Option.map_eq_some_iff.mp h
  simp only [State.setObj, hrow]

/-- The least of a list, as the library has it. -/
theorem leastOf_eq_min? (l : List Nat) : leastOf l = l.min? := by cases l <;> rfl

end Sys2Proof.Machine
end

section
/-! SUPPORT. The fault counters: what raising one and clearing one leave in the counters and their SAT flags, what a write
of a counter object comes to, and the statements about them (12 R443 to R445). -/

namespace Sys2Proof.Machine

/-! ### Raising a counter (R444) -/

/-- The SAT flags after a raise: the counter's own where it stands at its end, and those that were set. -/
theorem State.mem_sats_count (s : State) (n k j : Nat) : j ∈ (s.count n k).flt.sats ↔
    j ∈ s.flt.sats ∨ j = n ∧ 0xFFFFFFFF ≤ mget 0 s.flt.counters n + k := by
  have hend : satAdd 32 (mget 0 s.flt.counters n) k = 2 ^ 32 - 1 ↔ 0xFFFFFFFF ≤ mget 0 s.flt.counters n + k := min_eq_right_iff
  dsimp only [State.count]
  split_ifs with h
  · simp [← hend, h.1]
  · rw [not_and_not_right, hend] at h
    constructor
    · exact .inl
    · rintro (hj | ⟨rfl, hj⟩)
      · exact hj
      · exact h hj

/-- Settles O12: a raise saturates, sets the counter's flag at the end, and touches no other counter, flag or part of the
state. -/
theorem countersSaturate : Obligations.CountersSaturate := by
  intro s n k hwf
  refine ⟨State.count_self n k hwf, ?flag, fun j hj => ⟨State.count_other s n k j hj, ?other⟩, rfl⟩
  case flag => simp [State.mem_sats_count]
  case other => simp [State.mem_sats_count, hj]

/-! ### Clearing counters (R445) -/

section
variable {s : State}

theorem State.clearCounter_self (n : Nat) (h : mwf 0 s.flt.counters = true) :
    mget 0 (s.clearCounter n).flt.counters n = 0 :=
  mget_mdel_self n h

theorem State.clearCounter_other (s : State) {n k : Nat} (h : k ≠ n) :
    mget 0 (s.clearCounter n).flt.counters k = mget 0 s.flt.counters k :=
  mget_mdel_other 0 _ n k h

theorem State.mwf_clearCounter (n : Nat) (h : mwf 0 s.flt.counters = true) : mwf 0 (s.clearCounter n).flt.counters = true :=
  mwf_mdel n h

@[simp] theorem State.mem_sats_clearCounter (s : State) (n k : Nat) :
    k ∈ (s.clearCounter n).flt.sats ↔ k ∈ s.flt.sats ∧ k ≠ n := by
  simp [State.clearCounter]

/-- After a clear the next increment makes the counter 1. -/
theorem State.count_clearCounter_self (n : Nat) (h : mwf 0 s.flt.counters = true) :
    mget 0 ((s.clearCounter n).count n).flt.counters n = 1 := by
  rw [State.count_self n 1 (State.mwf_clearCounter n h), State.clearCounter_self n h]
  rfl

/-- Clearing a list of counters leaves each of them 0 with its flag clear, and so too any other that was so before. -/
theorem State.clearCounters_mem (ns : List Nat) (h : mwf 0 s.flt.counters = true) {n : Nat}
    (hn : n ∈ ns ∨ mget 0 s.flt.counters n = 0 ∧ n ∉ s.flt.sats) :
    mget 0 (ns.foldl State.clearCounter s).flt.counters n = 0 ∧ n ∉ (ns.foldl State.clearCounter s).flt.sats := by
  induction ns generalizing s with
  | nil => simpa using hn
  | cons m ns ih =>
    refine ih (State.mwf_clearCounter m h) ?_
    by_cases hnm : n = m
    · subst hnm
      exact .inr ⟨State.clearCounter_self n h, by simp⟩
    · simpa [hnm, State.clearCounter_other s hnm] using hn

/-- Clearing counters changes nothing but the counters and their flags. -/
theorem State.clearCounters_frame (s : State) (ns : List Nat) : ns.foldl State.clearCounter s = { s with flt := { s.flt with
    counters := (ns.foldl State.clearCounter s).flt.counters, sats := (ns.foldl State.clearCounter s).flt.sats } } := by
  induction ns generalizing s with
  | nil => rfl
  | cons m ns ih => exact ih (s.clearCounter m)

end

/-! ### The counter objects 71cc:01 and 7000:03 -/

/-- The line of the counter values in the object tables. -/
def counterRow : ObjRow := { base := 0x7100, sub := 0x01, ty := 3, size := 4, count := 55, acc := 1, range := some (0, 0) }

theorem objRow_counter : ∀ n : Fin 55, objRow (0x7100 + n) 1 = some (counterRow, n.val) := by decide +kernel

theorem keeper_counter : ∀ n : Fin 55, keeper (0x7100 + n) 1 = none := by decide

theorem lateRange_counter : ∀ n : Fin 55, lateRange (0x7100 + n) 1 = false := by decide

theorem inRange_counter_zero : ∀ n : Fin 55, inRange (0x7100 + n) 1 0 = true := by decide +kernel

section
variable (s : State) (p : Port) (n : Fin 55) (v : Nat) (data : List Byte)

theorem accessDenied_counter : s.accessDenied p (0x7100 + n) 1 v = false := by
  unfold State.accessDenied
  split
  any_goals omega
  rfl

theorem reservedSet_counter : reservedSet (0x7100 + n) 1 v = false := by
  unfold reservedSet
  split
  any_goals omega
  rfl

theorem act_counter : s.act p (0x7100 + n) 1 v data = none := by
  unfold State.act
  split
  any_goals omega
  rfl

theorem actFamily_counter : s.actFamily (0x7100 + n) 1 v = some (s.clearCounter n, some (.ok [])) := by
  have hindex : 0x7100 + (n : Nat) - 0x7100 = n := by omega
  unfold State.actFamily
  iterate 6 rw [if_neg (by omega)]
  rw [if_pos (by omega), hindex]

/-- A write of 0 clears the counter. -/
theorem writeObj_counter_zero :
    s.writeObj p (0x7100 + n) 1 [0, 0, 0, 0] 0 = (s.clearCounter n, some (.ok [])) := by
  have hvalue : leNat [0, 0, 0, 0] = 0 := by decide
  have hrefusal : s.writeRefusal p (0x7100 + n) 1 [0, 0, 0, 0] 0 = none :=
    writeRefusal_none (shape_counter n) (.inl rfl) (by omega) rfl (accessDenied_counter s p n _)
      (.inr ⟨reservedSet_counter n _, .inr (hvalue ▸ inRange_counter_zero n)⟩)
  exact writeObj_of_actFamily hrefusal (act_counter s p n _ _) (actFamily_counter s n _)

/-- A write of any other value is refused. -/
theorem writeObj_counter_nonzero {data : List Byte} (hlen : data.length = 4) (hv : leNat data ≠ 0) :
    s.writeObj p (0x7100 + n) 1 data 0 = (s, some (.err errValue 0)) := by
  have hsize : data.length = s.sizeOf counterRow (0x7100 + n) 1 := by simp [State.sizeOf, counterRow, hlen]
  have hrange : inRange (0x7100 + n) 1 (leNat data) = false := inRange_of_range (objRow_counter n) rfl (by omega)
  exact writeObj_of_refused (writeRefusal_of_range (objRow_counter n) (.inl rfl) (accessDenied_counter s p n _) hsize
    (by decide) (lateRange_counter n) hrange)

/-- A write of 1 to 7000:03 clears every counter. -/
theorem writeObj_clearAll :
    s.writeObj p 0x7000 3 [1] 0 = ((List.range 55).foldl State.clearCounter s, some (.ok [])) := by
  have hrange : inRange 0x7000 3 (leNat [1]) = true := by decide +kernel
  exact writeObj_of_act (writeRefusal_none shape_clearAll (.inr rfl) (by decide) rfl rfl (.inr ⟨rfl, .inr hrange⟩)) rfl

end

theorem leNat_leBytes_four (v : BitVec 32) : leNat (leBytes 4 v.toNat) = v.toNat := by
  rw [leNat_leBytes]; exact Nat.mod_eq_of_lt v.isLt

/-- Settles O11: a write of 0 clears its counter, a write of another value is refused, and 7000:03 clears all 55. -/
theorem countersAreCleared : Obligations.CountersAreCleared := by
  intro p s hwrites hwf
  refine ⟨fun n => ⟨s.clearCounter n, ?clear, State.clearCounter_self n hwf, by simp, State.count_clearCounter_self n hwf,
      fun k hk => ⟨State.clearCounter_other s hk, by simp [hk]⟩, rfl⟩,
    fun n v hv => ?refuse,
    ⟨(List.range 55).foldl State.clearCounter s, ?all, fun n => State.clearCounters_mem _ hwf (.inl (List.mem_range.mpr n.isLt)),
      State.clearCounters_frame s _⟩⟩
  case clear => exact live_portWrite hwrites (keeper_counter n) (writeObj_counter_zero s p n)
  case refuse =>
    have hindex : (BitVec.ofNat 16 (0x7100 + n)).toNat = 0x7100 + n := by
      rw [BitVec.toNat_ofNat]; omega
    have hvalue : leNat (leBytes 4 v.toNat) ≠ 0 := by
      rw [leNat_leBytes_four]; exact fun h => hv (BitVec.eq_of_toNat_eq h)
    show s.live (s.portWrite p (BitVec.ofNat 16 (0x7100 + n)).toNat 1 (leBytes 4 v.toNat)) = _
    rw [hindex]
    exact live_portWrite hwrites (keeper_counter n) (writeObj_counter_nonzero s p n (leBytes_length _ _) hvalue)
  case all => exact live_portWrite hwrites rfl (writeObj_clearAll s p)

end Sys2Proof.Machine
end

section
/-! SUPPORT. The event log: what a read of it gives and where its cursor goes, what fills and empties the log, and the
statement about it (12 R448). -/

namespace Sys2Proof.Machine

/-! ### Reading the log -/

section
variable {s : State}

/-- A read of 7800:03 reads the log. -/
theorem readObj_log (s : State) : s.readObj 0x7800 3 = (s.readLog.1, .ok s.readLog.2) := by
  have hexists : objExists 0x7800 3 = true := by decide +kernel
  have hreadable : (objRow 0x7800 3).map (·.1.acc) ≠ some 2 := by decide +kernel
  simp [State.readObj, hexists, hreadable]

/-- The held record with a seq that no other record has is the one found under it. -/
theorem find?_seq_of_unique {log : List EventRec} {e : EventRec} (he : e ∈ log) (huniq : ∀ f ∈ log, f.seq = e.seq → f = e) :
    log.find? (fun f => decide (f.seq = e.seq)) = some e := by
  have hsome : (log.find? (fun f => decide (f.seq = e.seq))).isSome = true :=
    List.find?_isSome.mpr ⟨e, he, decide_eq_true rfl⟩
  obtain ⟨f, hf⟩ := Option.isSome_iff_exists.mp hsome
  have hseq := List.find?_some hf
  rw [hf, huniq f (List.mem_of_find?_eq_some hf) (of_decide_eq_true hseq)]

/-- The first record at or after the cursor is read, and the cursor moves past it. -/
theorem readLog_of_first {e : EventRec} (he : e ∈ s.dict.log) (hcur : s.obj 0x7800 2 ≤ e.seq)
    (hfirst : ∀ f ∈ s.dict.log, s.obj 0x7800 2 ≤ f.seq → e.seq ≤ f.seq) (huniq : ∀ f ∈ s.dict.log, f.seq = e.seq → f = e) :
    s.readLog = (s.setObj 0x7800 2 ((e.seq + 1) % 2 ^ 32), e.bytes) := by
  have hleast : leastOf ((s.dict.log.map (·.seq)).filter (fun n => decide (s.obj 0x7800 2 ≤ n))) = some e.seq := by
    rw [leastOf_eq_min?, List.min?_eq_some_iff]
    simp only [List.mem_filter, List.mem_map, decide_eq_true_eq]
    refine ⟨⟨⟨e, he, rfl⟩, hcur⟩, ?_⟩
    rintro _ ⟨⟨f, hf, rfl⟩, hfcur⟩
    exact hfirst f hf hfcur
  simp only [State.readLog, hleast, find?_seq_of_unique he huniq]

/-- Past the last record zeros are read, and nothing changes. -/
theorem readLog_of_none (h : ∀ e ∈ s.dict.log, e.seq < s.obj 0x7800 2) : s.readLog = (s, List.replicate 32 0) := by
  have hleast : leastOf ((s.dict.log.map (·.seq)).filter (fun n => decide (s.obj 0x7800 2 ≤ n))) = none := by
    rw [leastOf_eq_min?, List.min?_eq_none_iff, List.filter_eq_nil_iff]
    simpa using h
  simp only [State.readLog, hleast]

end

/-! ### What fills and empties the log -/

/-- An event on the field port leaves the dictionary as it is. -/
theorem fpEvent_dict (s : State) (e : EventRec) : (s.fpEvent e).dict = s.dict := by rw [State.fpEvent_frame]

/-- The record of the next event. -/
def State.nextEvent (s : State) (kind severity code payload : Nat) : EventRec :=
  { kind := kind, severity := severity, code := code, seq := (s.dict.seq + 1) % 2 ^ 32, time := s.time, payload := payload }

/-- An event joins the log as its last record, and the oldest records beyond 4,096 leave it. -/
theorem event_log (s : State) (kind severity code payload : Nat) : (s.event kind severity code payload).dict.log =
    (s.dict.log ++ [s.nextEvent kind severity code payload]).drop (s.dict.log.length + 1 - 4096) := by
  unfold State.event
  dsimp only
  split_ifs <;> simp only [fpEvent_dict, State.count_dict, State.nextEvent]

theorem event_log_length_le (s : State) (kind severity code payload : Nat) :
    (s.event kind severity code payload).dict.log.length ≤ 4096 := by
  rw [event_log, List.length_drop, List.length_append, List.length_singleton]
  omega

/-- A reset asserted while no other is empties the log. -/
theorem assertReset_log {s : State} (level cause : Nat) (h : s.dark = false) : (s.assertReset level cause).dict.log = [] := by
  have hnone : s.rst.asserted = none := by simpa [State.dark] using h
  simp only [State.assertReset, hnone]
  split_ifs <;> rfl

/-- Settles O15: a read of 7800:03 comes to a read of the log, which the latest 4,096 events fill and a reset empties. -/
theorem eventLogIsRead : Obligations.EventLogIsRead := by
  refine ⟨fun p s hreach => ⟨fun e he hcur hfirst huniq => ?first, fun h => ?none⟩,
    fun s kind severity code payload _ => event_log_length_le s kind severity code payload,
    fun s level cause => assertReset_log level cause⟩
  case first =>
    have hcursor : (objRow 0x7800 2).map (fun x => rowDefault x.1 x.2) = some 0 := by decide +kernel
    have hread := readObj_log s
    rw [readLog_of_first he hcur hfirst huniq, setObj_of_default s _ hcursor] at hread
    exact live_portRead hreach rfl hread (leBytes_length 32 _).le
  case none =>
    have hread := readObj_log s
    rw [readLog_of_none h] at hread
    exact live_portRead hreach rfl hread (List.length_replicate ..).le

end Sys2Proof.Machine
end

section
/-! SUPPORT. The directory: which objects exist, the first of them at or after a cursor in the order of index and subindex,
and the statement about reading it (12 R430, R438). -/

namespace Sys2Proof.Machine

/-- The index lies among those of a row. -/
def ObjRow.covers (r : ObjRow) (index : Nat) : Prop := r.base ≤ index ∧ index < r.base + r.count

theorem topSub_isSome_iff {index : Nat} : (topSub index).isSome = true ↔ ∃ r ∈ objTable, r.covers index := by
  unfold topSub ObjRow.covers
  split
  case h_1 hnil => simpa [List.filter_eq_nil_iff] using hnil
  case h_2 hrows =>
    obtain ⟨r, hr⟩ := List.exists_mem_of_ne_nil _ hrows
    rw [List.mem_filter, Bool.and_eq_true, decide_eq_true_eq, decide_eq_true_eq] at hr
    exact iff_of_true rfl ⟨r, hr⟩

theorem objRow_isSome_iff {index sub : Nat} :
    (objRow index sub).isSome = true ↔ ∃ r ∈ objTable, r.covers index ∧ sub = r.sub := by
  simp only [objRow, ObjRow.covers, Option.isSome_map, List.find?_isSome, Bool.and_eq_true, decide_eq_true_eq,
    eq_comm (a := sub)]
  tauto

/-- An object exists where a row of the tables covers its index, under the row's subindex or 00. -/
theorem objExists_iff {index sub : Nat} :
    objExists index sub = true ↔ ∃ r ∈ objTable, r.covers index ∧ (sub = 0 ∨ sub = r.sub) := by
  rw [objExists, Bool.or_eq_true, Bool.and_eq_true, decide_eq_true_eq, objRow_isSome_iff, topSub_isSome_iff]
  constructor
  · rintro (⟨r, hr, hi, hsub⟩ | ⟨hsub, r, hr, hi⟩)
    · exact ⟨r, hr, hi, .inr hsub⟩
    · exact ⟨r, hr, hi, .inl hsub⟩
  · rintro ⟨r, hr, hi, hsub | hsub⟩
    · exact .inr ⟨hsub, r, hr, hi⟩
    · exact .inl ⟨r, hr, hi, hsub⟩

/-- Every subindex of the tables is a number of 8 bits. -/
theorem objTable_sub_lt {r : ObjRow} (h : r ∈ objTable) : r.sub < 256 := by
  have hall : objTable.all (fun r => decide (r.sub < 256)) = true := by decide +kernel
  exact of_decide_eq_true (List.all_eq_true.mp hall r h)

/-! ### The first object of a row from a cursor -/

/-- The lowest index, from the row's first on, that lies under a subindex at or after a cursor; the row may end before it. -/
def ObjRow.indexFrom (r : ObjRow) (sub ci cs : Nat) : Nat := max r.base (if cs ≤ sub then ci else ci + 1)

theorem ObjRow.from_eq (r : ObjRow) (sub ci cs : Nat) : r.from sub ci cs =
    if r.indexFrom sub ci cs < r.base + r.count then some (256 * r.indexFrom sub ci cs + sub) else none := rfl

section
variable {r : ObjRow} {sub ci cs : Nat} (hsub : sub < 256) (hcs : cs < 256)
include hsub hcs

theorem ObjRow.indexFrom_le_iff {i : Nat} :
    r.indexFrom sub ci cs ≤ i ↔ r.base ≤ i ∧ 256 * ci + cs ≤ 256 * i + sub := by
  rw [ObjRow.indexFrom, max_le_iff]
  split_ifs <;> omega

/-- What a row offers is one of its objects, at or after the cursor. -/
theorem ObjRow.from_sound {m : Nat} (h : r.from sub ci cs = some m) :
    ∃ i, r.covers i ∧ m = 256 * i + sub ∧ 256 * ci + cs ≤ m := by
  rw [ObjRow.from_eq, Option.ite_none_right_eq_some, Option.some.injEq] at h
  obtain ⟨hlast, rfl⟩ := h
  obtain ⟨hbase, hcur⟩ := (ObjRow.indexFrom_le_iff hsub hcs).mp (le_refl (r.indexFrom sub ci cs))
  exact ⟨_, ⟨hbase, hlast⟩, rfl, hcur⟩

/-- A row with an object at or after the cursor offers one that is no later. -/
theorem ObjRow.from_complete {i : Nat} (hi : r.covers i) (h : 256 * ci + cs ≤ 256 * i + sub) :
    ∃ m, r.from sub ci cs = some m ∧ m ≤ 256 * i + sub := by
  obtain ⟨hbase, hlast⟩ := hi
  have hle : r.indexFrom sub ci cs ≤ i := (ObjRow.indexFrom_le_iff hsub hcs).mpr ⟨hbase, h⟩
  exact ⟨_, (ObjRow.from_eq r sub ci cs).trans (if_pos (hle.trans_lt hlast)), by omega⟩

end

/-! ### The first object of the dictionary from a cursor -/

/-- What the rows of the tables offer from a cursor: the first subindex 00 and the first object of each. -/
def dirCandidates (ci cs : Nat) : List Nat :=
  objTable.flatMap (fun r => (r.from 0 ci cs).toList ++ (r.from r.sub ci cs).toList)

theorem firstFrom_eq_min? (ci cs : Nat) : firstFrom ci cs = (dirCandidates ci cs).min? := leastOf_eq_min? _

theorem mem_dirCandidates {ci cs m : Nat} : m ∈ dirCandidates ci cs ↔
    ∃ r ∈ objTable, r.from 0 ci cs = some m ∨ r.from r.sub ci cs = some m := by
  simp [dirCandidates]

section
variable {ci cs : Nat} (hcs : cs < 256)
include hcs

/-- A candidate is an object at or after the cursor. -/
theorem dirCandidates_sound {m : Nat} (h : m ∈ dirCandidates ci cs) :
    ∃ i k, k < 256 ∧ objExists i k = true ∧ m = 256 * i + k ∧ 256 * ci + cs ≤ m := by
  obtain ⟨r, hr, hm | hm⟩ := mem_dirCandidates.mp h
  · obtain ⟨i, hi, hmi, hcur⟩ := ObjRow.from_sound (by decide) hcs hm
    exact ⟨i, 0, by decide, objExists_iff.mpr ⟨r, hr, hi, .inl rfl⟩, hmi, hcur⟩
  · obtain ⟨i, hi, hmi, hcur⟩ := ObjRow.from_sound (objTable_sub_lt hr) hcs hm
    exact ⟨i, r.sub, objTable_sub_lt hr, objExists_iff.mpr ⟨r, hr, hi, .inr rfl⟩, hmi, hcur⟩

/-- For every object at or after the cursor there is a candidate that is no later. -/
theorem dirCandidates_complete {i k : Nat} (hobj : objExists i k = true) (hcur : 256 * ci + cs ≤ 256 * i + k) :
    ∃ m ∈ dirCandidates ci cs, m ≤ 256 * i + k := by
  obtain ⟨r, hr, hi, rfl | rfl⟩ := objExists_iff.mp hobj
  · obtain ⟨m, hm, hle⟩ := ObjRow.from_complete (by decide) hcs hi hcur
    exact ⟨m, mem_dirCandidates.mpr ⟨r, hr, .inl hm⟩, hle⟩
  · obtain ⟨m, hm, hle⟩ := ObjRow.from_complete (objTable_sub_lt hr) hcs hi hcur
    exact ⟨m, mem_dirCandidates.mpr ⟨r, hr, .inr hm⟩, hle⟩

theorem firstFrom_of_first {i k : Nat} (hobj : objExists i k = true) (hcur : 256 * ci + cs ≤ 256 * i + k)
    (hfirst : ∀ j l, l < 256 → objExists j l = true → 256 * ci + cs ≤ 256 * j + l → 256 * i + k ≤ 256 * j + l) :
    firstFrom ci cs = some (256 * i + k) := by
  have hlow : ∀ m ∈ dirCandidates ci cs, 256 * i + k ≤ m := by
    intro m hm
    obtain ⟨j, l, hl, hjl, rfl, hmcur⟩ := dirCandidates_sound hcs hm
    exact hfirst j l hl hjl hmcur
  obtain ⟨m, hm, hle⟩ := dirCandidates_complete hcs hobj hcur
  obtain rfl : m = 256 * i + k := le_antisymm hle (hlow m hm)
  rw [firstFrom_eq_min?, List.min?_eq_some_iff]
  exact ⟨hm, hlow⟩

theorem firstFrom_of_none (h : ∀ i k, k < 256 → objExists i k = true → 256 * i + k < 256 * ci + cs) :
    firstFrom ci cs = none := by
  rw [firstFrom_eq_min?, List.min?_eq_none_iff, List.eq_nil_iff_forall_not_mem]
  intro m hm
  obtain ⟨i, k, hk, hobj, rfl, hcur⟩ := dirCandidates_sound hcs hm
  exact absurd (h i k hk hobj) (not_lt.mpr hcur)

end

/-! ### Reading the directory -/

/-- A read of 0000:03 reads the directory. -/
theorem readObj_dir (s : State) : s.readObj 0 3 = (s.readDir.1, .ok s.readDir.2) := by
  have hexists : objExists 0 3 = true := by decide +kernel
  have hreadable : (objRow 0 3).map (·.1.acc) ≠ some 2 := by decide +kernel
  simp [State.readObj, hexists, hreadable]

section
variable {s : State} {i k : Nat}

theorem readDir_of_first (hk : k < 256) (h : firstFrom (bits (s.obj 0 2) 0 16) (bits (s.obj 0 2) 16 8) = some (256 * i + k)) :
    s.readDir = (s.setObj 0 2 (i + 65536 * (k + 1)), leBytes 16 (dirEntry i k)) := by
  have hindex : (256 * i + k) / 256 = i := by omega
  have hsub : (256 * i + k) % 256 = k := by omega
  simp only [State.readDir, h, hindex, hsub]

theorem readDir_of_none (h : firstFrom (bits (s.obj 0 2) 0 16) (bits (s.obj 0 2) 16 8) = none) :
    s.readDir = (s, List.replicate 16 0xFF#8) := by
  simp only [State.readDir, h]

end

/-- Settles O16: a read of 0000:03 comes to a read of the directory, which gives the first object from the cursor. -/
theorem directoryIsRead : Obligations.DirectoryIsRead := by
  intro p s hreach
  have hcs : bits (s.obj 0 2) 16 8 < 256 := Nat.mod_lt _ (by decide)
  refine ⟨fun i k hk hobj hcur hfirst => ?first, fun h => ?none⟩
  case first =>
    have hcursor : (objRow 0 2).map (fun x => rowDefault x.1 x.2) = some 0 := by decide +kernel
    have hread := readObj_dir s
    rw [readDir_of_first hk (firstFrom_of_first hcs hobj hcur hfirst), setObj_of_default s _ hcursor] at hread
    exact live_portRead hreach rfl hread (leBytes_length 16 _).le
  case none =>
    have hread := readObj_dir s
    rw [readDir_of_none (firstFrom_of_none hcs h)] at hread
    exact live_portRead hreach rfl hread (List.length_replicate ..).le

end Sys2Proof.Machine
end

section
/-! SUPPORT. What every step keeps: the queue of commands that wait, and the canonical form of device memory. One lemma for
each operation of the model, in the order of its definition, named after it: where its argument keeps both from a first
state on, so does its result. The statements about the queue, the memory and the steps that go on follow from these. -/

set_option Elab.async false

namespace Sys2Proof.Machine

/-- From a first state to a later one the queue of commands is the same, and memory that was in canonical form is so still. -/
def Keeps (a s : State) : Prop := s.pending = a.pending ∧ (a.mem.wf = true → s.mem.wf = true)

section
variable {s₀ s t : State}

/-! ### How the parts of a definition keep them -/

theorem Keeps.refl (s : State) : Keeps s s := ⟨rfl, id⟩

/-- An update of other fields; for an update written out in a definition both premises hold by computation. -/
theorem Keeps.same (h : Keeps s₀ s) (hp : t.pending = s.pending := by with_reducible rfl)
    (hb : t.mem.bytes = s.mem.bytes := by with_reducible rfl) : Keeps s₀ t :=
  ⟨hp.trans h.1, fun hw => by unfold Mem.wf; rw [hb]; exact h.2 hw⟩

/-- Memory that loses bytes stays in canonical form. -/
theorem Keeps.filterBytes {f} (h : Keeps s₀ s) (hp : t.pending = s.pending := by with_reducible rfl)
    (hb : t.mem.bytes = s.mem.bytes.filter f := by with_reducible rfl) : Keeps s₀ t :=
  ⟨hp.trans h.1, fun hw => by unfold Mem.wf; rw [hb]; exact mwf_filter f (h.2 hw)⟩

theorem Keeps.writeByte {a b} (h : Keeps s₀ s) : Keeps s₀ { s with mem := s.mem.write a b } :=
  ⟨h.1, fun hw => Mem.wf_write a b (h.2 hw)⟩

theorem Keeps.ite {c : Prop} {_ : Decidable c} (hs : Keeps s₀ s) (ht : Keeps s₀ t) : Keeps s₀ (if c then s else t) := by
  split <;> assumption

theorem Keeps.foldl {α : Type} {f : State → α → State} (hf : ∀ s x, Keeps s₀ s → Keeps s₀ (f s x)) {l : List α} {s : State}
    (h : Keeps s₀ s) : Keeps s₀ (l.foldl f s) := by
  induction l generalizing s with
  | nil => exact h
  | cons x l ih => exact ih (hf s x h)

/-! Of an operation that answers a state and something else, it is the state that is meant. -/

section
variable {β : Type} {b : β} {x y : State × β}

theorem Keeps.fst (h : Keeps s₀ s) : Keeps s₀ (s, b).1 := h

theorem Keeps.of_fst (h : Keeps s₀ x.1) (e : x = (t, b)) : Keeps s₀ t := by rwa [e] at h

theorem Keeps.iteFst {c : Prop} {_ : Decidable c} (hx : Keeps s₀ x.1) (hy : Keeps s₀ y.1) : Keeps s₀ (if c then x else y).1 := by
  split <;> assumption

theorem Keeps.foldlFst {α : Type} {f : State × β → α → State × β} (hf : ∀ x e, Keeps s₀ x.1 → Keeps s₀ (f x e).1) {l : List α}
    {x : State × β} (h : Keeps s₀ x.1) : Keeps s₀ (l.foldl f x).1 := by
  induction l generalizing x with
  | nil => exact h
  | cons e l ih => exact ih (hf x e h)

theorem Keeps.now {x : State × Ans} (h : Keeps s₀ x.1) : Keeps s₀ (Machine.now x).1 := h

end

theorem mwf_foldl_mset {α β : Type} [DecidableEq α] {d : α} {k : β → Nat} {v : β → α} {l : List β} {m : SMap α}
    (h : mwf d m = true) : mwf d (l.foldl (fun acc e => mset d acc (k e) (v e)) m) = true := by
  induction l generalizing m with
  | nil => exact h
  | cons e l ih => exact ih (mwf_mset _ _ h)

/-- What a reset leaves of memory is in canonical form, whatever was there. -/
theorem mwf_scrambleBytes (m : SMap Byte) (i : Nat) : mwf 0 (scrambleBytes m i) = true := mwf_foldl_mset rfl

end

/-! ### Operations that leave the host link and the cascade as they are: they may add events that wait for the host, and end none

The session, the link's state and the cascade stay where what a run, an op or a transfer comes to is all that happens. -/

/-- The queue and memory are kept, the cascade, the session and the link's state are the same, and no event that waited for the host is gone. -/
def Calm (a s : State) : Prop :=
  Keeps a s ∧ s.casc = a.casc ∧ s.hl.session = a.hl.session ∧ s.hl.state = a.hl.state ∧ ∀ e ∈ a.hl.evtQueue, e ∈ s.hl.evtQueue

section
variable {s₀ s t : State}

theorem Calm.refl (s : State) : Calm s s := ⟨.refl s, rfl, rfl, rfl, fun _ he => he⟩

theorem Keeps.calm (h : Keeps s₀ s) (hc : Calm s t) : Keeps s₀ t := ⟨hc.1.1.trans h.1, fun hw => hc.1.2 (h.2 hw)⟩

/-- An update of other fields; for an update written out in a definition the premises hold by computation. -/
theorem Calm.same (h : Calm s₀ s) (hp : t.pending = s.pending := by with_reducible rfl)
    (hb : t.mem.bytes = s.mem.bytes := by with_reducible rfl) (hsession : t.hl.session = s.hl.session := by with_reducible rfl)
    (hstate : t.hl.state = s.hl.state := by with_reducible rfl) (hqueue : t.hl.evtQueue = s.hl.evtQueue := by with_reducible rfl)
    (hcasc : t.casc = s.casc := by with_reducible rfl) : Calm s₀ t := by
  obtain ⟨hkeeps, hcasc₀, hsession₀, hstate₀, hqueue₀⟩ := h
  exact ⟨hkeeps.same hp hb, hcasc.trans hcasc₀, hsession.trans hsession₀, hstate.trans hstate₀, fun e he => hqueue ▸ hqueue₀ e he⟩

theorem Calm.queueEvent {e} (h : Calm s₀ s) : Calm s₀ { s with hl := { s.hl with evtQueue := s.hl.evtQueue ++ [e] } } := by
  obtain ⟨hkeeps, hcasc, hsession, hstate, hqueue⟩ := h
  exact ⟨hkeeps.same, hcasc, hsession, hstate, fun x hx => List.mem_append_left _ (hqueue x hx)⟩

theorem Calm.writeByte {a b} (h : Calm s₀ s) : Calm s₀ { s with mem := s.mem.write a b } := ⟨h.1.writeByte, h.2⟩

theorem Calm.ite {c : Prop} {_ : Decidable c} (hs : Calm s₀ s) (ht : Calm s₀ t) : Calm s₀ (if c then s else t) := by
  split <;> assumption

theorem Calm.foldl {α : Type} {f : State → α → State} (hf : ∀ s x, Calm s₀ s → Calm s₀ (f s x)) {l : List α} {s : State}
    (h : Calm s₀ s) : Calm s₀ (l.foldl f s) := by
  induction l generalizing s with
  | nil => exact h
  | cons x l ih => exact ih (hf s x h)

end

section
variable {s₀ s t : State} (h : Calm s₀ s)
include h

theorem Calm.modRegion {r f} : Calm s₀ (s.modRegion r f) := by unfold State.modRegion; exact h.same
theorem Calm.modAcc {set i f} : Calm s₀ (s.modAcc set i f) := by unfold State.modAcc; exact h.same
theorem Calm.modSet {k f} : Calm s₀ (s.modSet k f) := by unfold State.modSet; exact .ite h.same h.same
theorem Calm.modEpoch {e f} : Calm s₀ (s.modEpoch e f) := by unfold State.modEpoch; exact h.same
theorem Calm.modCtx {c f} : Calm s₀ (s.modCtx c f) := by unfold State.modCtx; exact h.same
theorem Calm.modTag {t f} : Calm s₀ (s.modTag t f) := by unfold State.modTag; exact h.same
theorem Calm.setToken {n v} : Calm s₀ (s.setToken n v) := by unfold State.setToken; exact h.same
theorem Calm.count {n k} : Calm s₀ (s.count n k) := by unfold State.count; exact h.same
theorem Calm.fpEvent {e} : Calm s₀ (s.fpEvent e) := by unfold State.fpEvent; exact .ite h.same h.count
theorem Calm.event {kind severity code payload} : Calm s₀ (s.event kind severity code payload) := by
  unfold State.event
  extract_lets e _ s1 _2 s2 _3
  have h1 : Calm s₀ s1 := h.same
  have h2 : Calm s₀ s2 := .ite h1.queueEvent h1.count
  exact .ite (Calm.ite h2.fpEvent h2.same) h2
theorem Calm.condition {code severity payload} : Calm s₀ (s.condition code severity payload) := by
  unfold State.condition
  exact h.event
theorem Calm.store {a bs} : Calm s₀ (s.store a bs) := ⟨⟨h.1.1, fun hw => Mem.wf_store a bs (h.1.2 hw)⟩, h.2⟩
theorem Calm.queuePacket {p fwd} (e : s.queuePacket p fwd = .ok t) : Calm s₀ t := by
  unfold State.queuePacket at e
  split_ifs at e
  split at e
  · cases e; exact h.same
  · extract_lets at e
    split_ifs at e
    cases e; exact h.same
theorem Calm.takeTag {t u} : Calm s₀ (s.takeTag t u) := by unfold State.takeTag; exact h.modTag
theorem Calm.releaseTag {t} : Calm s₀ (s.releaseTag t) := by unfold State.releaseTag; exact h.same.modTag
theorem Calm.cacheLeaf {va} : Calm s₀ (s.cacheLeaf va) := by
  unfold State.cacheLeaf
  split
  · exact h
  · split
    · exact h.same
    · exact h
theorem Calm.meetBad {a n} : Calm s₀ (s.meetBad a n) := by unfold State.meetBad; exact .ite h.count h
theorem Calm.landWrites {c} : Calm s₀ (s.landWrites c) := by
  unfold State.landWrites
  exact .foldl (fun _ _ h => by split; exacts [Calm.ite h.meetBad h.store, h]) h
theorem Calm.dropReqs {c pos} : Calm s₀ (s.dropReqs c pos) := by unfold State.dropReqs; exact h.same
theorem Calm.endRun {c counted} : Calm s₀ (s.endRun c counted) := by unfold State.endRun; exact h.landWrites.dropReqs.same.modCtx
theorem Calm.refill {i} : Calm s₀ (s.refill i) := by
  unfold State.refill
  split
  · exact h
  · exact .ite h (Calm.ite h h.same.modCtx)
theorem Calm.progress {i data len} : Calm s₀ (s.progress i data len) := by unfold State.progress; exact h.same.modCtx.refill
theorem Calm.modOp {q seq f} : Calm s₀ (s.modOp q seq f) := by unfold State.modOp; exact h.same
theorem Calm.endRuns {o} : Calm s₀ (s.endRuns o) := by
  unfold State.endRuns
  exact .foldl (fun _ _ h => h.modCtx) (Calm.foldl (fun _ _ h => h.endRun) h)
theorem Calm.finish {q seq status detail} : Calm s₀ (s.finish q seq status detail) := by
  unfold State.finish
  split
  · exact h
  · exact h.endRuns.same.modOp
theorem Calm.toSet {k st} : Calm s₀ (s.toSet k st) := by unfold State.toSet; exact h.modSet
theorem Calm.zeroPasses {k} : Calm s₀ (s.zeroPasses k) := by unfold State.zeroPasses; exact h.same
theorem Calm.emptyRegion {r} : Calm s₀ (s.emptyRegion r) := by unfold State.emptyRegion; exact h.modRegion.same
theorem Calm.unwind {o} : Calm s₀ (s.unwind o) := by
  unfold State.unwind
  extract_lets _
  split
  · split
    · exact h
    · exact .ite h.zeroPasses.toSet (Calm.ite h.toSet h)
  · split
    · exact h
    · exact .ite h.zeroPasses.toSet (Calm.ite h.toSet h)
  · exact .ite h.toSet h
  · exact .ite h.emptyRegion h
  · exact h.same
  · exact h
theorem Calm.cancel {o status cause} : Calm s₀ (s.cancel o status cause) := by
  unfold State.cancel
  exact .ite h (Calm.ite h.modOp (Calm.ite h h.unwind.finish))
theorem Calm.dropKey {k} : Calm s₀ (s.dropKey k) := by unfold State.dropKey; exact h.same
theorem Calm.returnTaken {e} : Calm s₀ (s.returnTaken e) := by
  unfold State.returnTaken
  exact .foldl (fun _ _ h => by split; exacts [h.setToken, h.same]) h
theorem Calm.sendLine {w before x} (e : s.sendLine w before = some (t, x)) : Calm s₀ t := by
  unfold State.sendLine at e
  split at e
  · split at e
    · cases e
    · split_ifs at e
      cases e; exact h.same
  · split_ifs at e
    split at e
    · cases e
    · extract_lets dev s1 p at e
      have h1 : Calm s₀ s1 := h.takeTag
      split at e
      next eq => cases e; exact h1.queuePacket eq
      · cases e; exact h1.releaseTag
theorem Calm.failSpc {serial} : Calm s₀ (s.failSpc serial) := by
  unfold State.failSpc
  split
  · exact h.finish.modEpoch
  · exact h
theorem Calm.sendLanded {ws before} : Calm s₀ (s.sendLanded ws before) := by
  induction ws generalizing s before with
  | nil => exact h
  | cons w ws ih =>
    unfold State.sendLanded
    split
    · split
      · exact ih h
      next e => exact ih (h.sendLine e).same
      next e => exact ih (h.sendLine e).same.failSpc
    · exact ih h
    · exact ih h
theorem Calm.landEnd {host t failed} : Calm s₀ (s.landEnd host t failed) := by
  unfold State.landEnd
  extract_lets s1
  have h1 : Calm s₀ s1 := h.same
  split
  · exact h
  · split
    · exact h1.failSpc
    · exact h1
theorem Calm.sendMessages {ms} : Calm s₀ (s.sendMessages ms) := by
  induction ms generalizing s with
  | nil => exact h
  | cons m ms ih =>
    unfold State.sendMessages
    split
    · exact h
    · extract_lets s1 s2 p
      have h1 : Calm s₀ s1 := h.same.takeTag
      have h2 : Calm s₀ s2 := .ite h1.modEpoch h1
      split
      next e => exact ih (h2.queuePacket e)
      · exact ih h2
theorem Calm.pump : Calm s₀ s.pump := by unfold State.pump; exact (Calm.ite h.sendLanded h).sendMessages
theorem Calm.addMessages {e squash for_} : Calm s₀ (s.addMessages e squash for_) := by unfold State.addMessages; exact h.same
theorem Calm.dropAppends {serial} : Calm s₀ (s.dropAppends serial) := by unfold State.dropAppends; exact h.same
theorem Calm.squashOne {id cause for_} : Calm s₀ (s.squashOne id cause for_) := by
  unfold State.squashOne
  extract_lets e s1 s2 s3 s4 s5
  have h1 : Calm s₀ s1 := .foldl (fun _ _ h => h.cancel) h
  have h2 : Calm s₀ s2 := h1.returnTaken
  have h3 : Calm s₀ s3 := h2.dropKey.dropKey
  have h4 : Calm s₀ s4 := h3.count
  have h5 : Calm s₀ s5 := .foldl (fun _ _ h => Calm.ite h.toSet h) h4
  exact h5.addMessages.modEpoch
theorem Calm.endSpc {id cause waits} : Calm s₀ (s.endSpc id cause waits) := by
  unfold State.endSpc
  split
  · exact h
  · exact .ite ((Calm.ite h h.finish).modEpoch) ((Calm.ite h h.finish).modEpoch)
theorem Calm.squashFrom {serial cause waits} : Calm s₀ (s.squashFrom serial cause waits) := by
  unfold State.squashFrom
  extract_lets ids for_ s1 s2 s3
  have h1 : Calm s₀ s1 := (Calm.foldl (fun _ _ h => h.squashOne) h).dropAppends
  have h2 : Calm s₀ s2 := .foldl (fun _ _ h => h.endSpc) h1
  have h3 : Calm s₀ s3 := by
    unfold s3
    split
    · exact h2.modEpoch
    · exact h2
  exact h3.pump
theorem Calm.complete {q seq status detail} : Calm s₀ (s.complete q seq status detail) := by
  unfold State.complete
  extract_lets s1
  have h1 : Calm s₀ s1 := h.finish
  split
  · exact h
  · split
    · exact h1
    · exact .ite h1 (Calm.ite h1.modEpoch.squashFrom h1.modEpoch)
theorem Calm.endAs {o status detail} : Calm s₀ (s.endAs o status detail) := by
  unfold State.endAs
  exact .ite h.complete (Calm.ite h.complete h.complete)
theorem Calm.completeRan {o} : Calm s₀ (s.completeRan o) := by unfold State.completeRan; exact h.endAs
theorem Calm.takeTokens {view token count} : Calm s₀ (s.takeTokens view token count) := by
  unfold State.takeTokens
  dsimp only
  split
  · exact h.setToken.same
  · exact h.setToken.same.modEpoch
theorem Calm.startWtk {o} : Calm s₀ (s.startWtk o) := by
  unfold State.startWtk
  exact .ite h.complete (Calm.ite h.takeTokens.complete h)
theorem Calm.raiseHeld : Calm s₀ s.raiseHeld := by
  unfold State.raiseHeld
  exact .foldl (fun _ _ h => Calm.ite (Calm.foldl (fun _ _ h => h.event) h.modEpoch) h) h
theorem Calm.tellPause : Calm s₀ s.tellPause := by unfold State.tellPause; exact .ite h h.same.count.condition
theorem Calm.settle : Calm s₀ s.settle := by
  unfold State.settle
  extract_lets s1 s2 s3 _
  have h1 : Calm s₀ s1 := h.pump.raiseHeld
  have h2 : Calm s₀ s2 := .foldl (fun _ _ h => .ite h.finish h) h1
  have h3 : Calm s₀ s3 := by
    refine .foldl (fun s i h => ?_) h2
    extract_lets e
    split
    · exact .ite h.finish.modEpoch h
    · exact .ite (Calm.ite h.finish h.finish).modEpoch h
    · exact h
  exact .ite h3.same.tellPause h3
theorem Calm.modAccTile {a f} : Calm s₀ (s.modAccTile a f) := by unfold State.modAccTile; exact .foldl (fun _ _ h => h.modAcc) h
theorem Calm.writeTile {a img} : Calm s₀ (s.writeTile a img) := by unfold State.writeTile; exact h.modAccTile
theorem Calm.addTile {a img} : Calm s₀ (s.addTile a img) := by unfold State.addTile; exact h.modAccTile
theorem Calm.clearTile {a} : Calm s₀ (s.clearTile a) := by unfold State.clearTile; exact h.modAccTile
theorem Calm.actHolds {k epoch} : Calm s₀ (s.actHolds k epoch) := by unfold State.actHolds; exact .ite h.modSet h
theorem Calm.hold {w} : Calm s₀ (s.hold w) := by unfold State.hold; exact h.same
theorem Calm.noteRead {epoch a n} : Calm s₀ (s.noteRead epoch a n) := by
  unfold State.noteRead
  split
  · exact h
  · exact h.modEpoch
theorem Calm.applyWR {key op addr data} (e : s.applyWR key op addr data = .ok t) : Calm s₀ t := by
  unfold State.applyWR at e
  split_ifs at e
  split at e
  · cases e
  · cases e
  · cases e
  · extract_lets s1 at e
    have h1 : Calm s₀ s1 := h.cacheLeaf
    split at e
    · extract_lets w at e
      split_ifs at e
      cases e; exact h1.hold
    · split_ifs at e
      cases e; exact h1.store
theorem Calm.meetAt {write addr n} : Calm s₀ (s.meetAt write addr n) := by
  unfold State.meetAt
  split
  · exact h.meetBad
  · exact h.count
  · exact h
theorem Calm.applyToken {key token} : Calm s₀ (s.applyToken key token) := by
  unfold State.applyToken
  split
  · exact h.setToken
  · exact h.same
theorem Calm.xfrFailed {o} : Calm s₀ (s.xfrFailed o) := by
  unfold State.xfrFailed
  split
  · exact h
  · exact .ite h ((Calm.foldl (fun _ _ h => h.releaseTag) h).complete)
theorem Calm.xfrSend {o src flush fuel} : Calm s₀ (s.xfrSend o src flush fuel) := by
  induction fuel generalizing s o with
  | zero => exact h
  | succ fuel ih =>
    unfold State.xfrSend
    split
    · extract_lets len
      split
      · exact h
      · split
        · exact h
        · extract_lets last p
          split
          · exact h
          · split
            · extract_lets s1
              have h1 : Calm s₀ s1 := h.modOp
              split
              · exact h1.xfrFailed
              · exact h1
            next e =>
              exact ih (h.queuePacket e).modTag.modOp
    · exact h
theorem Calm.xfrSelf {o src flush fuel} : Calm s₀ (s.xfrSelf o src flush fuel) := by
  induction fuel generalizing s o with
  | zero => exact h
  | succ fuel ih =>
    unfold State.xfrSelf
    split
    · exact h
    · extract_lets len key
      split
      · exact h
      · split
        · exact (Calm.ite h.applyToken h).complete
        · split
          · exact h
          · split
            next e => exact ih (h.applyWR e).modOp
            · exact h.meetAt.complete
            · exact .ite h.complete (.ite h h.complete)
theorem Calm.xfrStep {o src} : Calm s₀ (s.xfrStep o src) := by
  unfold State.xfrStep
  exact .ite (Calm.ite h.complete h.xfrSelf) h.xfrSend
theorem Calm.xfrGo {o} : Calm s₀ (s.xfrGo o) := by unfold State.xfrGo; exact (Calm.ite h h.noteRead).xfrStep
theorem Calm.actOut {o} : Calm s₀ (s.actOut o) := by unfold State.actOut; exact (Calm.ite h.clearTile h).completeRan
theorem Calm.actIn {o img} : Calm s₀ (s.actIn o img) := by
  unfold State.actIn
  extract_lets s1
  have h1 : Calm s₀ s1 := .ite h.addTile h.writeTile
  exact .ite h.completeRan (Calm.ite h.endAs h1.actHolds.completeRan)
theorem Calm.actMoved {o} : Calm s₀ (s.actMoved o) := by
  unfold State.actMoved
  split
  · exact h
  · exact .ite h (Calm.ite h.actOut h.actIn)
theorem Calm.askDigits {order op ds} : Calm s₀ (s.askDigits order op ds) := by unfold State.askDigits; exact h.same
theorem Calm.failRun {o status detail} : Calm s₀ (s.failRun o status detail) := by
  unfold State.failRun
  exact h.unwind.endAs.settle
theorem Calm.modRun {o f} : Calm s₀ (s.modRun o f) := by unfold State.modRun; exact h.modOp
theorem Calm.rereadDone {q n} : Calm s₀ (s.rereadDone q n) := by
  unfold State.rereadDone
  split
  · exact h
  · split
    · split
      · exact h
      · split
        · exact h.failRun
        · exact .ite h.failRun (Calm.ite h.modRun.same h.modRun)
    · exact h
theorem Calm.loadStep {q n} : Calm s₀ (s.loadStep q n) := by
  unfold State.loadStep
  split
  · exact h
  · extract_lets i r at_
    split
    · exact h
    · split
      · exact h
      · extract_lets new s1 s2 s3
        have h1 : Calm s₀ s1 := .ite h (.foldl (fun _ _ h => h.writeByte) h)
        have h2 : Calm s₀ s2 := h1.askDigits
        have h3 : Calm s₀ s3 := h2.same
        exact .ite h.failRun h3.modOp
theorem Calm.headerArrived {o c run} : Calm s₀ (s.headerArrived o c run) := by
  unfold State.headerArrived
  extract_lets need
  split
  · exact h
  · exact .ite (((Calm.foldl (fun _ _ h => h.endRun) h).modOp).complete) h.modCtx
theorem Calm.stagingDone {c} : Calm s₀ (s.stagingDone c) := by
  unfold State.stagingDone
  split
  · exact .ite h.endRun (Calm.ite h.endRun.condition h)
  · exact h
theorem Calm.onProgress {c data} : Calm s₀ (s.onProgress c data) := by
  unfold State.onProgress
  split
  · exact h
  · extract_lets s1
    have h1 : Calm s₀ s1 := .ite h h.store
    split
    · exact h1.stagingDone
    · split
      · exact h
      · extract_lets s2
        have h2 : Calm s₀ s2 := .ite h.headerArrived h
        split
        · exact .ite h h2.rereadDone
        · exact .ite h h2.rereadDone
        · exact h.loadStep
        · exact h.actMoved
        · exact .ite h.xfrGo h
        · exact h
theorem Calm.runError {r} : Calm s₀ (s.runError r) := by
  unfold State.runError
  extract_lets c src
  split
  · exact h
  · extract_lets va
    split
    · exact h.endRun.condition
    · split
      · exact h
      · exact h.failRun
theorem Calm.deliver {c fuel} : Calm s₀ (s.deliver c fuel) := by
  induction fuel generalizing s with
  | zero => exact h
  | succ fuel ih =>
    unfold State.deliver
    split
    · exact h
    · split
      · exact h
      · split
        · exact h
        · extract_lets n s1 s2
          have h1 : Calm s₀ s1 := h.same
          have h2 : Calm s₀ s2 := .ite h1 h1.progress.onProgress
          split
          · exact h2.runError
          · exact ih h2
theorem Calm.arrive {r data failed} : Calm s₀ (s.arrive r data failed) := by
  unfold State.arrive
  exact .ite h.same.settle h.same.deliver.refill.settle
theorem Calm.operation {n data} : Calm s₀ (s.operation n data) := by unfold State.operation; exact h.same
theorem Calm.epochHostWrite {t failed} : Calm s₀ (s.epochHostWrite t failed) := by
  unfold State.epochHostWrite
  exact h.same.landEnd.settle
theorem Calm.endHostReq {r data failed} : Calm s₀ (s.endHostReq r data failed) := by
  unfold State.endHostReq
  exact .ite h.same.epochHostWrite h.same.arrive

end

section
variable {s₀ s t : State} (h : Keeps s₀ s)
include h

/-! ### Kept by the state itself, the ports and the fabric tags -/

theorem Keeps.modRegion {r f} : Keeps s₀ (s.modRegion r f) := h.calm (Calm.refl s).modRegion
theorem Keeps.modTile {t f} : Keeps s₀ (s.modTile t f) := by unfold State.modTile; exact h.same
theorem Keeps.modCol {t p f} : Keeps s₀ (s.modCol t p f) := by unfold State.modCol; exact h.same
theorem Keeps.modHeater {t hd f} : Keeps s₀ (s.modHeater t hd f) := by unfold State.modHeater; exact h.same
theorem Keeps.modTileLoop {t f} : Keeps s₀ (s.modTileLoop t f) := by unfold State.modTileLoop; exact h.same
theorem Keeps.modCluster {c f} : Keeps s₀ (s.modCluster c f) := by unfold State.modCluster; exact h.same
theorem Keeps.modAcc {set i f} : Keeps s₀ (s.modAcc set i f) := h.calm (Calm.refl s).modAcc
theorem Keeps.modSet {k f} : Keeps s₀ (s.modSet k f) := h.calm (Calm.refl s).modSet
theorem Keeps.modQueue {q f} : Keeps s₀ (s.modQueue q f) := by unfold State.modQueue; exact h.same
theorem Keeps.modEpoch {e f} : Keeps s₀ (s.modEpoch e f) := h.calm (Calm.refl s).modEpoch
theorem Keeps.modCtx {c f} : Keeps s₀ (s.modCtx c f) := h.calm (Calm.refl s).modCtx
theorem Keeps.modProc {p f} : Keeps s₀ (s.modProc p f) := by unfold State.modProc; exact h.same
theorem Keeps.modLane {l f} : Keeps s₀ (s.modLane l f) := by unfold State.modLane; exact h.same
theorem Keeps.modTag {t f} : Keeps s₀ (s.modTag t f) := h.calm (Calm.refl s).modTag
theorem Keeps.setToken {n v} : Keeps s₀ (s.setToken n v) := h.calm (Calm.refl s).setToken
theorem Keeps.draw : Keeps s₀ s.draw.2 := by unfold State.draw; exact h.same
theorem Keeps.count {n k} : Keeps s₀ (s.count n k) := h.calm (Calm.refl s).count
theorem Keeps.clearCounter {n} : Keeps s₀ (s.clearCounter n) := by unfold State.clearCounter; exact h.same

theorem Keeps.setObj {index sub v} : Keeps s₀ (s.setObj index sub v) := by
  unfold State.setObj
  extract_lets _
  split
  · exact h.same
  · exact h

theorem Keeps.cpl {tag status detail data} : Keeps s₀ (s.cpl tag status detail data) := by unfold State.cpl; exact h.same
theorem Keeps.fpEvent {e} : Keeps s₀ (s.fpEvent e) := h.calm (Calm.refl s).fpEvent

theorem Keeps.event {kind severity code payload} : Keeps s₀ (s.event kind severity code payload) := h.calm (Calm.refl s).event

theorem Keeps.condition {code severity payload} : Keeps s₀ (s.condition code severity payload) := h.calm (Calm.refl s).condition

theorem Keeps.interruption {code interval} : Keeps s₀ (s.interruption code interval) := by unfold State.interruption; exact h.same
theorem Keeps.startFault {code unit} : Keeps s₀ (s.startFault code unit) := by unfold State.startFault; exact h.same

theorem Keeps.endFault {code unit} : Keeps s₀ (s.endFault code unit) := by
  unfold State.endFault
  extract_lets _
  split
  · exact h.same.interruption
  · exact h

theorem Keeps.store {a bs} : Keeps s₀ (s.store a bs) := h.calm (Calm.refl s).store

theorem Keeps.queuePacket {p fwd} (e : s.queuePacket p fwd = .ok t) : Keeps s₀ t := h.calm ((Calm.refl s).queuePacket e)

theorem Keeps.takeTag {t u} : Keeps s₀ (s.takeTag t u) := h.calm (Calm.refl s).takeTag
theorem Keeps.releaseTag {t} : Keeps s₀ (s.releaseTag t) := h.calm (Calm.refl s).releaseTag

/-! ### Kept by regions, translation and streams (01, 06) -/

theorem Keeps.setRing {tile p l v} : Keeps s₀ (s.setRing tile p l v) := by unfold State.setRing; exact h.same

theorem Keeps.applyRegion {r d} : Keeps s₀ (s.applyRegion r d) := by
  unfold State.applyRegion
  exact .ite h.modRegion (Keeps.ite h.modRegion.same h)

theorem Keeps.writeRegion {r d} : Keeps s₀ (s.writeRegion r d).1 := by
  unfold State.writeRegion
  extract_lets _
  split
  · exact h.same
  · exact h.applyRegion

theorem Keeps.cacheLeaf {va} : Keeps s₀ (s.cacheLeaf va) := h.calm (Calm.refl s).cacheLeaf

theorem Keeps.uncache {va} : Keeps s₀ (s.uncache va) := by unfold State.uncache; exact h.same
theorem Keeps.armRun {u op epoch prio} : Keeps s₀ (s.armRun u op epoch prio) := by unfold State.armRun; exact h.modCtx
theorem Keeps.meetBad {a n} : Keeps s₀ (s.meetBad a n) := h.calm (Calm.refl s).meetBad

theorem Keeps.landWrites {c} : Keeps s₀ (s.landWrites c) := h.calm (Calm.refl s).landWrites

theorem Keeps.dropReqs {c pos} : Keeps s₀ (s.dropReqs c pos) := h.calm (Calm.refl s).dropReqs
theorem Keeps.endRun {c counted} : Keeps s₀ (s.endRun c counted) := h.calm (Calm.refl s).endRun

theorem Keeps.refill {i} : Keeps s₀ (s.refill i) := h.calm (Calm.refl s).refill

theorem Keeps.launch {i r} : Keeps s₀ (s.launch i r) := by unfold State.launch; exact h.same.modCtx

theorem Keeps.issue {i n pl len} : Keeps s₀ (s.issue i n pl len) := by
  unfold State.issue
  extract_lets c
  split
  · exact h
  · extract_lets a s1 bs _
    have h1 : Keeps s₀ s1 := h.cacheLeaf
    dsimp only
    split
    · exact h1.same.modCtx
    · split
      · exact h1.launch
      · split
        · exact h1
        · split
          · exact h1
          · exact h1.launch.same
      · split
        · exact h1
        · split
          next e => exact (h1.takeTag.queuePacket e).launch
          · exact h1.takeTag.releaseTag.launch

theorem Keeps.progress {i data len} : Keeps s₀ (s.progress i data len) := h.calm (Calm.refl s).progress
theorem Keeps.handOver {c bs} : Keeps s₀ (s.handOver c bs) := by unfold State.handOver; exact h.modCtx.refill

theorem Keeps.faultEvent {op epoch payload} : Keeps s₀ (s.faultEvent op epoch payload) := by
  unfold State.faultEvent
  split
  · exact h.event
  · exact .ite h.modEpoch h.event

theorem Keeps.halt {i n code} : Keeps s₀ (s.halt i n code) := by
  unfold State.halt
  extract_lets c seq
  split
  · exact h
  · exact (((Keeps.ite h.modCtx.count h.modCtx).same).count).faultEvent

theorem Keeps.writeStream {i d} : Keeps s₀ (s.writeStream i d).1 := by
  unfold State.writeStream
  extract_lets c
  split
  · exact h.same
  · exact h.modCtx

theorem Keeps.startStaging {i} : Keeps s₀ (s.startStaging i) := by unfold State.startStaging; exact .ite h h.armRun.refill

theorem Keeps.yieldLines {i} : Keeps s₀ (s.yieldLines i) := by
  unfold State.yieldLines
  split
  · exact h
  · exact h.dropReqs.same.modCtx.count

/-! ### Kept by op queues, epochs, transfers and admission (05, 09) -/

theorem Keeps.modOp {q seq f} : Keeps s₀ (s.modOp q seq f) := h.calm (Calm.refl s).modOp

theorem Keeps.endRuns {o} : Keeps s₀ (s.endRuns o) := h.calm (Calm.refl s).endRuns

theorem Keeps.finish {q seq status detail} : Keeps s₀ (s.finish q seq status detail) := h.calm (Calm.refl s).finish

theorem Keeps.toSet {k st} : Keeps s₀ (s.toSet k st) := h.calm (Calm.refl s).toSet
theorem Keeps.zeroPasses {k} : Keeps s₀ (s.zeroPasses k) := h.calm (Calm.refl s).zeroPasses
theorem Keeps.emptyRegion {r} : Keeps s₀ (s.emptyRegion r) := h.calm (Calm.refl s).emptyRegion

theorem Keeps.unwind {o} : Keeps s₀ (s.unwind o) := h.calm (Calm.refl s).unwind

theorem Keeps.dropOp {q seq} : Keeps s₀ (s.dropOp q seq) := by unfold State.dropOp; exact h.same

theorem Keeps.cancel {o status cause} : Keeps s₀ (s.cancel o status cause) := h.calm (Calm.refl s).cancel

theorem Keeps.dropKey {k} : Keeps s₀ (s.dropKey k) := h.calm (Calm.refl s).dropKey

theorem Keeps.landLocal {final} : Keeps s₀ (s.landLocal final).1 := by
  unfold State.landLocal
  exact .foldlFst (fun _ _ h => (Keeps.ite h.meetBad h).store) h

theorem Keeps.commitKeys {final serial} : Keeps s₀ (s.commitKeys final serial).1 := by
  unfold State.commitKeys
  exact (Keeps.foldl (fun _ _ h => h.setToken) h.landLocal).same

theorem Keeps.returnTaken {e} : Keeps s₀ (s.returnTaken e) := h.calm (Calm.refl s).returnTaken

theorem Keeps.sendLine {w before x} (e : s.sendLine w before = some (t, x)) : Keeps s₀ t := h.calm ((Calm.refl s).sendLine e)

theorem Keeps.failSpc {serial} : Keeps s₀ (s.failSpc serial) := h.calm (Calm.refl s).failSpc

theorem Keeps.sendLanded {ws before} : Keeps s₀ (s.sendLanded ws before) := h.calm (Calm.refl s).sendLanded

theorem Keeps.landEnd {host t failed} : Keeps s₀ (s.landEnd host t failed) := h.calm (Calm.refl s).landEnd

theorem Keeps.sendMessages {ms} : Keeps s₀ (s.sendMessages ms) := h.calm (Calm.refl s).sendMessages

theorem Keeps.pump : Keeps s₀ s.pump := h.calm (Calm.refl s).pump
theorem Keeps.addMessages {e squash for_} : Keeps s₀ (s.addMessages e squash for_) := h.calm (Calm.refl s).addMessages
theorem Keeps.dropAppends {serial} : Keeps s₀ (s.dropAppends serial) := h.calm (Calm.refl s).dropAppends

theorem Keeps.squashOne {id cause for_} : Keeps s₀ (s.squashOne id cause for_) := h.calm (Calm.refl s).squashOne

theorem Keeps.endSpc {id cause waits} : Keeps s₀ (s.endSpc id cause waits) := h.calm (Calm.refl s).endSpc

theorem Keeps.squashFrom {serial cause waits} : Keeps s₀ (s.squashFrom serial cause waits) := h.calm (Calm.refl s).squashFrom

theorem Keeps.complete {q seq status detail} : Keeps s₀ (s.complete q seq status detail) := h.calm (Calm.refl s).complete

theorem Keeps.endAs {o status detail} : Keeps s₀ (s.endAs o status detail) := h.calm (Calm.refl s).endAs

theorem Keeps.completeRan {o} : Keeps s₀ (s.completeRan o) := h.calm (Calm.refl s).completeRan

theorem Keeps.raiseHeld : Keeps s₀ s.raiseHeld := h.calm (Calm.refl s).raiseHeld

theorem Keeps.tellPause : Keeps s₀ s.tellPause := h.calm (Calm.refl s).tellPause

theorem Keeps.settle : Keeps s₀ s.settle := h.calm (Calm.refl s).settle

theorem Keeps.doorbell {q tail} : Keeps s₀ (s.doorbell q tail).1 := by
  unfold State.doorbell
  extract_lets u n
  split
  · exact h
  · split
    · exact h.count
    · exact h.modQueue

theorem Keeps.cancelUnread {q n} : Keeps s₀ (s.cancelUnread q n) := by
  induction n generalizing s with
  | zero => exact h
  | succ n ih => exact ih (Keeps.modQueue h.same)

theorem Keeps.abortQueue {q} : Keeps s₀ (s.abortQueue q) := by
  unfold State.abortQueue
  extract_lets s1
  have h1 : Keeps s₀ s1 := .foldl (fun _ _ h => Keeps.ite h (Keeps.ite h (Keeps.ite h.cancel h.unwind.dropOp.complete))) h
  exact h1.cancelUnread.settle

theorem Keeps.retireOp {q} : Keeps s₀ (s.retireOp q) := by
  unfold State.retireOp
  extract_lets u
  split
  · exact h
  · exact .ite h (Keeps.ite h.store.same.modQueue.event h.store.same.modQueue)

theorem Keeps.modAccTile {a f} : Keeps s₀ (s.modAccTile a f) := h.calm (Calm.refl s).modAccTile
theorem Keeps.writeTile {a img} : Keeps s₀ (s.writeTile a img) := h.calm (Calm.refl s).writeTile
theorem Keeps.addTile {a img} : Keeps s₀ (s.addTile a img) := h.calm (Calm.refl s).addTile
theorem Keeps.clearTile {a} : Keeps s₀ (s.clearTile a) := h.calm (Calm.refl s).clearTile
theorem Keeps.actHolds {k epoch} : Keeps s₀ (s.actHolds k epoch) := h.calm (Calm.refl s).actHolds
theorem Keeps.clearSet {k e} : Keeps s₀ (s.clearSet k e) := by unfold State.clearSet; exact h.same
theorem Keeps.hold {w} : Keeps s₀ (s.hold w) := h.calm (Calm.refl s).hold

theorem Keeps.opWrite_done {o a bs} (e : s.opWrite o a bs = .done t) : Keeps s₀ t := by
  unfold State.opWrite at e
  split at e
  · split_ifs at e
    cases e; exact h.store
  · extract_lets w at e
    split_ifs at e
    · cases e; exact h
    · cases e; exact h.hold

theorem Keeps.opWrite_fail {o a bs st det} (e : s.opWrite o a bs = .fail t st det) : Keeps s₀ t := by
  unfold State.opWrite at e
  split at e
  · split_ifs at e
    cases e; exact h.meetBad
  · extract_lets w at e
    split_ifs at e
    cases e; exact h

theorem Keeps.noteRead {epoch a n} : Keeps s₀ (s.noteRead epoch a n) := h.calm (Calm.refl s).noteRead

theorem Keeps.applyWR {key op addr data} (e : s.applyWR key op addr data = .ok t) : Keeps s₀ t := h.calm ((Calm.refl s).applyWR e)

theorem Keeps.meetAt {write addr n} : Keeps s₀ (s.meetAt write addr n) := h.calm (Calm.refl s).meetAt

theorem Keeps.applyToken {key token} : Keeps s₀ (s.applyToken key token) := h.calm (Calm.refl s).applyToken

theorem Keeps.xfrFailed {o} : Keeps s₀ (s.xfrFailed o) := h.calm (Calm.refl s).xfrFailed

theorem Keeps.xfrSend {o src flush fuel} : Keeps s₀ (s.xfrSend o src flush fuel) := h.calm (Calm.refl s).xfrSend

theorem Keeps.xfrSelf {o src flush fuel} : Keeps s₀ (s.xfrSelf o src flush fuel) := h.calm (Calm.refl s).xfrSelf

theorem Keeps.xfrStep {o src} : Keeps s₀ (s.xfrStep o src) := h.calm (Calm.refl s).xfrStep

theorem Keeps.xfrBegin {o} (e : s.xfrBegin o = some t) : Keeps s₀ t := by
  unfold State.xfrBegin at e
  split at e
  · cases e; exact h.modOp
  · split at e
    · cases e
    · cases e; exact h.takeTag.modOp

theorem Keeps.xfrGo {o} : Keeps s₀ (s.xfrGo o) := h.calm (Calm.refl s).xfrGo

theorem Keeps.takeTokens {view token count} : Keeps s₀ (s.takeTokens view token count) := h.calm (Calm.refl s).takeTokens

theorem Keeps.takeDesc {q} : Keeps s₀ (s.takeDesc q) := by
  unfold State.takeDesc
  extract_lets seq unread d o s1 e s2 s3
  have h1 : Keeps s₀ s1 := h.same.modQueue
  have h2 : Keeps s₀ s2.1 := by
    unfold s2
    split
    · exact h1
    · split
      · exact h1.modOp
      · split
        · exact h1.finish
        · exact h1.finish
  have h3 : Keeps s₀ s3 := h2
  split
  · exact h1.finish
  · split
    · exact h1.finish
    · split
      · exact h1.finish
      · split
        · exact h2
        · split
          · exact h3
          · extract_lets bs
            split
            · split
              · exact h3.complete
              · exact h3.noteRead.modOp
            · split
              · exact .ite h3.complete h3
              · exact h3

theorem Keeps.notePlan {view off n} : Keeps s₀ (s.notePlan view off n) := by
  unfold State.notePlan
  extract_lets o s1 s2 s3
  have h1 : Keeps s₀ s1 := h.noteRead
  have h2 : Keeps s₀ s2 := .ite h1.noteRead h1
  have h3 : Keeps s₀ s3 := .ite h2.noteRead h2
  exact .ite h3.noteRead h3

theorem Keeps.plan {o} : Keeps s₀ (s.plan o) := by
  unfold State.plan
  extract_lets put
  have hput : ∀ use off n, Keeps s₀ (put use off n) := by
    intro use off n
    dsimp only [put]
    split
    · exact h.notePlan.modOp
    · exact h.notePlan.modOp
  split
  · exact .ite h (hput _ _ _)
  · exact .ite h (hput _ _ _)
  · exact hput _ _ _
  · exact h

theorem Keeps.rearmOp {o} : Keeps s₀ (s.rearmOp o) := by
  unfold State.rearmOp
  extract_lets n u
  split
  · exact h.unwind.complete
  · exact .ite h h.armRun.modOp

theorem Keeps.armOp {o} : Keeps s₀ (s.armOp o) := by
  unfold State.armOp
  extract_lets s1
  have h1 : Keeps s₀ s1 := .ite h.plan h
  split
  · exact h1
  · extract_lets us s2
    have h2 : Keeps s₀ s2 := .foldl (fun _ _ h => h.armRun) h1
    split
    · exact h1.complete
    · split
      · exact h1.complete
      · split
        · exact h1.complete
        · exact .ite h1 h2.modOp

theorem Keeps.actOut {o} : Keeps s₀ (s.actOut o) := h.calm (Calm.refl s).actOut

theorem Keeps.actIn {o img} : Keeps s₀ (s.actIn o img) := h.calm (Calm.refl s).actIn

theorem Keeps.actMoved {o} : Keeps s₀ (s.actMoved o) := h.calm (Calm.refl s).actMoved

theorem Keeps.startAct {o} : Keeps s₀ (s.startAct o) := by
  unfold State.startAct
  extract_lets f s1
  have h1 : Keeps s₀ s1 := h.modOp
  split
  · exact h
  · exact h.complete
  · split
    · exact h.toSet.complete
    · split
      · exact .ite h (.ite h1.handOver h1.actMoved)
      · split
        · exact h.complete
        · split
          · split
            next e => exact (h.opWrite_done e).actOut
            · exact h
            next e => exact (h.opWrite_fail e).complete
          · exact .ite h.complete h.noteRead.actIn

theorem Keeps.startSmx {o} : Keeps s₀ (s.startSmx o) := by
  unfold State.startSmx
  split
  · exact h
  · split
    · exact h.complete
    · extract_lets s1 hd n k r s2 bs xs s3
      have h1 : Keeps s₀ s1 := h.noteRead
      have h2 : Keeps s₀ s2 := h1.notePlan
      have h3 : Keeps s₀ s3 := h2.noteRead
      clear_value r s2 s3
      split
      · exact h1.complete
      · split
        · exact h2.complete
        · exact .ite h2.complete (Keeps.modOp h3.same)

theorem Keeps.startNrm {o} : Keeps s₀ (s.startNrm o) := by
  unfold State.startNrm
  extract_lets k x s1
  have h1 : Keeps s₀ s1 := h.modSet
  split
  · exact h
  · exact .ite h.complete (Keeps.ite h (Keeps.ite (Keeps.ite h h.complete) h1.same.modOp))

theorem Keeps.startXfr {o} : Keeps s₀ (s.startXfr o) := by
  unfold State.startXfr
  split
  · exact h
  · split
    · exact h.complete
    · split
      · exact h
      next e => exact (h.xfrBegin e).xfrGo

theorem Keeps.startWtk {o} : Keeps s₀ (s.startWtk o) := h.calm (Calm.refl s).startWtk

theorem Keeps.startSpb {o} : Keeps s₀ (s.startSpb o) := by unfold State.startSpb; exact .ite h.finish h.same.modEpoch.modOp.finish
theorem Keeps.squashFor {o i cause} : Keeps s₀ (s.squashFor o i cause) := by unfold State.squashFor; exact h.modOp.squashFrom

theorem Keeps.startSpc {o} : Keeps s₀ (s.startSpc o) := by
  unfold State.startSpc
  extract_lets i e s1
  have h1 : Keeps s₀ s1 := .ite h h.modOp
  split
  · exact h1.finish
  · exact h1.finish
  · exact h1.finish.modEpoch
  · exact .ite h1.squashFor h1.modEpoch.modOp

theorem Keeps.startSpq {o} : Keeps s₀ (s.startSpq o) := by
  unfold State.startSpq
  extract_lets i e s1
  have h1 : Keeps s₀ s1 := .ite h h.modOp
  exact .ite h1.squashFor (Keeps.ite h1.finish.modEpoch h1.finish)

theorem Keeps.start {o} : Keeps s₀ (s.start o) := by
  unfold State.start
  split
  · exact h.startAct
  · exact h.startSmx
  · exact h.startNrm
  · exact h.startXfr
  · exact h.startWtk
  · exact h.startSpb
  · exact h.startSpc
  · exact h.startSpq
  · exact h.modOp
  · exact h

theorem Keeps.consider {q seq} : Keeps s₀ (s.consider q seq) := by
  unfold State.consider
  extract_lets s1
  have h1 : Keeps s₀ s1 := h.modOp
  split
  · exact h
  · split
    · exact h
    · split
      · exact h.complete.settle
      · exact h1.start.settle

theorem Keeps.admitAs {q mine} : Keeps s₀ (s.admitAs q mine) := by
  unfold State.admitAs
  exact .ite h (Keeps.ite h.takeDesc.consider h)

/-! ### Kept by columns, passes, drains and residency (01 to 04) -/

theorem Keeps.markBad {g} : Keeps s₀ (s.markBad g) := by unfold State.markBad; exact .ite h h.same
theorem Keeps.becomeBad {g} : Keeps s₀ (s.becomeBad g) := by unfold State.becomeBad; exact h.markBad.count
theorem Keeps.mirrorError {r g} : Keeps s₀ (s.mirrorError r g) := by unfold State.mirrorError; exact h.count.modRegion.condition
theorem Keeps.makeWrite {w} : Keeps s₀ (s.makeWrite w) := by unfold State.makeWrite; exact h.count.setRing.same

theorem Keeps.writerSample : Keeps s₀ s.writerSample := by
  unfold State.writerSample
  exact .foldl (fun _ _ h => by split; exacts [h.same.makeWrite, h]) h

theorem Keeps.askColumn {order tile p high digit} : Keeps s₀ (s.askColumn order tile p high digit) := by
  unfold State.askColumn
  exact h.same

theorem Keeps.fillColumn {tile p v high} : Keeps s₀ (s.fillColumn tile p v high) := by unfold State.fillColumn; exact h.askColumn
theorem Keeps.askDigits {order op ds} : Keeps s₀ (s.askDigits order op ds) := h.calm (Calm.refl s).askDigits
theorem Keeps.dropWrites {c} : Keeps s₀ (s.dropWrites c) := by unfold State.dropWrites; exact h.same
theorem Keeps.copyFails {tile k p} : Keeps s₀ (s.copyFails tile k p) := by unfold State.copyFails; exact h.modTile

theorem Keeps.copyColumn {order tile k p} : Keeps s₀ (s.copyColumn order tile k p) := by
  unfold State.copyColumn
  split
  · exact h
  · extract_lets r g
    split
    · exact h
    · split
      · exact h.same
      · exact .ite h.copyFails (Keeps.ite h.meetBad.mirrorError.copyFails h.askColumn)

theorem Keeps.refreshGranule {i tile m} : Keeps s₀ (s.refreshGranule i tile m) := by
  unfold State.refreshGranule
  exact .ite h (Keeps.ite h.same (Keeps.ite h.meetBad.mirrorError h.same))

theorem Keeps.mirrorRead {x} : Keeps s₀ (s.mirrorRead x) := by
  unfold State.mirrorRead
  split
  · exact h.copyColumn
  · exact .ite h.refreshGranule h
  · exact h

theorem Keeps.dueReads : Keeps s₀ s.dueReads := by unfold State.dueReads; exact .foldl (fun _ _ h => h.mirrorRead) h.same

theorem Keeps.endRewrites : Keeps s₀ s.endRewrites := by
  unfold State.endRewrites
  exact .foldl (fun _ _ h => Keeps.ite h h.modCluster) h

theorem Keeps.loadSpare {tile} : Keeps s₀ (s.loadSpare tile) := by
  unfold State.loadSpare
  split
  · exact .ite h (Keeps.ite h.modTile h.modTile.copyColumn)
  · exact h

theorem Keeps.queueMap {tile cs} : Keeps s₀ (s.queueMap tile cs) := by unfold State.queueMap; exact h.modTile.loadSpare

theorem Keeps.abandonCalib {tile} : Keeps s₀ (s.abandonCalib tile) := by
  unfold State.abandonCalib
  extract_lets waits
  split
  · exact h
  · exact .ite h (Keeps.ite h.modTile.same.fillColumn h.modTile.same)

theorem Keeps.mapBack {tile k} : Keeps s₀ (s.mapBack tile k) := by unfold State.mapBack; exact h.queueMap.copyColumn

theorem Keeps.carouselBack {tile} : Keeps s₀ (s.carouselBack tile) := by
  unfold State.carouselBack
  extract_lets t s1
  have h1 : Keeps s₀ s1 := h.abandonCalib
  split
  · exact .ite h1.mapBack h1
  · exact h1

theorem Keeps.spareTakes {tile k why} : Keeps s₀ (s.spareTakes tile k why) := by
  unfold State.spareTakes
  extract_lets t m s1
  have h1 : Keeps s₀ s1 := h.carouselBack
  split
  · exact h
  · split
    · exact (Keeps.ite h.abandonCalib h).queueMap
    · exact .ite h (Keeps.ite h.carouselBack (Keeps.ite h1 h1.queueMap))
    · exact h

theorem Keeps.failRun {o status detail} : Keeps s₀ (s.failRun o status detail) := h.calm (Calm.refl s).failRun

theorem Keeps.makeUnusable {tile inService} : Keeps s₀ (s.makeUnusable tile inService) := by
  unfold State.makeUnusable
  extract_lets s1 _ s2 s3 s4
  have h1 : Keeps s₀ s1 := h.modTile
  have h2 : Keeps s₀ s2 := h1.same
  have h3 : Keeps s₀ s3 := .ite h2.count h2
  have h4 : Keeps s₀ s4 := h3.condition
  split
  · exact h
  · exact .foldl (fun _ _ h => by split; exacts [Keeps.ite h.failRun h, h]) h4

theorem Keeps.countRetired {tile} : Keeps s₀ (s.countRetired tile) := by
  unfold State.countRetired
  extract_lets _ s1
  have h1 : Keeps s₀ s1 := h.same
  split
  · exact h1.modRegion
  · exact h1

theorem Keeps.retireColumn {tile p} : Keeps s₀ (s.retireColumn tile p) := by
  unfold State.retireColumn
  extract_lets t s1 s2 s3 _ s4 s5
  have h1 : Keeps s₀ s1 := h.modCol.modCluster
  have h2 : Keeps s₀ s2 := h1.modTile
  have h3 : Keeps s₀ s3 := h2.condition
  have h4 : Keeps s₀ s4 := h3.same
  have h5 : Keeps s₀ s5 := h3.countRetired
  exact .ite (Keeps.ite h4.makeUnusable h4) (Keeps.ite (Keeps.ite h5.makeUnusable h5) h3)

theorem Keeps.columnOut {tile p why} : Keeps s₀ (s.columnOut tile p why) := by
  unfold State.columnOut
  extract_lets t
  split
  · exact h.makeUnusable
  · split
    · exact .ite h h.modTile.count.condition
    · exact .ite h.carouselBack (Keeps.ite (Keeps.ite h.abandonCalib.modTile h) h.spareTakes)

theorem Keeps.applyMap {tile} : Keeps s₀ (s.applyMap tile) := by
  unfold State.applyMap
  extract_lets t
  split
  · exact h
  · extract_lets s1
    have h1 : Keeps s₀ s1 := h.modTile
    split
    · exact h
    · split
      · extract_lets s2 s3
        have h2 : Keeps s₀ s2 := by
          unfold s2
          split
          · exact h1.count.modTile
          · exact h1.count.condition
          · exact h1.count.countRetired.condition
          · exact h1
        have h3 : Keeps s₀ s3 := h2.modTile
        exact h3.loadSpare
      · split
        · exact h1.modTile
        · exact h1.queueMap
        · exact (Keeps.ite h1.fillColumn h1).loadSpare

theorem Keeps.zeroOutputs {o k} : Keeps s₀ (s.zeroOutputs o k) := by
  unfold State.zeroOutputs
  exact .foldl (fun _ _ h => h.modAcc) h

theorem Keeps.restoreSet {k area} : Keeps s₀ (s.restoreSet k area) := by
  unfold State.restoreSet
  exact .foldl (fun _ _ h => h.writeTile) h

theorem Keeps.giveBasin {x} : Keeps s₀ (s.giveBasin x) := by unfold State.giveBasin; exact h.same

theorem Keeps.takeBasin {o k exp b xs} : Keeps s₀ (s.takeBasin o k exp b xs) := by
  unfold State.takeBasin
  extract_lets resume s1 s2 reps run s3
  have h1 : Keeps s₀ s1 := .ite h.restoreSet ((Keeps.ite h h.clearSet).zeroOutputs)
  have h2 : Keeps s₀ s2 := h1.modSet
  have h3 : Keeps s₀ s3 := .foldl (fun _ _ h => h.modCluster) h2
  exact h3.giveBasin.modOp

theorem Keeps.opStart {q slot} : Keeps s₀ (s.opStart q slot) := by
  unfold State.opStart
  split
  · exact h
  · split
    · exact h
    · split
      · exact h.complete.settle
      · exact .ite h h.same.modOp
      · split
        · exact h
        · split
          · exact h.takeBasin
          · exact h

theorem Keeps.addPartials {m pass cs take} : Keeps s₀ (s.addPartials m pass cs take) := by
  unfold State.addPartials
  exact .foldl (fun _ _ h => Keeps.foldl (fun _ _ h => Keeps.ite h h.modAcc) h) h

theorem Keeps.noteWarns {cs} : Keeps s₀ (s.noteWarns cs) := by unfold State.noteWarns; exact .foldl (fun _ _ h => h.count.modTile) h
theorem Keeps.modRun {o f} : Keeps s₀ (s.modRun o f) := h.calm (Calm.refl s).modRun

theorem Keeps.takeSlot {o m last} : Keeps s₀ (s.takeSlot o m last) := by
  unfold State.takeSlot
  extract_lets rate idle _ s1 s2 s3
  have h1 : Keeps s₀ s1 := h.same
  have h2 : Keeps s₀ s2 := h1.modRun
  have h3 : Keeps s₀ s3 := .foldl (fun _ _ h => Keeps.ite h.endFault h) h2
  exact .foldl (fun _ _ h => Keeps.foldl (fun _ _ h => h.modTileLoop) h) h3

theorem Keeps.pass {rd} : Keeps s₀ (s.pass rd) := by
  unfold State.pass
  split
  · exact h
  · split
    · exact h
    · exact .ite h h.noteWarns.count.addPartials.takeSlot.modRun

theorem Keeps.ambiguous {tile} : Keeps s₀ (s.ambiguous tile) := by
  unfold State.ambiguous
  split
  · exact h
  · split
    · exact h
    · split
      · exact h
      · exact ((Keeps.ite h.startFault h).modRun).spareTakes

theorem Keeps.passRepeat {rd} : Keeps s₀ (s.passRepeat rd) := by
  unfold State.passRepeat
  split
  · exact h
  · split
    · exact h
    · split
      · exact h
      · extract_lets cs amb fresh s1 s2 s3 s4 s5
        have h1 : Keeps s₀ s1 := by
          unfold s1
          split
          · exact h.endFault.condition
          · exact h
        have h2 : Keeps s₀ s2 := h1.noteWarns.count
        have h3 : Keeps s₀ s3 := h2.addPartials
        have h4 : Keeps s₀ s4 := h3.takeSlot
        have h5 : Keeps s₀ s5 := h4.count.modOp
        exact .ite h h5.modRun

theorem Keeps.contribute : Keeps s₀ s.contribute := by
  unfold State.contribute
  split
  · exact h
  · split
    · exact h
    · extract_lets bad s1 s2 s3 _ s4 s5
      have h1 : Keeps s₀ s1 := .foldl (fun _ _ h => h.modAcc) h
      have h2 : Keeps s₀ s2 := h1.count
      have h3 : Keeps s₀ s3 := h2.modOp
      have h4 : Keeps s₀ s4 := h3.same
      have h5 : Keeps s₀ s5 := h4.modSet
      exact .ite h (Keeps.ite h4.toSet.complete.settle h5.same.modOp)

theorem Keeps.drainStart : Keeps s₀ s.drainStart := by
  unfold State.drainStart
  split
  · exact h
  · split
    · exact h
    · split
      · exact h
      · split
        · exact h
        · exact h.count.count.count.modOp.same.handOver.modOp

theorem Keeps.drainComplete : Keeps s₀ s.drainComplete := by
  unfold State.drainComplete
  split
  · exact h
  · split
    · exact h
    · split
      · exact h
      · split
        · extract_lets mode mask done step2
          have hdone : ∀ {u}, Keeps s₀ u → Keeps s₀ (done u) := fun h => h.toSet.complete.settle
          have hstep2 : ∀ {u}, Keeps s₀ u → Keeps s₀ (step2 u) := by
            intro u h
            unfold step2
            split
            · exact hdone h
            · split
              next e => exact hdone (h.opWrite_done e)
              · exact h
              next e => exact (h.opWrite_fail e).toSet.complete.settle
          split
          · exact h
          · split
            · exact hstep2 h
            · split
              next e => exact hstep2 (h.opWrite_done e).modOp
              · exact h
              next e => exact (h.opWrite_fail e).toSet.complete.settle
        · exact h

theorem Keeps.doPreempt {o} : Keeps s₀ (s.doPreempt o) := by unfold State.doPreempt; exact h.same.endRun.count.modOp.modRun

theorem Keeps.preempt : Keeps s₀ s.preempt := by
  unfold State.preempt
  split
  · exact h
  · split
    · exact h
    · exact .ite h (Keeps.ite h.doPreempt h)

theorem Keeps.stallPreempt : Keeps s₀ s.stallPreempt := by
  unfold State.stallPreempt
  split
  · exact h
  · split
    · exact .ite h (Keeps.ite h.doPreempt h)
    · exact h

theorem Keeps.suspend : Keeps s₀ s.suspend := by
  unfold State.suspend
  split
  · exact h
  · extract_lets a
    split
    · exact h
    · exact .ite h (Keeps.ite h.failRun h.store.modRun)

theorem Keeps.rereadDone {q n} : Keeps s₀ (s.rereadDone q n) := h.calm (Calm.refl s).rereadDone

theorem Keeps.resumePreempted : Keeps s₀ s.resumePreempted := by
  unfold State.resumePreempted
  split
  · exact h
  · exact .ite h h.giveBasin.same.modRun

theorem Keeps.loadStep {q n} : Keeps s₀ (s.loadStep q n) := h.calm (Calm.refl s).loadStep

theorem Keeps.loadClears {tile} : Keeps s₀ (s.loadClears tile) := by
  unfold State.loadClears
  exact .ite h.abandonCalib.queueMap h.abandonCalib

theorem Keeps.loadStart {q slot} : Keeps s₀ (s.loadStart q slot) := by
  unfold State.loadStart
  split
  · exact h
  · extract_lets i s1
    have h1 : Keeps s₀ s1 := .foldl (fun _ _ h => h.loadClears) h
    split
    · exact h
    · split
      · exact h.complete.settle
      · exact h1.modRegion.same.modOp.loadStep

theorem Keeps.loadComplete {q slot} : Keeps s₀ (s.loadComplete q slot) := by
  unfold State.loadComplete
  split
  · exact h
  · extract_lets i r base s1 _ s2
    have h1 : Keeps s₀ s1 := h.modRegion
    have h2 : Keeps s₀ s2 := .ite h1 h1.same
    exact .ite h h2.complete.settle

theorem Keeps.digestComplete : Keeps s₀ s.digestComplete := by
  unfold State.digestComplete
  split
  · exact h
  · exact .ite h h.same.modRegion

theorem Keeps.writeMirror {r tile k l v} : Keeps s₀ (s.writeMirror r tile k l v) := by unfold State.writeMirror; exact h.writeByte

theorem Keeps.kapStart {q slot} : Keeps s₀ (s.kapStart q slot) := by
  unfold State.kapStart
  split
  · exact h
  · extract_lets i r ctx
    split
    · exact h
    · split
      · exact h.complete.settle
      · split
        · exact h
        · split
          · exact h
          · extract_lets xs ds hit s1 s2 s3
            have h1 : Keeps s₀ s1 := .ite h.noteRead h
            have h2 : Keeps s₀ s2 := .foldl (fun _ _ h => h.writeMirror) h1
            have h3 : Keeps s₀ s3 := h2.askDigits
            split
            · exact h.complete.settle
            · exact .ite h.complete.settle (Keeps.ite h.count.complete.settle h3.modRegion.modOp)

theorem Keeps.kapComplete {q slot} : Keeps s₀ (s.kapComplete q slot) := by
  unfold State.kapComplete
  split
  · exact h
  · exact .ite h h.modRegion.complete.settle

theorem Keeps.rewriteTiles {i ts} : Keeps s₀ (s.rewriteTiles i ts) := by
  unfold State.rewriteTiles
  exact .foldl (fun _ _ h => Keeps.foldl (fun _ _ h => h.refreshGranule) h) h

theorem Keeps.mirrorCorrected {i gs} : Keeps s₀ (s.mirrorCorrected i gs) := by unfold State.mirrorCorrected; exact h.count.count

theorem Keeps.refresh {i corrected} : Keeps s₀ (s.refresh i corrected) := by
  unfold State.refresh
  exact .ite h h.mirrorCorrected.rewriteTiles

theorem Keeps.mirrorUncorrectable {i g} : Keeps s₀ (s.mirrorUncorrectable i g) := by
  unfold State.mirrorUncorrectable
  exact .ite h.becomeBad.mirrorError h

theorem Keeps.graceEnd {i} : Keeps s₀ (s.graceEnd i) := by unfold State.graceEnd; exact .ite h.modRegion.condition h

theorem Keeps.rewriteCluster {c} : Keeps s₀ (s.rewriteCluster c) := by
  unfold State.rewriteCluster
  exact (Keeps.foldl (fun _ _ h => .ite h.rewriteTiles h) h).modCluster.endRewrites

theorem Keeps.clusterRingRewrite {c} : Keeps s₀ (s.clusterRingRewrite c) := by
  unfold State.clusterRingRewrite
  exact .ite h.rewriteCluster h

theorem Keeps.stackMirrors {k since} : Keeps s₀ (s.stackMirrors k since) := by
  unfold State.stackMirrors
  refine .foldl (fun s i h => ?_) h
  extract_lets r
  split
  · exact .ite h.count.modRegion.condition h
  · exact h

theorem Keeps.stackResetOverrun {k} : Keeps s₀ (s.stackResetOverrun k) := by
  unfold State.stackResetOverrun
  split
  · exact .ite h.stackMirrors h
  · exact h

theorem Keeps.stackFail {k} : Keeps s₀ (s.stackFail k) := by
  unfold State.stackFail
  exact .ite h (Keeps.condition h.same).stackMirrors

theorem Keeps.patrolScrub {g e} : Keeps s₀ (s.patrolScrub g e) := by
  unfold State.patrolScrub
  extract_lets s1 s2
  have h1 : Keeps s₀ s1 := h.count
  have h2 : Keeps s₀ s2 := h.becomeBad
  split
  · exact h
  · split
    · exact .foldl (fun _ _ h => h.mirrorError) h.meetBad
    · split
      · exact h
      · exact .ite h1 h1.count
      · exact .ite h2.condition (Keeps.foldl (fun _ _ h => h.mirrorError) h2)

/-! ### Kept by the stream engine and the epochs (05, 06) -/

theorem Keeps.headerArrived {o c run} : Keeps s₀ (s.headerArrived o c run) := h.calm (Calm.refl s).headerArrived

theorem Keeps.stagingDone {c} : Keeps s₀ (s.stagingDone c) := h.calm (Calm.refl s).stagingDone

theorem Keeps.onProgress {c data} : Keeps s₀ (s.onProgress c data) := h.calm (Calm.refl s).onProgress

theorem Keeps.runError {r} : Keeps s₀ (s.runError r) := h.calm (Calm.refl s).runError

theorem Keeps.deliver {c fuel} : Keeps s₀ (s.deliver c fuel) := h.calm (Calm.refl s).deliver

theorem Keeps.arrive {r data failed} : Keeps s₀ (s.arrive r data failed) := h.calm (Calm.refl s).arrive

theorem Keeps.localRead {run r} : Keeps s₀ (s.localRead run r) := by unfold State.localRead; exact h.noteRead.meetBad.arrive

theorem Keeps.localWrite {run r} : Keeps s₀ (s.localWrite run r) := by
  unfold State.localWrite
  exact ((Keeps.ite h h.meetBad).store).arrive

theorem Keeps.localAccess {c r} : Keeps s₀ (s.localAccess c r) := by
  unfold State.localAccess
  split
  · exact h.meetBad.arrive
  · split
    · exact .ite h.localWrite h.localRead
    · exact h

theorem Keeps.memoryCompletion {c corrected} : Keeps s₀ (s.memoryCompletion c corrected) := by
  unfold State.memoryCompletion
  split
  · exact .ite h h.count.localAccess
  · exact h

theorem Keeps.stagingBad {i} : Keeps s₀ (s.stagingBad i) := by unfold State.stagingBad; exact .ite h h.same

theorem Keeps.memoryError {c} : Keeps s₀ (s.memoryError c) := by
  unfold State.memoryError
  split
  · exact .ite h.arrive (Keeps.ite h h.markBad.localAccess)
  · exact h

theorem Keeps.streamHalt {c} : Keeps s₀ (s.streamHalt c) := by
  unfold State.streamHalt
  split
  · extract_lets op s1
    have h1 : Keeps s₀ s1 := h.halt
    clear_value op s1
    split
    · exact .ite h1.xfrGo.settle h1
    · exact h1
  · exact h

theorem Keeps.resume {c seq} : Keeps s₀ (s.resume c seq).1 := by
  unfold State.resume
  extract_lets x
  split
  · split
    · exact h.count
    · split
      · exact h.count.halt
      · exact h.uncache.modCtx
  · exact h.count

theorem Keeps.standstill : Keeps s₀ s.standstill := by
  unfold State.standstill
  split
  · split
    · exact h.yieldLines
    · exact h
  · exact h

theorem Keeps.invalidate {v} : Keeps s₀ (s.invalidate v) := by unfold State.invalidate; exact h.same

theorem Keeps.serve {path} : Keeps s₀ (s.serve path) := by
  unfold State.serve
  split
  · exact h
  · split
    · exact h
    · split
      · split
        · extract_lets w
          split
          · split
            · exact h
            · split
              · exact h.failRun
              · exact h
          · exact h.issue.refill.onProgress
        · exact h.issue
      · exact h

theorem Keeps.cycle : Keeps s₀ s.cycle := by unfold State.cycle; exact (Keeps.foldl (fun _ _ h => h.serve) h).same
theorem Keeps.commitAppends {serial} : Keeps s₀ (s.commitAppends serial) := by unfold State.commitAppends; exact h.same

theorem Keeps.retireEpoch {i} : Keeps s₀ (s.retireEpoch i) := by
  unfold State.retireEpoch
  extract_lets s1 e s2
  have h1 : Keeps s₀ s1 := h.raiseHeld
  have h2 : Keeps s₀ s2 := h1.commitAppends
  refine .ite h ?_
  have h3 := fun final serial => h2.commitKeys (final := final) (serial := serial)
  dsimp only
  refine Keeps.settle (.ite (Keeps.failSpc ?_) ?_)
  all_goals exact (Keeps.foldl (fun _ _ h => .ite h.modSet h) (h3 _ _)).addMessages.modEpoch

theorem Keeps.dropPeer {source stamp timeout} : Keeps s₀ (s.dropPeer source stamp timeout) := by
  unfold State.dropPeer
  extract_lets r s1 payload
  have h1 : Keeps s₀ s1 := h.dropKey
  clear_value r s1
  split
  · exact h1.squashFrom.condition.settle
  · exact .ite h1.condition h1

theorem Keeps.peerTimeout {source stamp} : Keeps s₀ (s.peerTimeout source stamp) := by
  unfold State.peerTimeout
  exact .ite h.dropPeer h

theorem Keeps.smxComplete : Keeps s₀ s.smxComplete := by
  unfold State.smxComplete
  split
  · exact h
  · split
    · exact h
    · split
      next e => exact (h.opWrite_done e).completeRan.settle
      · exact h
      next e => exact (h.opWrite_fail e).endAs.settle

theorem Keeps.retryStarted : Keeps s₀ s.retryStarted := by
  unfold State.retryStarted
  exact .foldl (fun _ _ h => by split; exacts [Keeps.ite h (Keeps.ite h.xfrGo h.actMoved), h]) h

theorem Keeps.streamArm {q slot} : Keeps s₀ (s.streamArm q slot) := by
  unfold State.streamArm
  split
  · extract_lets s1
    have h1 : Keeps s₀ s1 := h.armOp
    split
    · exact h
    · split
      · exact h.rearmOp.settle
      · split
        · exact .ite h1.start.settle h1.settle
        · exact h1
  · exact h

/-! ### Kept by loops, converters and calibration (07, 08) -/

theorem Keeps.startSweep {tile p} : Keeps s₀ (s.startSweep tile p) := by unfold State.startSweep; exact h.modCol

theorem Keeps.attemptFailed {tile p} : Keeps s₀ (s.attemptFailed tile p) := by
  unfold State.attemptFailed
  exact .ite h.count.modCol.retireColumn h.count.modCol.startSweep

theorem Keeps.trigger {tile kind chans} : Keeps s₀ (s.trigger tile kind chans) := by
  unfold State.trigger
  exact .ite h.modCluster h.count

theorem Keeps.pilotLoss {tile p} : Keeps s₀ (s.pilotLoss tile p) := by unfold State.pilotLoss; exact h.trigger

theorem Keeps.enterRecovery {tile p cause} : Keeps s₀ (s.enterRecovery tile p cause) := by
  unfold State.enterRecovery
  exact .ite h h.count.condition.startFault.modTile.modCluster.modCol.startSweep.columnOut

theorem Keeps.noteSense {tile hd v} : Keeps s₀ (s.noteSense tile hd v) := by unfold State.noteSense; exact h.modHeater
theorem Keeps.setTarget {tile hd code} : Keeps s₀ (s.setTarget tile hd code) := by unfold State.setTarget; exact h.modHeater

theorem Keeps.strobe {tile} : Keeps s₀ (s.strobe tile) := by
  unfold State.strobe
  exact .foldl (fun _ _ h => Keeps.ite h (Keeps.ite h.modHeater h.count.modHeater)) h

theorem Keeps.parkTile {tile} : Keeps s₀ (s.parkTile tile) := by unfold State.parkTile; exact .foldl (fun _ _ h => h.modHeater) h

theorem Keeps.record {c injected rec} : Keeps s₀ (s.record c injected rec) := by
  unfold State.record
  exact (Keeps.ite h.count h).modCluster

theorem Keeps.normalise {tile} : Keeps s₀ (s.normalise tile) := by
  unfold State.normalise
  exact .ite h (Keeps.foldl (fun _ _ h => h.modCol) h.modTileLoop)

theorem Keeps.materialise {tile} : Keeps s₀ (s.materialise tile) := by
  unfold State.materialise
  exact .foldl (fun _ _ h => h.modCol) h

theorem Keeps.updateColumn {tile p k level} : Keeps s₀ (s.updateColumn tile p k level) := by
  unfold State.updateColumn
  extract_lets _ c b _3
  split
  · exact h.count.modCluster.modCol
  · split
    · exact h.modCol
    · split
      · exact h.modCol
      · exact h.attemptFailed
    · exact h.modCol
    · exact h.modCol
    · exact h.modCol
    · exact h.modCol
    · exact h.modCol

theorem Keeps.runLoops {tile n as} : Keeps s₀ (s.runLoops tile n as) := by
  unfold State.runLoops
  extract_lets x val ontime newTemp l temp l' s1 s2 pilots s3 k s4 s5 s6 s7 s8 m
  have hpilots : ∀ {bs u}, Keeps s₀ u → Keeps s₀ (pilots bs u) := fun h =>
    .foldl (fun _ _ h => .ite h.modCol h) h
  have h1 : Keeps s₀ s1 := h.modTileLoop
  have h2 : Keeps s₀ s2 := .foldl (fun _ _ h => .ite h.noteSense h) h1
  have h3 : Keeps s₀ s3 := hpilots h2
  have h4 : Keeps s₀ s4 := .foldl (fun _ _ h => h.updateColumn) h3
  have h6 : Keeps s₀ s6 := (hpilots h4).normalise
  have h7 : Keeps s₀ s7 := by
    refine .foldl (fun s p h => ?_) h6
    split
    · exact h.setTarget
    · exact h.setTarget
    · exact h.setTarget
    · exact h.setTarget
    · exact h
  have h8 : Keeps s₀ s8 := .ite h7.modHeater h7.setTarget
  exact h8.modTileLoop

theorem Keeps.recordAll {tile n as} : Keeps s₀ (s.recordAll tile n as) := by
  unfold State.recordAll
  exact .foldl (fun _ _ h => Keeps.ite h.record h) h

theorem Keeps.calFailed {tile c} : Keeps s₀ (s.calFailed tile c) := by
  unfold State.calFailed
  extract_lets s1 s2
  have h1 : Keeps s₀ s1 := h.count.modCol
  have h2 : Keeps s₀ s2 := h1.modTile
  exact .ite h1.retireColumn (Keeps.ite h2.fillColumn h2)

theorem Keeps.calEnds {tile c f} : Keeps s₀ (s.calEnds tile c f) := by
  unfold State.calEnds
  exact .ite (Keeps.ite h.modCol.modTile.fillColumn h.modCol.modTile.mapBack) h.calFailed

theorem Keeps.stepWrites {tile c} : Keeps s₀ (s.stepWrites tile c) := by
  unfold State.stepWrites
  extract_lets s1 _
  have h1 : Keeps s₀ s1 := h.fillColumn
  split
  · exact .ite h.fillColumn h
  · exact h.fillColumn
  · exact .ite h.askColumn h
  · exact h1.same
  · exact h

theorem Keeps.calStep {tile n stim fit} : Keeps s₀ (s.calStep tile n stim fit) := by
  unfold State.calStep
  extract_lets t
  split
  · exact h
  · extract_lets covered c' s1 s2
    have h1 : Keeps s₀ s1 := h.modTile
    have h2 : Keeps s₀ s2 := .ite h1.modCol h1
    split
    · exact h
    · split
      · split
        · exact h.calEnds
        · exact h
      · exact .ite h h2.stepWrites

theorem Keeps.stopLoops {c} : Keeps s₀ (s.stopLoops c) := by unfold State.stopLoops; exact h.modCluster.same

theorem Keeps.monitorFail {c conv} : Keeps s₀ (s.monitorFail c conv) := by
  unfold State.monitorFail
  extract_lets x n x' s1 k s2 s3
  have h1 : Keeps s₀ s1 := h.modCluster
  have h2 : Keeps s₀ s2 := h1.condition
  have h3 : Keeps s₀ s3 := .ite h2.interruption h2
  exact .ite h (Keeps.ite ((Keeps.foldl (fun _ _ h => h.makeUnusable) h3).stopLoops) h3)

theorem Keeps.checkRefs {tile as} : Keeps s₀ (s.checkRefs tile as) := by
  unfold State.checkRefs
  extract_lets c
  exact .foldl (fun _ _ h => by split; exacts [h, Keeps.ite h.monitorFail h]) h

theorem Keeps.loopUpdate {tile rs stim fit} : Keeps s₀ (s.loopUpdate tile rs stim fit) := by
  unfold State.loopUpdate
  extract_lets c x n s1 as s2 s3
  have h1 : Keeps s₀ s1 := h.materialise.modCluster
  have h2 : Keeps s₀ s2 := h1.runLoops.recordAll
  have h3 : Keeps s₀ s3 := h2.strobe.modTileLoop
  split
  · exact h
  · exact .ite (Keeps.ite h.strobe.modTileLoop h) (Keeps.ite h h3.checkRefs.calStep)

theorem Keeps.normaliseOuter {tile} : Keeps s₀ (s.normaliseOuter tile) := by
  unfold State.normaliseOuter
  exact .ite h (Keeps.foldl (fun _ _ h => h.modTileLoop) h)

theorem Keeps.outerForm {tile} : Keeps s₀ (s.outerForm tile) := by unfold State.outerForm; exact h.modTileLoop

theorem Keeps.outerUpdate {tile} : Keeps s₀ (s.outerUpdate tile) := by
  unfold State.outerUpdate
  extract_lets c x n k s1 s2 ls _ s3 bad
  have h1 : Keeps s₀ s1 := h.outerForm.modTileLoop.normaliseOuter
  have h2 : Keeps s₀ s2 := by
    refine .ite h1 (.foldl (fun s p h => ?_) h1)
    split
    · exact h.modCol
    · exact h.modCol
    · exact h
  have h3 : Keeps s₀ s3 := by
    unfold s3
    clear_value ls
    split
    · exact h2
    · exact h2.same
  clear_value bad s3
  refine .ite h ?_
  split
  · exact .ite h3 h3.condition.modCluster
  · exact h3

theorem Keeps.plausibilityFail {tile} : Keeps s₀ (s.plausibilityFail tile) := by
  unfold State.plausibilityFail
  extract_lets bad s1
  have h1 : Keeps s₀ s1 := .foldl (fun _ _ h => h.count.modCol) h
  split
  · exact h
  · exact .ite h1.modTile.count.condition (Keeps.foldl (fun _ _ h => h.enterRecovery) h1)

theorem Keeps.loopLock {tile p} : Keeps s₀ (s.loopLock tile p) := by
  unfold State.loopLock
  exact .ite h (Keeps.ite h.modCol.fillColumn.same h.modCol.modCol)

theorem Keeps.deadlineLoss {tile p} : Keeps s₀ (s.deadlineLoss tile p) := by
  unfold State.deadlineLoss
  exact .ite h h.pilotLoss.enterRecovery

theorem Keeps.comparatorFlag {tile p lit} : Keeps s₀ (s.comparatorFlag tile p lit) := by
  unfold State.comparatorFlag
  extract_lets inPass band s1 _ s2 s3
  have h1 : Keeps s₀ s1 := h.modCol
  have h2 : Keeps s₀ s2 := .ite h1.same h1
  have h3 : Keeps s₀ s3 := .ite h2 h2.pilotLoss
  exact .ite h3 h3.enterRecovery

theorem Keeps.sweepEnd {tile p} : Keeps s₀ (s.sweepEnd tile p) := by
  unfold State.sweepEnd
  extract_lets c
  split
  · exact .ite h (Keeps.ite h.modCol.setTarget h.attemptFailed)
  · exact h

theorem Keeps.columnBack {tile p} : Keeps s₀ (s.columnBack tile p) := by
  unfold State.columnBack
  extract_lets s1 s2 t s3
  have h1 : Keeps s₀ s1 := h.modTile.modCluster
  have h2 : Keeps s₀ s2 := h1.modCol
  have h3 : Keeps s₀ s3 := by
    unfold s3
    split
    · exact h2.copyColumn
    · exact h2
  split
  · split
    · exact h3.modTile
    · exact .ite h3.queueMap h3
    · exact .ite h3.fillColumn h3
  · exact .ite h2.mapBack h2.modTile.copyColumn

theorem Keeps.identityCheck {tile p codes} : Keeps s₀ (s.identityCheck tile p codes) := by
  unfold State.identityCheck
  extract_lets _ _1 cls warns
  split
  · exact h
  · extract_lets s1 s2 s3
    have h1 : Keeps s₀ s1 := h.same
    have h2 : Keeps s₀ s2 := h1.count.count
    have h3 : Keeps s₀ s3 := .ite h2 h2.modTile
    split
    · exact h
    · split
      · split
        · exact .ite h3 (Keeps.ite h3.modTile h3.calFailed)
        · exact h3
      · exact .ite h3.columnBack h3.attemptFailed

theorem Keeps.forceCheck {tile p} : Keeps s₀ (s.forceCheck tile p) := by unfold State.forceCheck; exact h.same
theorem Keeps.thermalPause : Keeps s₀ s.thermalPause := by unfold State.thermalPause; exact .ite h h.same

theorem Keeps.atBoundary {act : State → State} (hact : Keeps s₀ (act s)) : Keeps s₀ (s.atBoundary act) := by
  unfold State.atBoundary
  exact .ite h hact

theorem Keeps.thermalPauseEnd : Keeps s₀ s.thermalPauseEnd := by unfold State.thermalPauseEnd; exact .ite h h.same.tellPause
theorem Keeps.pauseAlarm : Keeps s₀ s.pauseAlarm := by unfold State.pauseAlarm; exact .ite h h.same.condition
theorem Keeps.startLoops {c} : Keeps s₀ (s.startLoops c) := by unfold State.startLoops; exact .ite h h.modCluster.same.same
theorem Keeps.lowRateEntry {c} : Keeps s₀ (s.lowRateEntry c) := by unfold State.lowRateEntry; exact .ite h h.modCluster
theorem Keeps.lowRateExit {c} : Keeps s₀ (s.lowRateExit c) := by unfold State.lowRateExit; exact .ite h h.modCluster

theorem Keeps.heaterFault {tile hd short} : Keeps s₀ (s.heaterFault tile hd short) := by
  unfold State.heaterFault
  extract_lets x s1 s2 s3 s4
  have h1 : Keeps s₀ s1 := h.modHeater
  have h2 : Keeps s₀ s2 := h1.count.condition
  have h3 : Keeps s₀ s3 := h2.startFault
  have h4 : Keeps s₀ s4 := .ite h3.trigger h3
  exact .ite h (Keeps.ite h4.parkTile.makeUnusable (Keeps.ite h4 h4.columnOut.retireColumn))

theorem Keeps.heaterShort {tile hd} : Keeps s₀ (s.heaterShort tile hd) := by unfold State.heaterShort; exact h.heaterFault
theorem Keeps.heaterOpen {tile hd} : Keeps s₀ (s.heaterOpen tile hd) := by unfold State.heaterOpen; exact .ite h h.heaterFault
theorem Keeps.tempAlarm {tile} : Keeps s₀ (s.tempAlarm tile) := by unfold State.tempAlarm; exact .ite h h.trigger

theorem Keeps.injectRequest {c conv chans} : Keeps s₀ (s.injectRequest c conv chans) := by
  unfold State.injectRequest
  exact .ite h h.trigger

theorem Keeps.injectedStart {c conv codes} : Keeps s₀ (s.injectedStart c conv codes) := by
  unfold State.injectedStart
  extract_lets x
  split
  · exact h
  · extract_lets since len start s1
    have h1 : Keeps s₀ s1 := h.modCluster
    split
    · exact h
    · exact .foldl (fun _ _ h => (Keeps.ite h.modCol (Keeps.ite h.noteSense h)).record) h1

theorem Keeps.requestCapture {v} : Keeps s₀ (s.requestCapture v).1 := by
  unfold State.requestCapture
  extract_lets _
  split
  · exact h.same.modCluster
  · exact h

theorem Keeps.captureStart {c} : Keeps s₀ (s.captureStart c) := by
  unfold State.captureStart
  split
  · exact h
  · exact .ite h h.modCluster

theorem Keeps.captureComplete {c codes} : Keeps s₀ (s.captureComplete c codes) := by
  unfold State.captureComplete
  extract_lets _
  split
  · exact h
  · exact .ite h h.same.modCluster

theorem Keeps.carouselWindow {tile} : Keeps s₀ (s.carouselWindow tile) := by
  unfold State.carouselWindow
  exact .ite h (Keeps.ite h.modTileLoop.modTile h.modTileLoop.modTile.spareTakes)

theorem Keeps.calibrationAbandon {tile} : Keeps s₀ (s.calibrationAbandon tile) := by
  unfold State.calibrationAbandon
  extract_lets s1 s2
  have h1 : Keeps s₀ s1 := h.count
  have h2 : Keeps s₀ s2 := h1.abandonCalib.modTile
  split
  · exact h
  · exact .ite h (Keeps.ite h2.mapBack (Keeps.ite h1.abandonCalib.fillColumn h1.carouselBack))

theorem Keeps.restartWindows {c} : Keeps s₀ (s.restartWindows c) := by unfold State.restartWindows; exact h.same

/-! ### Kept by the fabric and the cascade (09, 10) -/

theorem Keeps.addEntry {dev lane lseq flags} : Keeps s₀ (s.addEntry dev lane lseq flags) := by unfold State.addEntry; exact h.same
theorem Keeps.dimCheck {d} : Keeps s₀ (s.dimCheck d) := by unfold State.dimCheck; exact .ite h h.same.condition

theorem Keeps.fiberCheck {f inbound since} : Keeps s₀ (s.fiberCheck f inbound since) := by
  unfold State.fiberCheck
  exact .ite h (Keeps.ite h.condition h.condition.same)

theorem Keeps.retireOut {lane ask} : Keeps s₀ (s.retireOut lane ask) := by
  unfold State.retireOut
  extract_lets n since s1 s2 _ s3 s4
  have h1 : Keeps s₀ s1 := h.modLane
  have h2 : Keeps s₀ s2 := h1.count.condition
  have h3 : Keeps s₀ s3 := h2.same
  have h4 : Keeps s₀ s4 := by
    unfold s4
    split
    · exact h3.addEntry
    · exact h3
  exact .ite h h4.fiberCheck.dimCheck

theorem Keeps.retireIn {lane} : Keeps s₀ (s.retireIn lane) := by
  unfold State.retireIn
  extract_lets n s1 s2 s3
  have h1 : Keeps s₀ s1 := h.modLane
  have h2 : Keeps s₀ s2 := h1.count.condition
  have h3 : Keeps s₀ s3 := by
    unfold s3
    split
    · exact h2.addEntry
    · exact h2
  exact .ite h h3.fiberCheck

theorem Keeps.returnPackets {lane} : Keeps s₀ (s.returnPackets lane) := by
  unfold State.returnPackets
  exact .ite h.modLane.same.same h.modLane.same

theorem Keeps.enterService {lane} : Keeps s₀ (s.enterService lane) := by
  unfold State.enterService
  extract_lets st d s1 _
  have h1 : Keeps s₀ s1 := h.modLane
  split
  · exact h
  · exact .ite h1.same h

theorem Keeps.enterAll {dev} : Keeps s₀ (s.enterAll dev) := by unfold State.enterAll; exact .foldl (fun _ _ h => h.enterService) h
theorem Keeps.testDone : Keeps s₀ s.testDone := by unfold State.testDone; exact .ite h.same h

theorem Keeps.lanePass {lane n eyes} : Keeps s₀ (s.lanePass lane n eyes) := by
  unfold State.lanePass
  extract_lets st s1
  have h1 : Keeps s₀ s1 := h.modLane
  split
  · exact h
  · exact .ite h (Keeps.ite h1 h1.modLane.enterAll.testDone)

theorem Keeps.laneError {lane} : Keeps s₀ (s.laneError lane) := by unfold State.laneError; exact h.modLane

theorem Keeps.laneFrame {lane w} : Keeps s₀ (s.laneFrame lane w) := by
  unfold State.laneFrame
  extract_lets sender lvl s1 first s2 s3 _ d n
  have h1 : Keeps s₀ s1 := h.modLane
  have h2 : Keeps s₀ s2 := .ite h1.retireIn (Keeps.ite h1 h1.modLane)
  have h3 : Keeps s₀ s3 := h2.modLane
  split
  · exact h
  · extract_lets s4 s5 off s6
    have h4 : Keeps s₀ s4 := .ite h1.same.condition (Keeps.ite h1.same h1)
    have h5 : Keeps s₀ s5 := .ite h4.modLane h4
    have h6 : Keeps s₀ s6 := .foldl (fun _ _ h => Keeps.ite h (Keeps.ite h.modLane h.modLane.retireOut)) h5
    split
    · exact h
    · exact .ite h.laneError (Keeps.ite (Keeps.ite h3.condition h3) h6.enterAll.testDone)

theorem Keeps.sendWord {lane test} : Keeps s₀ (s.sendWord lane test) := by unfold State.sendWord; exact h.same

theorem Keeps.tune {f slot line visit} : Keeps s₀ (s.tune f slot line visit) := by
  unfold State.tune
  exact .ite h.same h.same.sendWord

theorem Keeps.marginRound : Keeps s₀ s.marginRound := by
  unfold State.marginRound
  extract_lets line on _
  split
  · exact .ite h (Keeps.foldl (fun _ _ h => h.sendWord) h.same)
  · exact h

theorem Keeps.marginExpire : Keeps s₀ s.marginExpire := by
  unfold State.marginExpire
  extract_lets drop _ s1
  have h1 : Keeps s₀ s1 := h.same
  split
  · exact .ite h (Keeps.foldl (fun _ _ h => h.dimCheck) h1)
  · exact h

theorem Keeps.putOn {f slot lane p} : Keeps s₀ (s.putOn f slot lane p) := by unfold State.putOn; exact h.tune.sendWord.same.modLane

theorem Keeps.sendEntries {f slot lane dev} : Keeps s₀ (s.sendEntries f slot lane dev) := by
  unfold State.sendEntries
  exact h.same.putOn

theorem Keeps.sendQueued {f slot lane q} : Keeps s₀ (s.sendQueued f slot lane q) := by
  unfold State.sendQueued
  extract_lets _ s1 s2 s3
  have h1 : Keeps s₀ s1 := h.same
  have h2 : Keeps s₀ s2 := h1.putOn
  have h3 : Keeps s₀ s3 := h2.modLane
  split
  · exact h3
  · exact .ite h3.endFault h3.endFault.endFault

theorem Keeps.visit {f slot} : Keeps s₀ (s.visit f slot) := by
  unfold State.visit
  extract_lets own ls
  split
  · exact h.tune
  · exact h

theorem Keeps.slotSchedule {f slot} : Keeps s₀ (s.slotSchedule f slot) := by
  unfold State.slotSchedule
  extract_lets d _
  split
  · exact h
  · split
    · exact h.same
    · split
      · split
        · exact h.sendEntries
        · exact h
      · split
        · exact .ite h.visit h
        · split
          · exact h.sendQueued
          · exact h

theorem Keeps.keepalive {lane slot} : Keeps s₀ (s.keepalive lane slot) := by unfold State.keepalive; exact .ite h h.tune.modLane

theorem Keeps.replayLane {lane counted} : Keeps s₀ (s.replayLane lane counted) := by
  unfold State.replayLane
  exact .ite h (Keeps.ite h.retireOut h.sendWord.same.modLane.count)

theorem Keeps.takeEntry {src e} : Keeps s₀ (s.takeEntry src e) := by
  unfold State.takeEntry
  extract_lets lane lseq l left s1
  have h1 : Keeps s₀ s1 := h.modLane
  split
  · exact h
  · split
    · exact .ite h (Keeps.ite h.retireIn h.addEntry)
    · exact .ite h (Keeps.ite h1.retireOut.returnPackets (Keeps.ite h1.replayLane h1))

theorem Keeps.replayTimeout {lane} : Keeps s₀ (s.replayTimeout lane) := by
  unfold State.replayTimeout
  extract_lets l
  split
  · exact .ite h h.replayLane
  · exact .ite h h.replayLane

theorem Keeps.laneSilence {lane} : Keeps s₀ (s.laneSilence lane) := by unfold State.laneSilence; exact .ite h.retireIn h

theorem Keeps.laneRetire {lane inbound} : Keeps s₀ (s.laneRetire lane inbound) := by
  unfold State.laneRetire
  exact .ite (Keeps.ite h.retireIn h) (Keeps.ite h.retireOut h)

theorem Keeps.packetAged : Keeps s₀ s.packetAged := by unfold State.packetAged; exact .ite h h.same.count
theorem Keeps.notAwaited {t} : Keeps s₀ (s.notAwaited t) := by unfold State.notAwaited; exact h.same

theorem Keeps.endStreamUse {t data failed} : Keeps s₀ (s.endStreamUse t data failed) := by
  unfold State.endStreamUse
  extract_lets s1
  have h1 : Keeps s₀ s1 := h.releaseTag.landEnd
  split
  · exact h1.settle
  · exact .ite h1.same.settle h1.arrive

theorem Keeps.failUse {t c sub got} : Keeps s₀ (s.failUse t c sub got) := by
  unfold State.failUse
  extract_lets u s1 s2 s3 s4 _ s5 m
  have h1 : Keeps s₀ s1 := h.modTag
  have h2 : Keeps s₀ s2 := h1.modOp
  have h3 : Keeps s₀ s3 := by
    unfold s3
    split
    · exact .ite h2.xfrFailed (Keeps.ite h2.releaseTag h2)
    · exact .ite h2.releaseTag h2
  have h4 : Keeps s₀ s4 := h.releaseTag
  have h5 : Keeps s₀ s5 := h.releaseTag.notAwaited
  split
  · exact h3.settle
  · exact h.endStreamUse
  · exact h4.same
  · exact .ite h.releaseTag h5.same.pump
  · exact h.releaseTag
  · exact h

theorem Keeps.tagTimeout {t} : Keeps s₀ (s.tagTimeout t) := by unfold State.tagTimeout; exact .ite h.failUse h

theorem Keeps.epochTimeout {i} : Keeps s₀ (s.epochTimeout i) := by
  unfold State.epochTimeout
  extract_lets e late s1 s2
  have h1 : Keeps s₀ s1 := h.same
  have h2 : Keeps s₀ s2 := .foldl (fun _ _ h => h.releaseTag.notAwaited) h1
  split
  · exact h
  · split
    · exact h2.finish.modEpoch.settle
    · exact h2.finish.modEpoch.settle
    · exact h2.settle

theorem Keeps.formDoorbell {v} : Keeps s₀ (s.formDoorbell v) := by
  unfold State.formDoorbell
  extract_lets dev _
  split
  · exact h.same
  · extract_lets s1 _ p _ s2
    have h1 : Keeps s₀ s1 := h.takeTag
    have h2 : Keeps s₀ s2 := h1.same
    split
    next e => exact h2.queuePacket e
    · exact h2.failUse

theorem Keeps.fabricDown {st} : Keeps s₀ (s.fabricDown st) := by
  unfold State.fabricDown
  exact .foldl (fun _ _ h => h.failUse) h.same

theorem Keeps.startFabric : Keeps s₀ s.startFabric := by unfold State.startFabric; exact .ite h.same h.same
theorem Keeps.fabricReturn : Keeps s₀ s.fabricReturn := by unfold State.fabricReturn; exact .ite h.same h

theorem Keeps.startCascade : Keeps s₀ s.startCascade := by
  unfold State.startCascade
  exact (Keeps.foldl (fun _ _ h => h.setToken) h).same

theorem Keeps.stopCascade : Keeps s₀ s.stopCascade := by unfold State.stopCascade; exact h.same

theorem Keeps.breakCascade {lost} : Keeps s₀ (s.breakCascade lost) := by
  unfold State.breakCascade
  exact .ite h ((Keeps.foldl (fun _ _ h => h.startWtk) h.same.condition.count).settle)

theorem Keeps.probe {word i} : Keeps s₀ (s.probe word i) := by
  unfold State.probe
  split
  · exact h
  · extract_lets dev at_ s1
    have h1 : Keeps s₀ s1 := h.takeTag
    split
    next e => exact h1.queuePacket e
    · exact h1.failUse

theorem Keeps.probeSend : Keeps s₀ s.probeSend := by
  unfold State.probeSend
  exact .ite h (Keeps.ite (Keeps.foldl (fun _ _ h => h.probe) h.same) h.same.probe)

theorem Keeps.acceptWord {w} : Keeps s₀ (s.acceptWord w) := by
  unfold State.acceptWord
  extract_lets i _ s1 joined all _4
  have h1 : Keeps s₀ s1 := h.same
  exact .ite (Keeps.ite h1.same h1) (Keeps.ite h1.breakCascade (Keeps.ite h1.same h1))

theorem Keeps.landWord {src a data} : Keeps s₀ (s.landWord src a data) := by
  unfold State.landWord
  exact .ite h (Keeps.ite h (Keeps.ite h.acceptWord h.count))

theorem Keeps.memberLost {i} : Keeps s₀ (s.memberLost i) := by unfold State.memberLost; exact .ite h.breakCascade h

theorem Keeps.reportLane {lane flags} : Keeps s₀ (s.reportLane lane flags) := by
  unfold State.reportLane
  split
  · exact h.addEntry
  · exact h

theorem Keeps.takePacket {w} : Keeps s₀ (s.takePacket w).1 := by
  unfold State.takePacket
  extract_lets lane p lseq s1 s2
  have h1 : Keeps s₀ s1 := h.modLane
  have h2 : Keeps s₀ s2 := h1.modLane.reportLane
  split
  · exact h
  · split
    · exact h1.laneError.reportLane
    · split
      · split
        · exact h1.laneError
        · split
          · exact h1.count
          · exact h1
      · split
        · exact h1.reportLane
        · split
          · exact h1.laneError.reportLane
          · split
            · exact h1.reportLane
            · split
              · exact h2.count
              · split
                · exact h2.count
                · exact h2

theorem Keeps.respond {p r} : Keeps s₀ (s.respond p r) := by
  unfold State.respond
  split
  next e => exact h.queuePacket e
  · exact h

theorem Keeps.refuseRequest {p c sub} : Keeps s₀ (s.refuseRequest p c sub) := by unfold State.refuseRequest; exact h.count.respond

theorem Keeps.onWR {p} : Keeps s₀ (s.onWR p) := by
  unfold State.onWR
  extract_lets key
  split
  · exact (Keeps.ite h.meetAt h).refuseRequest
  next e =>
    extract_lets s1 s2
    have hr := h.applyWR e
    have h1 : Keeps s₀ s1 := .ite hr.applyToken hr
    have h2 : Keeps s₀ s2 := h1.respond
    split
    · exact h2.landWord
    · exact h2

theorem Keeps.onRDQ {p} : Keeps s₀ (s.onRDQ p) := by
  unfold State.onRDQ
  extract_lets s1
  have h1 : Keeps s₀ s1 := h.cacheLeaf
  split
  · exact h.refuseRequest
  · split
    · exact h.meetAt.refuseRequest
    · exact h.refuseRequest
    · exact h.refuseRequest
    · exact .ite h1.meetBad.refuseRequest h1.respond

theorem Keeps.onDBL {p} : Keeps s₀ (s.onDBL p) := by unfold State.onDBL; exact .ite h.refuseRequest h.resume.settle.respond
theorem Keeps.onEPC {p} : Keeps s₀ (s.onEPC p) := by unfold State.onEPC; exact h.commitKeys.settle.respond
theorem Keeps.onEPQ {p} : Keeps s₀ (s.onEPQ p) := by unfold State.onEPQ; exact (Keeps.ite h.dropPeer h).respond

theorem Keeps.notePeer {o dev} : Keeps s₀ (s.notePeer o dev) := by
  unfold State.notePeer
  split
  · exact h.modEpoch
  · exact h

theorem Keeps.ackXfr {t n} : Keeps s₀ (s.ackXfr t n) := by
  unfold State.ackXfr
  extract_lets u s1
  have h1 : Keeps s₀ s1 := h.modTag
  split
  · exact .ite h1.releaseTag h1
  · extract_lets s2
    have h2 : Keeps s₀ s2 := h1.notePeer
    split
    · exact .ite h1.releaseTag h1
    · exact .ite h2.xfrFailed (Keeps.ite h2.releaseTag.complete h2.xfrStep)

theorem Keeps.onACK {p} : Keeps s₀ (s.onACK p) := by
  unfold State.onACK
  extract_lets s1 _
  have h1 : Keeps s₀ s1 := h.releaseTag
  split
  · exact h.count
  · split
    · exact h.ackXfr.settle
    · exact .ite h.endStreamUse h.count
    · exact h1.same
    · exact h.releaseTag
    · exact h.count

theorem Keeps.onRDR {p} : Keeps s₀ (s.onRDR p) := by
  unfold State.onRDR
  split
  · exact h.count
  · split
    · exact .ite h.count h.endStreamUse
    · exact h.count

theorem Keeps.onNAK {p} : Keeps s₀ (s.onNAK p) := by
  unfold State.onNAK
  exact .ite h.count (Keeps.ite h.failUse.breakCascade h.failUse)

theorem Keeps.onEPA {p} : Keeps s₀ (s.onEPA p) := by
  unfold State.onEPA
  split
  · exact h.count
  · split
    · exact h.releaseTag.notAwaited.settle
    · exact h.count

theorem Keeps.onLCTL {p} : Keeps s₀ (s.onLCTL p) := by unfold State.onLCTL; exact .foldl (fun _ _ h => h.takeEntry) h

theorem Keeps.onPacket {p} : Keeps s₀ (s.onPacket p) := by
  unfold State.onPacket
  split
  · exact h.onWR
  · split
    · exact h.onRDQ
    · split
      · exact h.onRDR
      · split
        · exact h.onACK
        · split
          · exact h.onNAK
          · exact .ite h.onDBL (Keeps.ite h.onEPC (Keeps.ite h.onEPQ (Keeps.ite h.onEPA h)))

theorem Keeps.packetRow {w n} {handle : State → Packet → State} (hh : ∀ {u p}, Keeps s₀ u → Keeps s₀ (handle u p)) :
    Keeps s₀ (s.packetRow w n handle) := by
  unfold State.packetRow
  extract_lets p
  split
  · exact h
  · split
    next e => exact hh (h.takePacket.of_fst e)
    next e => exact h.takePacket.of_fst e

theorem Keeps.passOn {p} : Keeps s₀ (s.passOn p) := by
  unfold State.passOn
  split
  · exact h.count
  · split
    next e => exact h.queuePacket e
    · exact .ite h.respond h

theorem Keeps.forward {w cut} : Keeps s₀ (s.forward w cut) := by
  unfold State.forward
  extract_lets p inOrder failing
  split
  · exact h
  · split
    next e => exact (h.takePacket.of_fst e).passOn
    next e =>
      have ht := h.takePacket.of_fst e
      split
      · split
        next e => exact ht.queuePacket e
        · exact ht
      · exact ht

theorem Keeps.deliverOwn : Keeps s₀ s.deliverOwn := by
  unfold State.deliverOwn
  extract_lets _
  split
  · exact h.same.onPacket
  · exact h

/-! ### Kept by the light (07) -/

theorem Keeps.allLoops {st} : Keeps s₀ (s.allLoops st) := by
  unfold State.allLoops
  exact (Keeps.foldl (fun _ _ h => h.modCluster) h).same

theorem Keeps.basinFault {code} : Keeps s₀ (s.basinFault code) := by
  unfold State.basinFault
  exact ((Keeps.foldl (fun _ _ h => h.failRun) h).tellPause).same

theorem Keeps.computeGone : Keeps s₀ s.computeGone := by unfold State.computeGone; exact h.allLoops.same.basinFault

theorem Keeps.combLost {link dead} : Keeps s₀ (s.combLost link dead) := by
  unfold State.combLost
  extract_lets _ s1 s2
  have h1 : Keeps s₀ s1 := .ite h.same h.same
  have h2 : Keeps s₀ s2 := h1.condition
  exact .ite h2.fabricDown h2.computeGone

theorem Keeps.setPumps {link v} : Keeps s₀ (s.setPumps link v) := by unfold State.setPumps; exact .ite h.same h.same

theorem Keeps.pumpFail {link} : Keeps s₀ (s.pumpFail link) := by
  unfold State.pumpFail
  extract_lets v cur lost s1 _ s2 s3
  have h1 : Keeps s₀ s1 := h.setPumps
  have h2 : Keeps s₀ s2 := h.setPumps
  have h3 : Keeps s₀ s3 := h2.condition
  split
  · exact h
  · exact .ite (Keeps.ite (Keeps.ite h1.same h1.same) h1.combLost) (Keeps.ite h3 h3.combLost)

theorem Keeps.combReturn {link} : Keeps s₀ (s.combReturn link) := by
  unfold State.combReturn
  extract_lets _ s1 s2
  have h1 : Keeps s₀ s1 := .ite h.same h.same
  have h2 : Keeps s₀ s2 := h1.condition
  split
  · exact h
  · exact .ite h (Keeps.ite h2.fabricReturn h2.allLoops)

theorem Keeps.combTimeout {link} : Keeps s₀ (s.combTimeout link) := by
  unfold State.combTimeout
  extract_lets _
  split
  · exact h
  · exact .ite h (Keeps.ite h.same h.same)

theorem Keeps.combHot {link} : Keeps s₀ (s.combHot link) := by
  unfold State.combHot
  exact .ite h (Keeps.ite (Keeps.ite h.same h.same) h.combLost)

/-! ### Kept by answers, restarts, resets, firmware, bring-up and the host link (11, 13, 14) -/

theorem Keeps.fpRespond {f} : Keeps s₀ (s.fpRespond f) := by unfold State.fpRespond; exact .ite h.same h.count

theorem Keeps.answerField {node tid service index sub a} : Keeps s₀ (s.answerField node tid service index sub a) := by
  unfold State.answerField
  extract_lets _
  exact .ite h.same.fpRespond (Keeps.ite (Keeps.ite h.fpRespond.same.fpRespond h.fpRespond) (Keeps.ite h.fpRespond h.fpRespond))

theorem Keeps.answer {p index sub a} : Keeps s₀ (s.answer p index sub a) := by
  unfold State.answer
  extract_lets _ s1
  have h1 : Keeps s₀ s1 := by
    unfold s1
    split
    · exact h.same
    · exact h
  split
  · exact h1.answerField
  · split
    · exact h1
    · split
      · exact h1.cpl
      · exact h1.cpl
      · exact h1.cpl
      · exact h1.cpl
      · exact h1.cpl
      · exact h1.cpl

theorem Keeps.holdFrame {f} : Keeps s₀ (s.holdFrame f) := by unfold State.holdFrame; exact .ite h.same h.count

theorem Keeps.holdWrite {p index sub data} : Keeps s₀ (s.holdWrite p index sub data) := by
  unfold State.holdWrite
  split
  · exact h.holdFrame
  · exact h

theorem Keeps.enterFails {fn c l} : Keeps s₀ (s.enterFails fn c l) := by unfold State.enterFails; exact h.same
theorem Keeps.enterUnreadable {fn c} : Keeps s₀ (s.enterUnreadable fn c) := by unfold State.enterUnreadable; exact h.enterFails.same

theorem Keeps.checked {fn c faults} : Keeps s₀ (s.checked fn c faults) := by
  unfold State.checked
  exact .ite h.same.enterUnreadable h.enterFails.enterUnreadable.event

theorem Keeps.takeOffsets : Keeps s₀ s.takeOffsets := by unfold State.takeOffsets; exact .foldl (fun _ _ h => h.modQueue) h

theorem Keeps.restartBasin : Keeps s₀ s.restartBasin.1 := by
  unfold State.restartBasin
  extract_lets fs s1 _ s2 _2
  have h1 : Keeps s₀ s1 := h.checked
  have h2 : Keeps s₀ s2 := h1.takeOffsets
  split
  · exact h1.same
  · split
    · exact h2.same
    · exact h2.same

theorem Keeps.basinStart {p} : Keeps s₀ (s.basinStart p).1 := by
  unfold State.basinStart
  extract_lets _
  split
  · exact h
  · split
    · exact h.same
    · exact h.restartBasin

theorem Keeps.basinStop : Keeps s₀ s.basinStop := by unfold State.basinStop; exact h.same.settle

theorem Keeps.dueRestart : Keeps s₀ s.dueRestart := by
  unfold State.dueRestart
  exact .ite h (Keeps.foldl (fun _ _ h => h.answer) h.same.restartBasin)

theorem Keeps.restartFabric : Keeps s₀ s.restartFabric.1 := by
  unfold State.restartFabric
  extract_lets fs s1
  have h1 : Keeps s₀ s1 := h.checked
  split
  · exact h1.setObj.startFabric
  · exact h1.setObj

theorem Keeps.fabricStart : Keeps s₀ s.fabricStart.1 := by
  unfold State.fabricStart
  split
  · exact h
  · exact h.restartFabric

theorem Keeps.fabricStop : Keeps s₀ s.fabricStop := by unfold State.fabricStop; exact .ite h.setObj h.setObj.fabricDown.settle
theorem Keeps.setLoopsRun {c on} : Keeps s₀ (s.setLoopsRun c on) := by unfold State.setLoopsRun; exact h.same

theorem Keeps.loopsStart {c} : Keeps s₀ (s.loopsStart c).1 := by
  unfold State.loopsStart
  extract_lets fs s1 s2
  have h1 : Keeps s₀ s1 := h.checked
  have h2 : Keeps s₀ s2 := h1.setLoopsRun
  split
  · exact h
  · split
    · exact h1
    · exact .ite h2.startLoops h2

theorem Keeps.loopsStop {c} : Keeps s₀ (s.loopsStop c) := by unfold State.loopsStop; exact h.setLoopsRun.stopLoops
theorem Keeps.fpEnter {st} : Keeps s₀ (s.fpEnter st) := by unfold State.fpEnter; exact .ite h h.same.event

theorem Keeps.fpStart : Keeps s₀ s.fpStart.1 := by
  unfold State.fpStart
  extract_lets fs s1 s2 _ s3 _2
  have h1 : Keeps s₀ s1 := h.checked
  have h2 : Keeps s₀ s2 := h1.setObj
  have h3 : Keeps s₀ s3 := h2.same
  split
  · exact h
  · split
    · exact h1.fpEnter
    · split
      · exact h3.same
      · exact h3.fpEnter

theorem Keeps.fpStop : Keeps s₀ s.fpStop := by unfold State.fpStop; exact h.same.setObj.fpEnter

theorem Keeps.cascadeStart : Keeps s₀ s.cascadeStart.1 := by
  unfold State.cascadeStart
  extract_lets fs s1
  have h1 : Keeps s₀ s1 := h.checked
  split
  · exact h
  · split
    · exact h1.setObj.startCascade
    · exact h1

theorem Keeps.cascadeStop : Keeps s₀ s.cascadeStop := by unfold State.cascadeStop; exact h.setObj.stopCascade
theorem Keeps.pushCause {level cause} : Keeps s₀ (s.pushCause level cause) := by unfold State.pushCause; exact h.same
theorem Keeps.raiseBackup {n lo w} : Keeps s₀ (s.raiseBackup n lo w) := by unfold State.raiseBackup; exact h.same
theorem Keeps.setBackup {n lo w v} : Keeps s₀ (s.setBackup n lo w v) := by unfold State.setBackup; exact h.same

theorem Keeps.settleNv : Keeps s₀ s.settleNv := by
  unfold State.settleNv
  refine .foldl (fun s e h => ?_) h
  have hd := h.draw
  generalize s.draw = x at hd
  exact .ite hd.same hd

theorem Keeps.cleared {cold} : Keeps s₀ (s.cleared cold) := by
  unfold State.cleared
  extract_lets s1
  have h1 : Keeps s₀ s1 := h.settleNv
  exact ⟨h1.1, fun _ => mwf_scrambleBytes _ _⟩

theorem Keeps.assertReset {level cause} : Keeps s₀ (s.assertReset level cause) := by
  unfold State.assertReset
  extract_lets s1 _ s2 step _2
  have h1 : Keeps s₀ s1 := h.cleared
  have h2 : Keeps s₀ s2 := h1.same
  split
  · exact .ite h1.same h
  · exact .ite h2 h2.same

theorem Keeps.holdEnds : Keeps s₀ s.holdEnds := by unfold State.holdEnds; exact h.same
theorem Keeps.resetRelease : Keeps s₀ s.resetRelease := by unfold State.resetRelease; exact .ite h.same h

theorem Keeps.supplyMonitor {rail below} : Keeps s₀ (s.supplyMonitor rail below) := by
  unfold State.supplyMonitor
  extract_lets _ s1 s2
  have h1 : Keeps s₀ s1 := h.same
  have h2 : Keeps s₀ s2 := h.same
  split
  · exact .ite h1.assertReset (Keeps.ite h1 h1.assertReset)
  · exact .ite h2.holdEnds h2

theorem Keeps.pwrGoodLow {low} : Keeps s₀ (s.pwrGoodLow low) := by
  unfold State.pwrGoodLow
  exact .ite (Keeps.ite h.same h.same.assertReset) (Keeps.ite h.same.holdEnds h.same)

theorem Keeps.operation {n data} : Keeps s₀ (s.operation n data) := h.calm (Calm.refl s).operation

theorem Keeps.leaveDeep {wake cause} : Keeps s₀ (s.leaveDeep wake cause) := by
  unfold State.leaveDeep
  exact ((Keeps.foldl (fun _ _ h => h.operation) h).same).holdEnds

theorem Keeps.rstNPulse {cycles honoured} : Keeps s₀ (s.rstNPulse cycles honoured) := by
  unfold State.rstNPulse
  extract_lets _ woke s1 _2 s2
  have h1 : Keeps s₀ s1 := h.assertReset
  have h2 : Keeps s₀ s2 := .ite h1.same h1
  exact .ite h (Keeps.ite h.same (Keeps.ite h.leaveDeep h2.holdEnds))

theorem Keeps.rewriteRecord : Keeps s₀ s.rewriteRecord := by unfold State.rewriteRecord; exact h.same
theorem Keeps.mapTo {p b} : Keeps s₀ (s.mapTo p b) := by unfold State.mapTo; exact h.same

theorem Keeps.restartProc {p cause pc} : Keeps s₀ (s.restartProc p cause pc) := by
  unfold State.restartProc
  extract_lets x recent fourth back cause' n rec_ _ s1 s2 _8 s3 s4 s5 s6 b
  have h1 : Keeps s₀ s1 := .ite h.same h
  have h2 : Keeps s₀ s2 := h1.modProc
  have h3 : Keeps s₀ s3 := h2.same
  have h4 : Keeps s₀ s4 := h3.count.pushCause
  have h5 : Keeps s₀ s5 := .ite h4.count h4
  have h6 : Keeps s₀ s6 := h5.condition
  exact .ite h6.mapTo.rewriteRecord.condition (Keeps.ite h6.condition h6)

theorem Keeps.requestProc {p cause pc} : Keeps s₀ (s.requestProc p cause pc) := by
  unfold State.requestProc
  exact .ite h (Keeps.ite h.assertReset h.restartProc)

theorem Keeps.clusterCleared {c} : Keeps s₀ (s.clusterCleared c) := by
  unfold State.clusterCleared
  exact (((Keeps.foldl (fun _ _ h => h.carouselBack) h).dropWrites).modCluster).same

theorem Keeps.streamsCleared : Keeps s₀ s.streamsCleared := by
  unfold State.streamsCleared
  extract_lets users s1 serials s2 s3 landed s4 s5
  have h1 : Keeps s₀ s1 := by
    refine .foldl (fun s u h => ?_) h
    split
    · refine .ite h (.ite h.unwind.endAs ?_)
      extract_lets s'
      have h' : Keeps s₀ s' := h.unwind.finish
      split
      · exact h'.modEpoch
      · exact h'
    · exact h
  have h2 : Keeps s₀ s2 := by
    unfold s2
    split
    · exact h1.squashFrom
    · exact h1
  have h3 : Keeps s₀ s3 := .foldl (fun _ _ h => .ite h.squashFrom h) h2
  have h4 : Keeps s₀ s4 := (Keeps.foldl (fun _ _ h => h.failSpc) h3.same).settle
  have h5 : Keeps s₀ s5 := .foldl (fun _ _ h => .ite h.endRun h) h4
  exact h5.same

theorem Keeps.planeCleared {f} : Keeps s₀ (s.planeCleared f) := by
  unfold State.planeCleared
  extract_lets s1 s2 _
  have h1 : Keeps s₀ s1 := .foldl (fun _ _ h => h.retireOut.retireIn) h
  have h2 : Keeps s₀ s2 := .foldl (fun _ _ h => h.returnPackets) h1
  exact h2.same

theorem Keeps.planeBack {f} : Keeps s₀ (s.planeBack f) := by unfold State.planeBack; exact h.same

theorem Keeps.stackCleared {k} : Keeps s₀ (s.stackCleared k) := by
  unfold State.stackCleared
  exact .foldl (fun _ _ h => .ite h.arrive h) h.same

theorem Keeps.blockAssert {kind num} : Keeps s₀ (s.blockAssert kind num) := by
  unfold State.blockAssert
  extract_lets asked _ s1 s2
  have h1 : Keeps s₀ s1 := h.same
  have h2 : Keeps s₀ s2 := h1.pushCause
  split
  · exact h
  · split
    · exact h.assertReset
    · split
      · exact h2.clusterCleared
      · exact h2.streamsCleared
      · exact h2.planeCleared
      · exact h2.stackCleared

theorem Keeps.blockRelease {kind num} : Keeps s₀ (s.blockRelease kind num) := by
  unfold State.blockRelease
  refine .ite ?_ h
  extract_lets _ s1 s2
  have h1 : Keeps s₀ s1 := h.same
  have h2 : Keeps s₀ s2 := h1.modCluster
  split
  · exact .ite h2.startLoops h2
  · exact h1.planeBack
  · exact h1.same
  · exact h1

theorem Keeps.resetRequest {p v} : Keeps s₀ (s.resetRequest p v).1 := by
  unfold State.resetRequest
  extract_lets _ b kind num
  split
  · exact h
  · split
    · exact h.same
    · split
      · split
        · exact h
        · split
          · exact h
          · exact h.same
      · exact h

theorem Keeps.dueWarm : Keeps s₀ s.dueWarm := by
  unfold State.dueWarm
  split
  · exact .ite h.assertReset h
  · exact h

theorem Keeps.setBank {b st} : Keeps s₀ (s.setBank b st) := by unfold State.setBank; exact (Keeps.ite h.same h.same).rewriteRecord

theorem Keeps.commitWrite {v} : Keeps s₀ (s.commitWrite v).1 := by
  unfold State.commitWrite
  extract_lets off len _
  split
  · exact h
  · split
    · exact h.same
    · split
      · exact h.same
      · exact h.same

theorem Keeps.commitVerified : Keeps s₀ s.commitVerified := by
  unfold State.commitVerified
  extract_lets _
  split
  · exact h
  · split
    · exact h.setBank.same
    · exact h.same
    · exact h.same

theorem Keeps.commitWritten : Keeps s₀ s.commitWritten := by
  unfold State.commitWritten
  extract_lets bs hd _
  split
  · exact h
  · split
    · exact h
    · exact .ite h.setBank.same ((Keeps.ite h.same.same h.same.same).setBank)

theorem Keeps.nextActivation : Keeps s₀ s.nextActivation := by
  unfold State.nextActivation
  extract_lets _
  split
  · exact h.same
  · exact h.same.condition

theorem Keeps.activateWrite {v} : Keeps s₀ (s.activateWrite v).1 := by
  unfold State.activateWrite
  extract_lets p b _ l s1 _4
  have h1 : Keeps s₀ s1 := h.same
  split
  · exact h
  · split
    · exact h.same
    · split
      · exact h1.same
      · exact h1.nextActivation

theorem Keeps.dropUnreadable {l} : Keeps s₀ (s.dropUnreadable l) := by unfold State.dropUnreadable; exact h.same

theorem Keeps.activationSwitch {good unreadable} : Keeps s₀ (s.activationSwitch good unreadable) := by
  unfold State.activationSwitch
  extract_lets _ s1
  have h1 : Keeps s₀ s1 := h.same
  split
  · exact h
  · extract_lets s2
    have h2 : Keeps s₀ s2 := .ite h1.dropUnreadable h1
    exact .ite h (Keeps.ite h.same (Keeps.ite h.same h2.requestProc))

theorem Keeps.abortSeg : Keeps s₀ s.abortSeg := by
  unfold State.abortSeg
  extract_lets _
  split
  · exact h
  · exact .ite h.same h.same.fpRespond

theorem Keeps.fpLate : Keeps s₀ s.fpLate := by unfold State.fpLate; exact .foldl (fun _ _ h => h.fpEvent) h.same

theorem Keeps.coldScheduler : Keeps s₀ s.coldScheduler := by
  unfold State.coldScheduler
  extract_lets s1 s2
  have h1 : Keeps s₀ s1 := .foldl (fun _ _ h => h.complete) h
  have h2 : Keeps s₀ s2 := by
    unfold s2
    split
    · exact h1.squashFrom
    · exact h1
  exact h2.condition.settle

theorem Keeps.procReturn {p warm} : Keeps s₀ (s.procReturn p warm) := by
  unfold State.procReturn
  extract_lets x crash gap s1 _ s2 s3 s4 s5 s6 _4 s7
  have h1 : Keeps s₀ s1 := h.modProc
  have h2 : Keeps s₀ s2 := h1.same
  have h3 : Keeps s₀ s3 := h2.interruption
  have h4 : Keeps s₀ s4 := .ite h3.coldScheduler h3
  have h5 : Keeps s₀ s5 := .ite h4.abortSeg.fpLate (Keeps.ite h4.restartWindows h4)
  have h6 : Keeps s₀ s6 := h5.mapTo.rewriteRecord
  have h7 : Keeps s₀ s7 := h6.same
  exact .ite h (Keeps.ite h7.nextActivation h5)

theorem Keeps.newChallenge : Keeps s₀ s.newChallenge := by unfold State.newChallenge; exact h.draw.same

theorem Keeps.enterStep {n} : Keeps s₀ (s.enterStep n) := by
  unfold State.enterStep
  exact .ite h.same.same (Keeps.ite h.same.restartFabric h.same)

theorem Keeps.endBringup : Keeps s₀ s.endBringup := by
  unfold State.endBringup
  exact .ite h.same.restartBasin.fpStart h.same.restartBasin

theorem Keeps.step1 {crystal} : Keeps s₀ (s.step1 crystal) := by
  unfold State.step1
  extract_lets cold s1 s2 _
  have h1 : Keeps s₀ s1 := by
    unfold s1
    split
    · exact h.pushCause
    · exact h
  have h2 : Keeps s₀ s2 := h1.raiseBackup
  exact h2.same.enterStep

theorem Keeps.step2 {straps readable} : Keeps s₀ (s.step2 straps readable) := by
  unfold State.step2
  extract_lets _ s1 halt _2 s2 s3
  have h1 : Keeps s₀ s1 := h.same
  have h2 : Keeps s₀ s2 := h1.same
  have h3 : Keeps s₀ s3 := .ite (Keeps.foldl (fun _ _ h => h.modProc) h2) h2
  exact h3.newChallenge.enterStep

theorem Keeps.bootBanks : Keeps s₀ s.bootBanks := by
  unfold State.bootBanks
  extract_lets s1 s2 b
  have h1 : Keeps s₀ s1 := .ite h.setBank h
  have h2 : Keeps s₀ s2 := .ite h1.setBank h1
  exact .ite ((Keeps.foldl (fun _ _ h => h.mapTo) h2).rewriteRecord) h2

theorem Keeps.bootProc {bad p} (e : s.bootProc bad p = some t) : Keeps s₀ t := by
  unfold State.bootProc at e
  extract_lets b at e
  split at e
  · cases e; exact h.modProc
  · split at e
    · cases e; exact h.mapTo.rewriteRecord.same.modProc
    · cases e

theorem Keeps.bootProcs {bad} {ps : List Nat} (e : ps.foldlM (fun s p => s.bootProc bad p) s = some t) : Keeps s₀ t := by
  induction ps generalizing s with
  | nil => cases e; exact h
  | cons p ps ih =>
    rw [List.foldlM_cons, Option.bind_eq_bind, Option.bind_eq_some_iff] at e
    obtain ⟨u, hu, e⟩ := e
    exact ih (h.bootProc hu) e

theorem Keeps.step3 {bad} : Keeps s₀ (s.step3 bad) := by
  unfold State.step3
  extract_lets s1 _
  have h1 : Keeps s₀ s1 := h.bootBanks
  split
  · exact h
  · split
    · exact h.enterStep
    · split
      · exact h1.same.raiseBackup
      next e => exact (h1.bootProcs e).setBackup.setBackup.enterStep

theorem Keeps.step4 : Keeps s₀ s.step4 := by
  unfold State.step4
  extract_lets s1 _ s2 s3 s4 _1
  have h1 : Keeps s₀ s1 := .foldl (fun _ _ h => h.condition) h
  have h2 : Keeps s₀ s2 := h1.same
  have h3 : Keeps s₀ s3 := .ite h2.condition h2
  have h4 : Keeps s₀ s4 := .ite h3.condition h3
  exact .ite h (Keeps.ite h4.same.fpStart h4.enterStep)

theorem Keeps.step5 {failed} : Keeps s₀ (s.step5 failed) := by
  unfold State.step5
  exact (Keeps.foldl (fun _ _ h => h.stackFail) h.filterBytes).enterStep

theorem Keeps.step6 {compute link} : Keeps s₀ (s.step6 compute link) := by
  unfold State.step6
  extract_lets c l _ s1 _3 s2
  have h1 : Keeps s₀ s1 := .ite h.same h.combLost
  have h2 : Keeps s₀ s2 := .ite h1.same h1.combLost
  exact .ite h2.enterStep (Keeps.ite h2.enterStep h2.endBringup)

theorem Keeps.step7 {unlocked} : Keeps s₀ (s.step7 unlocked) := by
  unfold State.step7
  extract_lets s1 s2 s3 _
  have h1 : Keeps s₀ s1 := h.same
  have h2 : Keeps s₀ s2 := .foldl (fun _ _ h => h.modCluster) h1
  have h3 : Keeps s₀ s3 := .foldl (fun _ _ h => h.modCol) h2
  exact h3.same.enterStep

theorem Keeps.baselineTile {tile bad} : Keeps s₀ (s.baselineTile tile bad) := by
  unfold State.baselineTile
  extract_lets faulted out s1 s2 _ s3 s4
  have h1 : Keeps s₀ s1 := .foldl (fun _ _ h => h.modCol) h
  have h2 : Keeps s₀ s2 := by
    unfold s2
    split
    · exact h1
    · exact h1.modTile.condition
  have h3 : Keeps s₀ s3 := .ite h2.same h2
  have h4 : Keeps s₀ s4 := by
    unfold s4
    split
    · exact .ite h3 h3.modTile.countRetired
    · exact h3
  exact .ite h4.makeUnusable h4

theorem Keeps.fitTile {tile} : Keeps s₀ (s.fitTile tile) := by
  unfold State.fitTile
  exact .foldl (fun _ _ h => h.modCol) h.modTileLoop

theorem Keeps.storeTile {tile} : Keeps s₀ (s.storeTile tile) := by unfold State.storeTile; exact .foldl (fun _ _ h => h.same) h.same

theorem Keeps.fitBanks {o} : Keeps s₀ (s.fitBanks o) := by
  unfold State.fitBanks
  extract_lets s1 s2
  have h1 : Keeps s₀ s1 := .foldl (fun _ _ h => h.modCluster) h
  have h2 : Keeps s₀ s2 := .foldl (fun _ _ h => h.modCluster) h1
  exact .foldl (fun _ _ h => h.modTileLoop) h2

theorem Keeps.step8 {o} : Keeps s₀ (s.step8 o) := by
  unfold State.step8
  extract_lets s1 keys tries failed faulted lost s2 fitted s3 _ s4 tiles s5 _8 _9 s6
  have h1 : Keeps s₀ s1 := h.fitBanks
  have h2 : Keeps s₀ s2 := by
    unfold s2
    exact .foldl (fun _ _ h => by split; exacts [h.modCol, h]) h1
  have h3 : Keeps s₀ s3 := .foldl (fun _ _ h => h.fitTile.storeTile) h2
  have h4 : Keeps s₀ s4 := h3.same
  have h5 : Keeps s₀ s5 := .foldl (fun _ _ h => h.baselineTile) h4
  have h6 : Keeps s₀ s6 := h5.same
  exact .ite h6.enterStep h6.endBringup

theorem Keeps.bringupStep {o} : Keeps s₀ (s.bringupStep o) := by
  unfold State.bringupStep
  split
  · exact h
  · split
    · exact h.step1
    · exact h.step2
    · exact h.step3
    · exact h.step4
    · exact h.step5
    · exact h.step6
    · exact h.step7
    · exact h.step8
    · exact .ite h h.endBringup
    · exact h

theorem Keeps.debugRelease : Keeps s₀ s.debugRelease := by
  unfold State.debugRelease
  exact .ite h (Keeps.foldl (fun _ _ h => h.modProc) h.same)

theorem Keeps.bootLoad {v} : Keeps s₀ (s.bootLoad v).1 := by
  unfold State.bootLoad
  extract_lets off len
  split
  · exact h
  · split
    · exact h
    · split
      · exact h.same
      · show Keeps s₀ (State.enterStep _ 4)
        exact (Keeps.foldl (fun _ _ h => h.modProc) (Keeps.same h)).enterStep

theorem Keeps.epochHostWrite {t failed} : Keeps s₀ (s.epochHostWrite t failed) := h.calm (Calm.refl s).epochHostWrite

theorem Keeps.endHostReq {r data failed} : Keeps s₀ (s.endHostReq r data failed) := h.calm (Calm.refl s).endHostReq

theorem Keeps.onCpl {tag status data} : Keeps s₀ (s.onCpl tag status data) := by
  unfold State.onCpl
  extract_lets _
  split
  · exact h.same.count
  · exact .ite h.endHostReq h.endHostReq

theorem Keeps.cplTimeout {tag} : Keeps s₀ (s.cplTimeout tag) := by
  unfold State.cplTimeout
  extract_lets _
  split
  · exact h
  · exact .ite h h.same.endHostReq

theorem Keeps.closeSession : Keeps s₀ s.closeSession := by unfold State.closeSession; exact h.same

theorem Keeps.linkDown : Keeps s₀ s.linkDown := by
  unfold State.linkDown
  extract_lets up s1 _ s2
  have h1 : Keeps s₀ s1 := h.closeSession
  have h2 : Keeps s₀ s2 := h1.same
  exact .ite (Keeps.foldl (fun _ _ h => Keeps.ite h.endHostReq h) h2) h2

theorem Keeps.codewordLock {lane} : Keeps s₀ (s.codewordLock lane) := by unfold State.codewordLock; exact .ite h h.same

theorem Keeps.laneLockLoss {lane} : Keeps s₀ (s.laneLockLoss lane) := by
  unfold State.laneLockLoss
  exact .ite h (Keeps.ite h.linkDown h.same)

theorem Keeps.linkUp : Keeps s₀ s.linkUp := by unfold State.linkUp; exact .ite h h.same
theorem Keeps.linkReplay : Keeps s₀ s.linkReplay := by unfold State.linkReplay; exact .ite h.count.same.linkDown h.count.same
theorem Keeps.covered {aseq} : Keeps s₀ (s.covered aseq) := by unfold State.covered; exact .ite h.same h

theorem Keeps.linkFrame {decoded ctl req rsp} : Keeps s₀ (s.linkFrame decoded ctl req rsp) := by
  unfold State.linkFrame
  extract_lets clean msg _ fseq ctrl s1
  have h1 : Keeps s₀ s1 := h.same
  have hmsg : ∀ {u}, Keeps s₀ u → Keeps s₀ (msg u) := fun h => h.same
  have hctrl : ∀ {u}, Keeps s₀ u → Keeps s₀ (ctrl u) := fun h =>
    .ite h.same.covered.linkReplay h.same.covered
  split
  · exact h
  · exact .ite (hmsg h.same) h
  · exact .ite (.ite h h.same) (.ite (hctrl h) (.ite (.ite h h.same) (hctrl (hmsg h1))))

theorem Keeps.frameFails : Keeps s₀ s.frameFails := by unfold State.frameFails; exact .ite h h.same
theorem Keeps.linkReplayTimeout : Keeps s₀ s.linkReplayTimeout := by unfold State.linkReplayTimeout; exact .ite h.linkReplay h
theorem Keeps.sendFrame : Keeps s₀ s.sendFrame := by unfold State.sendFrame; exact .ite h (Keeps.ite h.same h.same)
theorem Keeps.deviceReset : Keeps s₀ s.deviceReset := by unfold State.deviceReset; exact .ite h.same.linkDown.assertReset h

theorem Keeps.processorReset : Keeps s₀ s.processorReset := by
  unfold State.processorReset
  exact .ite (Keeps.ite h.same.requestProc h.same) h

theorem Keeps.sessionOpen {level} : Keeps s₀ (s.sessionOpen level).1 := by
  unfold State.sessionOpen
  extract_lets b _
  split
  · exact h
  · split
    · exact h
    · split
      · exact h
      · exact h.same

theorem Keeps.deliverEvt : Keeps s₀ s.deliverEvt := by
  unfold State.deliverEvt
  extract_lets size left _
  split
  · exact h
  · exact .ite h h.same

theorem Keeps.writeEvtHead {v} : Keeps s₀ (s.writeEvtHead v).1 := by
  unfold State.writeEvtHead
  extract_lets _
  split
  · exact h
  · split
    · exact h
    · exact h.same

/-! ### Kept by power and security (15, 16) -/

theorem Keeps.emergencyCheck : Keeps s₀ s.emergencyCheck := by
  unfold State.emergencyCheck
  exact .ite (Keeps.ite h h.same) (Keeps.ite h.same h)

theorem Keeps.laddered {u : State} : Keeps s₀ (u.laddered s) := by unfold State.laddered; exact (Keeps.ite h.count h).emergencyCheck
theorem Keeps.powerEstimate {w} : Keeps s₀ (s.powerEstimate w) := by unfold State.powerEstimate; exact .ite h h.same.laddered
theorem Keeps.ladderRise {dram w} : Keeps s₀ (s.ladderRise dram w) := by unfold State.ladderRise; exact .ite h h.same.laddered
theorem Keeps.ladderFall : Keeps s₀ s.ladderFall := by unfold State.ladderFall; exact h.same.emergencyCheck
theorem Keeps.vrAlertLow : Keeps s₀ s.vrAlertLow := by unfold State.vrAlertLow; exact .ite h.same h.same.laddered
theorem Keeps.vrAlertHigh : Keeps s₀ s.vrAlertHigh := by unfold State.vrAlertHigh; exact .ite h h.same.emergencyCheck

theorem Keeps.emergencyNormal : Keeps s₀ s.emergencyNormal := by
  unfold State.emergencyNormal
  extract_lets _
  split
  · exact .ite h.same h
  · exact h

theorem Keeps.thermalTrip : Keeps s₀ s.thermalTrip := by unfold State.thermalTrip; exact .ite h h.assertReset.same

theorem Keeps.thermalTripRelease : Keeps s₀ s.thermalTripRelease := by
  unfold State.thermalTripRelease
  exact .ite h (Keeps.ite h.same h.same.holdEnds)

theorem Keeps.sleepCluster {c} : Keeps s₀ (s.sleepCluster c) := by
  unfold State.sleepCluster
  exact (((Keeps.foldl (fun _ _ h => h.carouselBack) h).dropWrites).modCluster).same

theorem Keeps.clusterSleep {c} : Keeps s₀ (s.clusterSleep c) := by
  unfold State.clusterSleep
  exact .ite h (Keeps.ite h.modCluster (Keeps.ite h.sleepCluster h.modCluster))

theorem Keeps.wakeCluster {c} : Keeps s₀ (s.wakeCluster c) := by
  unfold State.wakeCluster
  exact .ite h (Keeps.ite h.modCluster.count.startLoops h.modCluster.count)

theorem Keeps.clusterWake {c} : Keeps s₀ (s.clusterWake c) := by unfold State.clusterWake; exact .ite h.wakeCluster h

theorem Keeps.clusterAwake {c} : Keeps s₀ (s.clusterAwake c) := by
  unfold State.clusterAwake
  extract_lets x s1
  have h1 : Keeps s₀ s1 := .ite h.rewriteCluster h
  exact .ite h (Keeps.ite h1 h1.modCluster)

theorem Keeps.wakeLockTimeout {tile p} : Keeps s₀ (s.wakeLockTimeout tile p) := by
  unfold State.wakeLockTimeout
  split
  · exact h
  · exact .ite h h.enterRecovery.attemptFailed

theorem Keeps.enterDeep : Keeps s₀ s.enterDeep := by
  unfold State.enterDeep
  exact ((Keeps.foldl (fun _ _ h => h.operation) h).same).assertReset

theorem Keeps.enterStandby : Keeps s₀ s.enterStandby := by
  unfold State.enterStandby
  extract_lets s1 s2 s3
  have h1 : Keeps s₀ s1 := h.linkDown
  have h2 : Keeps s₀ s2 := .ite h1 h1.fabricDown
  have h3 : Keeps s₀ s3 := by
    refine .foldl (fun s c h => ?_) h2
    exact .ite h h.sleepCluster
  exact h3.same

theorem Keeps.resumeRun {wake} : Keeps s₀ (s.resumeRun wake) := by
  unfold State.resumeRun
  extract_lets _ _1 s1 s2
  have h1 : Keeps s₀ s1 := h.same
  have h2 : Keeps s₀ s2 := .ite h1.restartFabric h1
  exact .ite (Keeps.foldl (fun _ _ h => h.wakeCluster) h2) h2

theorem Keeps.wake {frame} : Keeps s₀ (s.wake frame) := by
  unfold State.wake
  split
  · exact .ite h.leaveDeep h
  · exact .ite h (Keeps.ite h.resumeRun (Keeps.ite h.resumeRun h))

theorem Keeps.vout {a} : Keeps s₀ (s.vout a).2 := by
  unfold State.vout
  split
  · exact h
  · exact h
  · exact h.draw

theorem Keeps.pollRail {n a} : Keeps s₀ (s.pollRail n a).1 := by
  unfold State.pollRail
  split
  · exact h.same
  · exact h.vout.same

theorem Keeps.latchRail {n} : Keeps s₀ (s.latchRail n) := by unfold State.latchRail; exact .ite h h.same.condition

theorem Keeps.pmbusPoll {n a} : Keeps s₀ (s.pmbusPoll n a) := by
  unfold State.pmbusPoll
  extract_lets again _ s1
  have h1 : Keeps s₀ s1 := h.same
  split
  · exact h
  · split
    next e => exact (h1.pollRail.of_fst e).latchRail
    next e => exact .ite (h1.pollRail.of_fst e).same (h1.pollRail.of_fst e)
    next e => exact h1.pollRail.of_fst e

theorem Keeps.vrClear : Keeps s₀ s.vrClear := by unfold State.vrClear; exact h.same
theorem Keeps.reference {lost} : Keeps s₀ (s.reference lost) := by unfold State.reference; exact .ite h h.same

theorem Keeps.floorRaise {p v} : Keeps s₀ (s.floorRaise p v).1 := by
  unfold State.floorRaise
  extract_lets _
  split
  · exact h
  · split
    · exact h
    · exact h.same

theorem Keeps.optionApply {c} : Keeps s₀ (s.optionApply c) := by
  unfold State.optionApply
  extract_lets a _
  split
  · exact h.same
  · exact h.same
  · exact h.same
  · exact h.same

theorem Keeps.optionCommand {p c} : Keeps s₀ (s.optionCommand p c).1 := by
  unfold State.optionCommand
  extract_lets record
  have hrecord : ∀ {u r}, Keeps s₀ u → Keeps s₀ (record u r) := fun h => h.same
  split
  · exact h
  · split
    · exact hrecord h
    · split
      · exact (hrecord h).newChallenge
      · split
        · exact (hrecord h).newChallenge
        · exact (hrecord h.optionApply).newChallenge

theorem Keeps.violation : Keeps s₀ s.violation := by unfold State.violation; exact (Keeps.filterBytes h).assertReset

theorem Keeps.attestWrite {nonce} : Keeps s₀ (s.attestWrite nonce).1 := by
  unfold State.attestWrite
  extract_lets _
  split
  · exact h
  · split
    · exact h.same
    · exact h.same

theorem Keeps.attestReady : Keeps s₀ s.attestReady := by unfold State.attestReady; exact .ite h h.same

/-! ### Kept by the dictionary, the field port and the requests of the host (11, 12) -/

theorem Keeps.readDir : Keeps s₀ s.readDir.1 := by
  unfold State.readDir
  extract_lets c
  split
  · exact h.setObj
  · exact h

theorem Keeps.readLog : Keeps s₀ s.readLog.1 := by
  unfold State.readLog
  extract_lets c
  split
  · exact h
  · split
    · exact h.setObj
    · exact h

theorem Keeps.readObj {index sub} : Keeps s₀ (s.readObj index sub).1 := by
  unfold State.readObj
  split
  · exact h
  · split
    · exact h
    · split
      · exact h.readDir
      · split
        · exact h.readLog
        · split
          · exact h
          · exact h

theorem Keeps.storeObj {index sub v} : Keeps s₀ (s.storeObj index sub v) := by
  unfold State.storeObj
  exact .ite h.setObj.same h.setObj

theorem Keeps.nvCommit {index sub} : Keeps s₀ (s.nvCommit index sub) := by
  unfold State.nvCommit
  extract_lets k _
  split
  · exact h
  · split
    · exact h.same
    · exact h

theorem Keeps.writeCal {v data} : Keeps s₀ (s.writeCal v data).1 := by
  unfold State.writeCal
  dsimp only
  split
  · split
    · exact h
    · exact h.modCol
  · split
    · exact h
    · exact h.setTarget.modHeater
  · split
    · exact h
    · exact h.modCol
  · split
    · exact h
    · exact h.modCol

theorem Keeps.writeInvalidate {p v} : Keeps s₀ (s.writeInvalidate p v).1 := by
  unfold State.writeInvalidate
  extract_lets s1
  have h1 : Keeps s₀ s1 := h.invalidate
  split
  · exact h
  · split
    · exact h1.same
    · exact h1

theorem Keeps.dueInvals : Keeps s₀ s.dueInvals := by unfold State.dueInvals; exact .foldl (fun _ _ h => h.answer) h.same

theorem Keeps.writeDoorbell {v} : Keeps s₀ (s.writeDoorbell v).1 := by
  unfold State.writeDoorbell
  split
  · exact h
  · split
    · exact h
    · exact h.formDoorbell

theorem Keeps.writePower {p v} : Keeps s₀ (s.writePower p v).1 := by
  unfold State.writePower
  split
  · exact h.answer.enterDeep
  · split
    · exact h.answer.enterStandby
    · exact h

theorem Keeps.writeRestart {p v} : Keeps s₀ (s.writeRestart p v).1 := by
  unfold State.writeRestart
  split
  · exact h
  · exact h.answer.requestProc

theorem Keeps.pulse {v} (ht : Keeps s₀ t) : Keeps s₀ (s.pulse t v).1 := .ite ht h

theorem Keeps.act {p index sub v data x} (e : s.act p index sub v data = some x) : Keeps s₀ x.1 := by
  unfold State.act at e
  split at e <;> cases e
  · exact .now h.sessionOpen
  · exact .now (.iteFst h.fpStart (.fst h.fpStop))
  · exact .iteFst h.basinStart (.fst h.basinStop)
  · exact h.writeInvalidate
  · exact .now (.iteFst h.fabricStart (.fst h.fabricStop))
  · exact .now h.writeDoorbell
  · exact .now (.iteFst h.cascadeStart (.fst h.cascadeStop))
  · exact .now h.writeCal
  · exact h.requestCapture
  · exact h.writePower
  · exact h.storeObj.laddered
  · exact h.pulse h.vrClear
  · exact .now h.resetRequest
  · exact .now h.bootLoad
  · exact .now h.commitWrite
  · exact .now h.activateWrite
  · exact h.writeRestart
  · exact .now h.floorRaise
  · exact .now h.optionCommand
  · exact .now h.attestWrite
  · exact h.pulse (.foldl (fun _ _ h => h.clearCounter) h)
  · exact h.same

theorem Keeps.actFamily {index sub v x} (e : s.actFamily index sub v = some x) : Keeps s₀ x.1 := by
  unfold State.actFamily at e
  split at e
  · cases e
    split
    next e => exact h.writeRegion.of_fst e
    next e => exact h.writeRegion.of_fst e
  · split_ifs at e <;> cases e
    · exact h.pulse h.abortQueue
    · exact h.setToken
    · exact h.pulse h.startStaging
    · split
      next e => exact h.writeStream.of_fst e
      next e => exact h.writeStream.of_fst e
    · exact h.loopsStart
    · exact h.loopsStop
    · exact h.modCluster
    · exact h
    · exact h.same
    · exact h.clearCounter

theorem Keeps.writeObj {p index sub data off} : Keeps s₀ (s.writeObj p index sub data off).1 := by
  unfold State.writeObj
  extract_lets v old
  split
  · exact h
  · split
    next e => exact h.act e
    · split
      next e => exact h.actFamily e
      · exact h.storeObj

theorem Keeps.writeNow {p index sub data off} : Keeps s₀ (s.writeNow p index sub data off) := by
  unfold State.writeNow
  split
  · exact h.answer
  · split
    · exact h.same
    · split
      next e => exact (h.writeObj.of_fst e).answer
      next e => exact h.writeObj.of_fst e

theorem Keeps.readNow {p index sub off len} : Keeps s₀ (s.readNow p index sub off len) := by
  unfold State.readNow
  split
  · exact h.answer
  · split
    · exact h.same
    · split
      next e => exact (h.readObj.of_fst e).answer
      next e => exact (h.readObj.of_fst e).answer

theorem Keeps.stopped {p index sub held} (hh : Keeps s₀ held) (e : s.stopped p index sub held = some t) : Keeps s₀ t := by
  unfold State.stopped at e
  split at e
  · cases e; exact .ite h.count h
  · split at e
    · cases e; exact .ite hh h.answer
    · split at e
      · cases e; exact h.count
      · cases e

theorem Keeps.dictWrite {p index sub data off} : Keeps s₀ (s.dictWrite p index sub data off) := by
  unfold State.dictWrite
  split
  next e => exact h.stopped h.holdWrite e
  · exact .ite h.count.answer h.writeNow

theorem Keeps.dictRead {p index sub off len} : Keeps s₀ (s.dictRead p index sub off len) := by
  unfold State.dictRead
  extract_lets f
  split
  next e => exact h.stopped h.holdFrame e
  · exact h.readNow

theorem Keeps.serveWaiting {k} : Keeps s₀ (s.serveWaiting k) := by
  unfold State.serveWaiting
  extract_lets _
  exact .foldl (fun _ _ h => by split; exacts [h.writeNow, h.readNow]) h.same

theorem Keeps.waitTimeout : Keeps s₀ s.waitTimeout := by unfold State.waitTimeout; exact .foldl (fun _ _ h => h.answer) h.same
theorem Keeps.endSeg {g status} : Keeps s₀ (s.endSeg g status) := by unfold State.endSeg; exact h.same.fpRespond

theorem Keeps.fpWrite {node d index sub} : Keeps s₀ (s.fpWrite node d index sub) := by
  unfold State.fpWrite
  exact .ite h.answer h.writeNow

theorem Keeps.fpSegInit {node d index sub} : Keeps s₀ (s.fpSegInit node d index sub) := by
  unfold State.fpSegInit
  extract_lets tid total _ s1 g _4
  have h1 : Keeps s₀ s1 := h.same
  exact .ite h.fpRespond (Keeps.ite h1.readNow (Keeps.ite h1.fpRespond h1.same.fpRespond))

theorem Keeps.fpSegment {node d refuse} : Keeps s₀ (s.fpSegment node d refuse) := by
  unfold State.fpSegment
  extract_lets n _
  split
  · exact h
  · extract_lets left last data g' s1
    have h1 : Keeps s₀ s1 := h.same
    split
    · exact h
    · split
      · exact .ite h h.same.fpRespond
      · split
        · exact h
        · exact .ite h.count.endSeg (Keeps.ite h.endSeg (Keeps.ite h1.writeNow h1.fpRespond))

theorem Keeps.fpSegAck {node d} : Keeps s₀ (s.fpSegAck node d) := by
  unfold State.fpSegAck
  extract_lets n _
  split
  · exact h
  · exact .ite h (Keeps.ite (Keeps.ite h.same h.same.fpRespond) (Keeps.ite h.same h.endSeg))

theorem Keeps.fpAbort {node d} : Keeps s₀ (s.fpAbort node d) := by
  unfold State.fpAbort
  extract_lets _
  split
  · exact h
  · exact .ite h.same h

theorem Keeps.fpReset {node own d refuse index sub} : Keeps s₀ (s.fpReset node own d refuse index sub) := by
  unfold State.fpReset
  exact .ite h.fpRespond (.ite h.count.fpRespond (.ite h.fpRespond h.same))

theorem Keeps.fpServe {service node own d refuse} : Keeps s₀ (s.fpServe service node own d refuse) := by
  unfold State.fpServe
  extract_lets index sub deny
  have hdeny : ∀ {r}, Keeps s₀ (deny r) := h.count.fpRespond
  split
  · exact h.count
  · split
    · exact h.readNow
    · exact .ite hdeny h.fpWrite
    · exact .ite hdeny h.fpSegInit
    · exact h.fpSegment
    · exact h.fpSegAck
    · exact h.fpAbort
    · exact h.fpReset
    · exact h

theorem Keeps.fpFrame {id d} : Keeps s₀ (s.fpFrame id d) := by
  unfold State.fpFrame
  exact .ite h (Keeps.ite h.count (Keeps.ite h.holdFrame h.fpServe))

theorem Keeps.serveHeld : Keeps s₀ s.serveHeld := by
  unfold State.serveHeld
  exact .ite h (Keeps.foldl (fun _ _ h => h.fpServe) h.same)

theorem Keeps.segTimeout : Keeps s₀ s.segTimeout := by
  unfold State.segTimeout
  split
  · exact h
  · exact .ite h h.abortSeg

theorem Keeps.fpResetExecute : Keeps s₀ s.fpResetExecute := by
  unfold State.fpResetExecute
  split
  · exact h
  · exact .ite h.assertReset h

theorem Keeps.takeToken : Keeps s₀ s.takeToken := by unfold State.takeToken; exact h.same

theorem Keeps.tokenRefill : Keeps s₀ s.tokenRefill := by
  unfold State.tokenRefill
  extract_lets _
  split
  · exact h
  · exact .ite h h.same

theorem Keeps.fpFail {st code n} : Keeps s₀ (s.fpFail st code n) := by unfold State.fpFail; exact h.setObj.fpEnter.event
theorem Keeps.errorFlags {n} : Keeps s₀ (s.errorFlags n) := by unfold State.errorFlags; exact .ite h.same.fpFail h.same

theorem Keeps.nextFrame {f} (e : s.nextFrame = some (f, t)) : Keeps s₀ t := by
  unfold State.nextFrame at e
  split at e
  · cases e; exact h.same
  · cases e; exact h.same
  · cases e

theorem Keeps.frameTransmit {o} : Keeps s₀ (s.frameTransmit o) := by
  unfold State.frameTransmit
  split
  · exact h
  · split
    · exact h
    next e =>
      split
      · exact h.takeToken
      · exact .ite h.takeToken.same.errorFlags h.takeToken.same
      · exact (h.nextFrame e).takeToken.same

theorem Keeps.flagLimit {n} : Keeps s₀ (s.flagLimit n) := by unfold State.flagLimit; exact .ite h h.same.errorFlags
theorem Keeps.busOff : Keeps s₀ s.busOff := by unfold State.busOff; exact .ite h h.fpFail
theorem Keeps.busOffRecovery : Keeps s₀ s.busOffRecovery := by unfold State.busOffRecovery; exact .ite h h.same.fpEnter
theorem Keeps.silentHigh : Keeps s₀ s.silentHigh := by unfold State.silentHigh; exact .ite h.same.fpEnter h.same
theorem Keeps.silentLow : Keeps s₀ s.silentLow := by unfold State.silentLow; exact h.same
theorem Keeps.busIdle : Keeps s₀ s.busIdle := by unfold State.busIdle; exact .ite h.fpEnter h
theorem Keeps.hostCached {space a} : Keeps s₀ (s.hostCached space a) := by unfold State.hostCached; exact .ite h.cacheLeaf h

theorem Keeps.hostRead {space a n} : Keeps s₀ (s.hostRead space a n).1 := by
  unfold State.hostRead
  extract_lets s1
  have h1 : Keeps s₀ s1 := h.hostCached
  split
  · exact .ite h.meetAt h
  · split
    · exact h1.meetBad
    · exact h1

theorem Keeps.hostWrite {space a data} : Keeps s₀ (s.hostWrite space a data).1 := by
  unfold State.hostWrite
  extract_lets s1
  have h1 : Keeps s₀ s1 := h.hostCached
  split
  · exact .ite h.meetAt h
  · extract_lets n
    split
    · exact h1.meetBad.store
    · exact h1.store

theorem Keeps.windowObj {tag index sub size v} : Keeps s₀ (s.windowObj tag index sub size v) := by
  unfold State.windowObj
  exact .ite h.answer h.dictWrite

theorem Keeps.writeClose {v} : Keeps s₀ (s.writeClose v).1 := by
  unfold State.writeClose
  split
  · exact h
  · split
    · exact h.closeSession
    · exact h

theorem Keeps.windowWrite {tag off v} : Keeps s₀ (s.windowWrite tag off v) := by
  unfold State.windowWrite
  extract_lets give
  have hgive : ∀ {x : State × Ans}, Keeps s₀ x.1 → Keeps s₀ (give x) := fun h => h.answer
  split
  · exact hgive h
  · split
    · exact hgive h.writeEvtHead
    · exact h.windowObj
    · exact hgive h.writeClose
    · exact h.windowObj
    · exact h.windowObj
    · exact hgive h

theorem Keeps.queueBell {q v} : Keeps s₀ (s.queueBell q v).1 := by
  unfold State.queueBell
  extract_lets u
  split
  · exact h
  · split
    · exact h
    · split
      · exact h
      · split
        next e => exact h.doorbell.of_fst e
        next e => exact h.doorbell.of_fst e

theorem Keeps.resumeBell {c v} : Keeps s₀ (s.resumeBell c v).1 := by
  unfold State.resumeBell
  split
  · exact h
  · split
    next t e =>
      have ht : Keeps s₀ t := h.resume.of_fst e
      exact Keeps.fst ht.settle
    next e => exact h.resume.of_fst e

theorem Keeps.bell {off v} : Keeps s₀ (s.bell off v).1 := by
  unfold State.bell
  split
  · exact h
  · split
    · exact h.queueBell
    · exact h.resumeBell

theorem Keeps.serveHost {hd data} : Keeps s₀ (s.serveHost hd data) := by
  unfold State.serveHost
  extract_lets tag a space give
  have hgive : ∀ {x : State × Ans}, Keeps s₀ x.1 → Keeps s₀ (give x) := fun h => h.answer
  split
  · exact hgive h
  · split
    · exact h.dictRead
    · exact h.dictWrite
    · exact .ite (hgive h) (.ite (hgive h) (hgive h.hostRead))
    · exact .ite (hgive h) (.ite h.windowWrite (hgive h.hostWrite))
    · exact hgive h.bell

theorem Keeps.hostOrder {hd data} : Keeps s₀ (s.hostOrder hd data) := by unfold State.hostOrder; exact .ite h.same h.serveHost

theorem Keeps.hostResume {n} : Keeps s₀ (s.hostResume n) := by
  induction n generalizing s with
  | zero => exact h
  | succ n ih =>
    unfold State.hostResume
    split
    · exact h
    · split
      · exact h
      · exact ih (Keeps.serveHost h.same)

theorem Keeps.transaction {hd data} : Keeps s₀ (s.transaction hd data) := by
  unfold State.transaction
  extract_lets data
  split
  · exact h
  · split
    · exact h.frameFails
    · split
      · exact h
      · exact h
      · exact .ite h h.onCpl
      · exact h.hostOrder

theorem Keeps.hostCommand {hd data} : Keeps s₀ (s.hostCommand hd data) := by unfold State.hostCommand; exact .ite h.hostOrder h

theorem Keeps.portWrite {p index sub data} : Keeps s₀ (s.portWrite p index sub data) := by
  unfold State.portWrite
  split
  · exact .ite h.hostOrder h.dictWrite
  · exact h.dictWrite

theorem Keeps.portRead {p index sub len} : Keeps s₀ (s.portRead p index sub len) := by
  unfold State.portRead
  split
  · exact .ite h.hostOrder h.dictRead
  · exact h.dictRead

/-! ### Kept by the engine cycle and what the commands add -/

theorem Keeps.retryReady : Keeps s₀ s.retryReady := by unfold State.retryReady; exact .foldl (fun _ _ h => h.consider) h

theorem Keeps.writersRun : Keeps s₀ s.writersRun := by
  unfold State.writersRun
  extract_lets s1 s2
  have h1 : Keeps s₀ s1 := h.dueReads
  have h2 : Keeps s₀ s2 := .foldl (fun _ _ h => h.loadSpare) h1
  exact (Keeps.ite h2.writerSample h2).endRewrites

theorem Keeps.retryDoorbell : Keeps s₀ s.retryDoorbell := by
  unfold State.retryDoorbell
  split
  · exact h.formDoorbell
  · exact h

theorem Keeps.tick : Keeps s₀ s.tick := by
  unfold State.tick
  extract_lets s1
  have h1 : Keeps s₀ s1 := h.pump.retryReady.retryStarted.deliverOwn.retryDoorbell.dueRestart.dueInvals.emergencyCheck
  exact h1.writersRun.sendFrame.cycle.dueWarm

theorem Keeps.idle : Keeps s₀ s.idle := by unfold State.idle; exact .ite h.same h.tick
theorem Keeps.onPlane {fiber} (ht : Keeps s₀ t) : Keeps s₀ (s.onPlane fiber t) := by unfold State.onPlane; exact .ite h ht

theorem Keeps.procBack {p warm} : Keeps s₀ (s.procBack p warm) := by
  unfold State.procBack
  extract_lets s1 s2
  have h1 : Keeps s₀ s1 := h.procReturn
  have h2 : Keeps s₀ s2 := h1.serveWaiting
  exact .ite h1 (Keeps.ite h2.serveHeld h2)

theorem Keeps.clearAndPoll {p answers} : Keeps s₀ (s.clearAndPoll p answers) := by
  unfold State.clearAndPoll
  exact .foldl (fun _ _ h => h.pmbusPoll) h.portWrite

end

/-! ### Kept by every command, and by every step -/

/-- The outcome is a next state, which keeps the queue and the canonical form. -/
def Goes (a : State) (o : Out) : Prop := ∃ t, o = .next t ∧ Keeps a t

theorem Goes.next {s₀ t : State} (h : Keeps s₀ t) : Goes s₀ (.next t) := ⟨t, rfl, h⟩

theorem Goes.live {s₀ s t : State} (h : Keeps s₀ s) (ht : Keeps s₀ t) : Goes s₀ (s.live t) := .next (.ite h ht)

/-- Every command goes on, by what the operations that give it its meaning keep. -/
theorem exec_goes {s₀ s : State} (h : Keeps s₀ s) (c : Instr) : Goes s₀ (exec c s) := by
  cases c with
  | regionDefine | regionDelete | queueAbort | streamDescWrite | stagingStart | xlatInvalidate | clusterLoopsStop
  | clusterLoopsRestart | monCapture | doorbellSend | fabricStop | fabricRestart | cascadeStop | cascadeRestart | hostLevel
  | objectWrite | counterClear | clearAll | basinStop | basinRestart | fpEnable | fpDisable | fwRestartRequest | fwCommit
  | fwActivate | bootLoad | warmResetRequest | blockResetRequest | deepStandbyRequest | standbyRequest | floorRaise
  | revokeSlot | raiseOtpFloor | raiseDebugLock | debugUnlock | attestRequest => exact .live h h.portWrite
  | queueDb | resumeDb | evtHead | sessionClose => exact .live h h.hostCommand
  | mvm | mvg | ldwCopy | ldwAdopt | kap | nrm | smx | actRead | actWrite | actAdd | actSave | actRestore | actRelease | xfr
  | wtk | spb | spc | spq | fnc => exact .live h h.admitAs
  | opDepsComplete q slot =>
    show Goes s₀ (execOpDepsComplete q slot s)
    unfold execOpDepsComplete
    split
    · exact .live h h.consider
    · exact .next h
  | streamArm => exact .live h h.streamArm
  | opStart => exact .live h h.opStart
  | pass => exact .live h h.pass
  | ambiguousInteger => exact .live h h.ambiguous
  | columnMapChange => exact .live h h.applyMap
  | passRepeat => exact .live h h.passRepeat
  | opContribution => exact .live h h.contribute
  | drainStart => exact .live h h.drainStart
  | drainComplete => exact .live h h.drainComplete
  | preempt => exact .live h (h.atBoundary h.preempt)
  | stallPreempt => exact .live h (h.atBoundary h.stallPreempt)
  | suspend => exact .live h h.suspend
  | preemptedResume => exact .live h h.resumePreempted
  | thermalPause => exact .live h h.thermalPause
  | thermalPauseEnd => exact .live h h.thermalPauseEnd
  | pauseAlarm => exact .live h h.pauseAlarm
  | opRetire => exact .live h h.retireOp
  | epochRetire => exact .live h h.retireEpoch
  | peerEpochTimeout => exact .live h h.peerTimeout
  | ldwStart => exact .live h h.loadStart
  | ldwComplete => exact .live h h.loadComplete
  | kapStart => exact .live h h.kapStart
  | kapComplete => exact .live h h.kapComplete
  | refresh => exact .live h h.refresh
  | mirrorUncorrectable => exact .live h h.mirrorUncorrectable
  | graceEnd => exact .live h h.graceEnd
  | digestComplete => exact .live h h.digestComplete
  | clusterRingRewrite => exact .live h h.clusterRingRewrite
  | stackResetOverrun => exact .live h h.stackResetOverrun
  | memoryCompletion => exact .live h h.memoryCompletion
  | memoryError =>
    refine .live h ?_
    split
    · exact h.memoryError
    · exact h.stagingBad
  | streamHalt => exact .live h h.streamHalt
  | standstill => exact .live h h.standstill
  | patrolScrub => exact .live h h.patrolScrub
  | stackFail => exact .live h h.stackFail
  | loopUpdate => exact .live h h.loopUpdate
  | outerUpdate => exact .live h h.outerUpdate
  | loopLock => exact .live h h.loopLock
  | pilotDeadlineLoss => exact .live h h.deadlineLoss
  | plausibilityFail => exact .live h h.plausibilityFail
  | pilotComparatorFlag => exact .live h h.comparatorFlag
  | sweepEnd => exact .live h h.sweepEnd
  | lineIdentityCheck => exact .live h h.identityCheck
  | checkForceInsert => exact .live h h.forceCheck
  | lowRateEntry => exact .live h h.lowRateEntry
  | lowRateExit => exact .live h h.lowRateExit
  | pumpFail => exact .live h h.pumpFail
  | combReturn => exact .live h h.combReturn
  | combReturnTimeout => exact .live h h.combTimeout
  | heaterShort => exact .live h h.heaterShort
  | heaterOpen => exact .live h h.heaterOpen
  | tempAlarm => exact .live h h.tempAlarm
  | injectRequest => exact .live h h.injectRequest
  | injectedSequenceStart => exact .live h h.injectedStart
  | monitorFail => exact .live h h.monitorFail
  | captureStart => exact .live h h.captureStart
  | carouselWindow => exact .live h h.carouselWindow
  | calibrationAbandon => exact .live h h.calibrationAbandon
  | marginTestRound => exact .live h h.marginRound
  | lanePass => exact .live h (h.onPlane h.lanePass)
  | laneFrame => exact .live h (h.onPlane h.laneFrame)
  | marginWaitExpire => exact .live h h.marginExpire
  | slotSchedule => exact .live h (h.onPlane h.slotSchedule)
  | laneKeepalive => exact .live h (h.onPlane h.keepalive)
  | wr => exact .live h (h.packetRow fun h => h.onWR)
  | rdq => exact .live h (h.packetRow fun h => h.onRDQ)
  | rdr => exact .live h (h.packetRow fun h => h.onRDR)
  | ack => exact .live h (h.packetRow fun h => h.onACK)
  | nak => exact .live h (h.packetRow fun h => h.onNAK)
  | dbl => exact .live h (h.packetRow fun h => h.onDBL)
  | epc => exact .live h (h.packetRow fun h => h.onEPC)
  | epq => exact .live h (h.packetRow fun h => h.onEPQ)
  | epa => exact .live h (h.packetRow fun h => h.onEPA)
  | lctl => exact .live h (h.packetRow fun h => h.onLCTL)
  | forward => exact .live h h.forward
  | replayTimeout => exact .live h h.replayTimeout
  | laneSilenceTimeout => exact .live h h.laneSilence
  | laneRetire => exact .live h h.laneRetire
  | packetAged => exact .live h h.packetAged
  | xfrTimeout => exact .live h h.tagTimeout
  | probeSend => exact .live h h.probeSend
  | memberLossTimeout => exact .live h h.memberLost
  | linkFrame => exact .live h h.linkFrame
  | linkReplayTimeout => exact .live h h.linkReplayTimeout
  | laneLockLoss => exact .live h h.laneLockLoss
  | linkUp => exact .live h h.linkUp
  | prd | pwr | mrd | mwr | cpl => exact .live h h.transaction
  | cplTimeout => exact .live h h.cplTimeout
  | evt => exact .live h h.deliverEvt
  | deviceResetMessage => exact .live h h.deviceReset
  | processorResetMessage => exact .live h h.processorReset
  | nvCommit => exact .live h h.nvCommit
  | dirEntry | logEntry => exact .live h h.portRead
  | fbSilentAssert => exact .next h.silentHigh
  | fbSilentRelease => exact .next h.silentLow
  | read | write | segInit | segment | segAck | abort | reset => exact .live h h.fpFrame
  | segTimeout => exact .live h h.segTimeout
  | fpResetExecute => exact .live h h.fpResetExecute
  | frameTransmit => exact .live h h.frameTransmit
  | tokenRefill => exact .live h h.tokenRefill
  | busOff => exact .live h h.busOff
  | flagLimit => exact .live h h.flagLimit
  | watchdogExpire | processorException => exact .live h h.requestProc
  | processorReturn => exact .live h h.procBack
  | dictWaitTimeout => exact .live h h.waitTimeout
  | commitVerified => exact .live h h.commitVerified
  | commitWritten => exact .live h h.commitWritten
  | activationSwitch => exact .live h h.activationSwitch
  | supplyMonitor => exact .next h.supplyMonitor
  | pwrGoodLow => exact .next h.pwrGoodLow
  | rstNPulse => exact .next h.rstNPulse
  | resetRelease => exact .next h.resetRelease
  | bringupStep => exact .live h h.bringupStep
  | blockResetAssert => exact .live h h.blockAssert
  | blockResetRelease => exact .live h h.blockRelease.hostResume
  | securityViolation => exact .next h.violation
  | wake => exact .next h.wake
  | clusterSleep => exact .live h h.clusterSleep
  | clusterWake => exact .live h h.clusterWake
  | clusterAwake => exact .live h h.clusterAwake
  | wakeLockTimeout => exact .live h h.wakeLockTimeout
  | powerEstimate => exact .live h h.powerEstimate
  | ladderRise => exact .live h h.ladderRise
  | ladderFall => exact .live h h.ladderFall
  | vrAlert => exact .next h.vrAlertLow
  | emergencyNormal => exact .live h h.emergencyNormal
  | thermalTrip => exact .next h.thermalTrip
  | thermalTripRelease => exact .next h.thermalTripRelease
  | pmbusPoll => exact .live h h.pmbusPoll
  | vrFaultClear => exact .live h h.clearAndPoll
  | attestReady => exact .live h h.attestReady
  | smxComplete => exact .live h h.smxComplete
  | captureComplete => exact .live h h.captureComplete
  | codewordLock => exact .live h h.codewordLock
  | referenceClockLoss | referenceClockReturn => exact .next h.reference
  | vrAlertRelease => exact .next h.vrAlertHigh
  | epochMessageTimeout => exact .live h h.epochTimeout
  | busOffRecovery => exact .live h h.busOffRecovery
  | busIdleDetect => exact .live h h.busIdle
  | debugRelease => exact .live h h.debugRelease
  | combOvertemperature => exact .live h h.combHot

/-- A step goes on, and what it keeps it keeps from the state with the queue shortened by one. -/
theorem step_goes (s : State) : Goes { s with pending := s.pending.tail } (step s) := by
  unfold step
  split
  next hq => exact .next (Keeps.idle (s₀ := { s with pending := s.pending.tail }) ⟨by rw [hq]; rfl, id⟩)
  next c rest hq =>
    refine exec_goes ?_ c
    exact ⟨by rw [hq]; rfl, id⟩

/-- Settles O3: every command, and so every step, answers a next state. -/
theorem everyCommandGoesOn : Obligations.EveryCommandGoesOn := by
  refine ⟨fun c s => ?_, fun s => ?_⟩
  · obtain ⟨t, ht, -⟩ := exec_goes (.refl s) c
    exact ⟨t, ht⟩
  · obtain ⟨t, ht, -⟩ := step_goes s
    exact ⟨t, ht⟩

/-- Settles O4: no operation that a command's meaning is made of touches the queue. -/
theorem commandsKeepTheQueue : Obligations.CommandsKeepTheQueue := by
  refine ⟨fun c s t ht => ?_, fun s t ht => ?_⟩
  · obtain ⟨u, hu, hk⟩ := exec_goes (.refl s) c
    cases ht.symm.trans hu
    exact hk.1
  · obtain ⟨u, hu, hk⟩ := step_goes s
    cases ht.symm.trans hu
    exact hk.1

/-- Settles O6: every operation that writes memory keeps its canonical form. -/
theorem stepsKeepMemoryCanonical : Obligations.StepsKeepMemoryCanonical := by
  intro s t hwf ht
  obtain ⟨u, hu, hk⟩ := step_goes s
  cases ht.symm.trans hu
  exact hk.2 hwf

end Sys2Proof.Machine
end

section
/-! SUPPORT. Single steps: the front of the queue, the device that is Dark or in Standby, the state after reset, and the
statements about them (00, 14, 15). -/

set_option Elab.async false

namespace Sys2Proof.Machine

/-- Settles O1: that is how a step is defined. -/
theorem frontCommandRunsFirst : Obligations.FrontCommandRunsFirst := by
  intro s c rest hq
  simp only [step, hq]

theorem step_of_empty {s : State} (h : s.pending = []) : step s = .next s.idle := by
  simp only [step, h]

/-- An idle device that does not run lets its time pass, and does nothing else. -/
theorem idle_of_stopped {s : State} (h : s.dark = true ∨ s.pwr.state ≠ 3) : s.idle = { s with time := s.time + 1 } :=
  if_pos h

/-- Settles O2: on an empty queue the device idles. -/
theorem emptyQueueLetsTimePass : Obligations.EmptyQueueLetsTimePass := by
  refine ⟨fun s hq => ⟨s.idle, step_of_empty hq⟩, fun s hq hs => ?_⟩
  rw [step_of_empty hq, idle_of_stopped hs]

/-- Settles O5: no byte of memory is listed after reset. -/
theorem resetMemoryIsCanonical : Obligations.ResetMemoryIsCanonical := ⟨wf_reset, rfl⟩

/-- Settles O7: each part of the state after reset has its default value. -/
theorem resetLeavesTheFirstBringupStep : Obligations.ResetLeavesTheFirstBringupStep := by
  refine ⟨rfl, rfl, rfl, rfl, rfl, rfl, rfl, rfl, rfl, rfl, rfl, rfl, fun r => ⟨rfl, rfl⟩, rfl, fun q => ⟨rfl, rfl⟩,
    fun c => rfl, fun e => rfl, fun n => rfl, rfl, rfl⟩

/-! ### The device that is Dark or in Standby (14 R491, 15 R519, R521) -/

/-- What does not act in the dark has the form of a command that a device obeys only while it runs. -/
theorem exec_eq_live {c : Instr} (h : actsInTheDark c = false) (s : State) : ∃ t, exec c s = s.live t := by
  cases c with
  | fbSilentAssert | fbSilentRelease | supplyMonitor | pwrGoodLow | rstNPulse | resetRelease | securityViolation | wake
  | vrAlert | vrAlertRelease | thermalTrip | thermalTripRelease | referenceClockLoss | referenceClockReturn => cases h
  | opDepsComplete q slot =>
    show ∃ t, execOpDepsComplete q slot s = s.live t
    unfold execOpDepsComplete
    split
    · exact ⟨_, rfl⟩
    · exact ⟨s, by rw [State.live, ite_self]⟩
  | _ => exact ⟨_, rfl⟩

/-- Such a command changes nothing while the device does not run. -/
theorem live_of_stopped {s : State} (h : s.dark = true ∨ s.pwr.state ≠ 3) (t : State) : s.live t = .next s := by
  rw [State.live, if_pos h]

/-- Settles O8: all but the fourteen events have the form that a stopped device ignores. -/
theorem darkDeviceIgnoresCommands : Obligations.DarkDeviceIgnoresCommands := by
  intro c s hs hc
  obtain ⟨t, ht⟩ := exec_eq_live hc s
  rw [ht, live_of_stopped hs]

end Sys2Proof.Machine
end

section
/-! SUPPORT. Answers: the completion on the host link and the response frame on the field port, and the statements about
them (11 R415, R426, 12 R457, R459). -/

set_option Elab.async false

namespace Sys2Proof.Machine

/-- Settles O9: each kind of answer is one completion, of one flit where it has no data. -/
theorem answersOnTheHostLink : Obligations.AnswersOnTheHostLink := by
  intro s tag index sub
  have hflits : flits 0 = 1 := by decide
  refine ⟨fun hup => ⟨fun d => ?ok, ?ignored, fun c k hc hk => ?err, ?retry, fun r => ?refused⟩, fun hdown d => ?down⟩
  case ok => rw [State.answer_host_ok _ _ _ _ hup]; rfl
  case ignored => simp [State.answer, hup, State.cpl, hflits]
  case err =>
    rw [State.answer_host_err _ _ _ _ _ hup, Nat.mod_eq_of_lt hc, Nat.mod_eq_of_lt hk]
    simp [State.cpl, hflits]
  case retry => simp [State.answer, hup, State.cpl, hflits]
  case refused => simp [State.answer, hup, State.cpl, hflits]
  case down => simp [State.answer, hdown]

section
variable {s : State} {node tid service index sub : Nat} (hservice : service = 2 ∨ service = 4)
include hservice

/-- A response of a READ or a WRITE that fits the frame is the header and the data. -/
theorem answerField_of_short {a : Ans} (hlen : a.fp?.2.2.length ≤ 56) : s.answerField node tid service index sub a =
    s.fpRespond { service := service, node := node
                  bytes := fpHeader tid a.fp?.1 index sub a.fp?.2.2.length a.fp?.2.1 ++ a.fp?.2.2 } := by
  unfold State.answerField
  rcases hservice with rfl | rfl <;> simp [not_lt.mpr hlen]

theorem answer_field_ok {d : List Byte} (hlen : d.length ≤ 56) : s.answer (.field node tid service) index sub (.ok d) =
    s.fpRespond { service := service, node := node, bytes := fpHeader tid 0 index sub d.length 0 ++ d } :=
  answerField_of_short hservice (a := .ok d) hlen

theorem answer_field_err {c k : Nat} : s.answer (.field node tid service) index sub (.err c k) =
    s.fpRespond { service := service, node := node, bytes := fpHeader tid c index sub 0 k } :=
  (answerField_of_short hservice (a := .err c k) (Nat.zero_le 56)).trans (by rw [Ans.fp?, List.append_nil]; rfl)

end

/-- A value that does not fit a frame is answered by the status 0x22 without data. -/
theorem answer_field_long {s : State} {node tid index sub : Nat} {d : List Byte} (hlen : 56 < d.length) :
    s.answer (.field node tid 2) index sub (.ok d) =
      s.fpRespond { service := 2, node := node, bytes := fpHeader tid 0x22 index sub 0 0 } := by
  simp [State.answer, State.answerField, Ans.fp?, hlen]

/-- Settles O10: a response joins its queue where there is room, and is counted where there is none. -/
theorem answersOnTheFieldPort : Obligations.AnswersOnTheFieldPort := by
  intro s node tid service index sub hservice
  refine ⟨fun hroom => ⟨fun d hlen => ?ok, fun d hread hlen => ?long, fun c k => ?err⟩, fun hfull d hlen => ?full⟩
  case ok => rw [answer_field_ok hservice hlen, State.fpRespond_room _ hroom]; rfl
  case long => rw [hread, answer_field_long hlen, State.fpRespond_room _ hroom]; rfl
  case err => rw [answer_field_err hservice, State.fpRespond_room _ hroom]; rfl
  case full => rw [answer_field_ok hservice hlen]; exact if_neg hfull

end Sys2Proof.Machine
end

section
/-! SUPPORT. Writes by a port, once for all objects: what a write comes to for its requester, for a refused write, for an object
that acts and for a member of a family that acts; and the statement about the checks of a write (12 R432, R433, R435, R436). -/

set_option Elab.async false

namespace Sys2Proof.Machine

/-- A write as its requester sees it: what it did, and the answer where it drew one at once. -/
def reply (p : Port) (index sub : Nat) (x : State × Option Ans) : State :=
  match x.2 with
  | some a => x.1.answer p index sub a
  | none => x.1

section
variable {s : State} {p : Port} {index sub : Nat} {data : List Byte}

/-- An object that the Barker keeps waits for no other processor. -/
theorem mustWait_of_keeper (h : keeper index sub = none) : s.mustWait index sub = none := by simp only [State.mustWait, h]

/-- An object whose keeper runs waits for nobody. -/
theorem mustWait_of_runs {k : Nat} (h : keeper index sub = some k) (hk : s.runs k = true) : s.mustWait index sub = none := by
  simp only [State.mustWait, h, hk, if_true]

/-- A write that nobody must be waited for is decided at once by its object's rule. -/
theorem live_write (h : Writes p s) (hwait : s.mustWait index sub = none) :
    s.live (s.portWrite p index sub data) = .next (reply p index sub (s.writeObj p index sub data 0)) := by
  rw [live_running (writes_running h), portWrite_of_writes h, writeNow_eq h.1 index sub data 0 hwait]
  rfl

theorem live_write_refused {a : Ans} (h : Writes p s) (hwait : s.mustWait index sub = none)
    (href : s.writeRefusal p index sub data 0 = some a) :
    s.live (s.portWrite p index sub data) = .next (s.answer p index sub a) := by
  rw [live_write h hwait, writeObj_of_refused href]
  rfl

theorem live_write_act {v : Nat} {x : State × Option Ans} (h : Writes p s) (hwait : s.mustWait index sub = none)
    (hval : leNat data = v) (href : s.writeRefusal p index sub data 0 = none) (hact : s.act p index sub v data = some x) :
    s.live (s.portWrite p index sub data) = .next (reply p index sub x) := by
  rw [live_write h hwait, writeObj_of_act href (hval ▸ hact)]

theorem live_write_family {v : Nat} {x : State × Option Ans} (h : Writes p s) (hwait : s.mustWait index sub = none)
    (hval : leNat data = v) (href : s.writeRefusal p index sub data 0 = none) (hact : s.act p index sub v data = none)
    (hfam : s.actFamily index sub v = some x) :
    s.live (s.portWrite p index sub data) = .next (reply p index sub x) := by
  rw [live_write h hwait, writeObj_of_actFamily href (hval ▸ hact) (hval ▸ hfam)]

/-- A write of another length is refused for its value. -/
theorem writeRefusal_of_length {r : ObjRow} {i : Nat} (hrow : objRow index sub = some (r, i)) (hacc : r.acc = 1 ∨ r.acc = 2)
    (hden : s.accessDenied p index sub (leNat data) = false) (hlen : data.length ≠ s.sizeOf r index sub) :
    s.writeRefusal p index sub data 0 = some (.err errValue 0) := by
  have hwritable : r.acc ≠ 0 ∧ r.acc ≠ 3 := by omega
  simp [State.writeRefusal, hrow, hwritable, hden, pieces, hlen]

/-- A write of an index that holds no object. -/
theorem writeRefusal_of_missing (h : objExists index sub = false) :
    s.writeRefusal p index sub data 0 = some (.err errNoObject 0) := by
  have hrow : objRow index sub = none := by
    rw [← Option.not_isSome_iff_eq_none, objRow_isSome_iff]
    rw [← Bool.not_eq_true, objExists_iff] at h
    exact fun ⟨r, hr, hi, hsub⟩ => h ⟨r, hr, hi, .inr hsub⟩
  simp [State.writeRefusal, hrow, h]

/-- A write of a read-only object. -/
theorem writeRefusal_of_readOnly {r : ObjRow} {i : Nat} (hrow : objRow index sub = some (r, i)) (hacc : r.acc = 0) :
    s.writeRefusal p index sub data 0 = some (.err errAccess 0) := by
  simp [State.writeRefusal, hrow, hacc]

end

/-- The value that 8, 16, 32 or more whole bytes carry. -/
theorem leNat_leBytes_of_lt {k n : Nat} (h : n < 256 ^ k) : leNat (leBytes k n) = n := by
  rw [leNat_leBytes, Nat.mod_eq_of_lt h]

/-! ### 0400:0B, as an example of a stored value -/

/-- The line of hl.cpl_timeout in the object tables. -/
def timeoutRow : ObjRow :=
  { base := 0x0400, sub := 0x0B, ty := 3, size := 4, acc := 1, kept := 1, dflt := 60000, range := some (12000, 1200000) }

theorem objRow_timeout : objRow 0x0400 0x0B = some (timeoutRow, 0) := by decide +kernel

theorem inRange_timeout {v : Nat} (hlo : 12000 ≤ v) (hhi : v ≤ 1200000) : inRange 0x0400 0x0B v = true := by
  simp [inRange, objRow_timeout, timeoutRow, hlo, hhi]

section
variable {s : State} {p : Port}

theorem writeObj_timeout {v : BitVec 32} (hlo : 12000 ≤ v.toNat) (hhi : v.toNat ≤ 1200000) :
    s.writeObj p 0x0400 0x0B (leBytes 4 v.toNat) 0 = (s.storeObj 0x0400 0x0B v.toNat, some (.ok [])) := by
  have hshape : objShape 0x0400 0x0B = some (1, 3, 4, 1, 0) := by decide +kernel
  have href : s.writeRefusal p 0x0400 0x0B (leBytes 4 v.toNat) 0 = none :=
    writeRefusal_none hshape (.inl rfl) (by decide) (leBytes_length 4 _) rfl
      (.inr ⟨rfl, .inr (by rw [leNat_leBytes_four]; exact inRange_timeout hlo hhi)⟩)
  have hfamily : s.actFamily 0x0400 0x0B v.toNat = none := rfl
  have hpieces : pieces timeoutRow = false := rfl
  simp only [State.writeObj, href, leNat_leBytes_four, State.act, hfamily, objRow_timeout, Option.map_some, Option.getD_some,
    hpieces, Bool.false_eq_true, if_false]

/-- Storing hl.cpl_timeout makes its NV commit due from now. -/
theorem storeObj_timeout (v : Nat) : s.storeObj 0x0400 0x0B v = { s with dict := { s.dict with
    objs := mset 60000 s.dict.objs 0x4000B v
    nvDue := s.dict.nvDue.filter (fun e => decide (e.1 ≠ 0x4000B)) ++ [(0x4000B, s.time)] } } := by
  simp [State.storeObj, State.setObj, objRow_timeout, timeoutRow, rowDefault]

/-- NV_COMMIT of a value that is due. -/
theorem nvCommit_timeout {w : Nat} (hb : s.barker = true) (hdue : (0x4000B, w) ∈ s.dict.nvDue) :
    s.nvCommit 0x0400 0x0B = { s with dict := { s.dict with
      nvDue := s.dict.nvDue.filter (fun e => decide (e.1 ≠ 0x4000B)), nv := mset 60000 s.dict.nv 0x4000B (s.obj 0x0400 0x0B) } } := by
  have hany : s.dict.nvDue.any (fun e => decide (e.1 = 0x4000B)) = true := List.any_eq_true.mpr ⟨_, hdue, by simp⟩
  simp [State.nvCommit, hb, hany, objRow_timeout, timeoutRow, rowDefault]

end

/-- Settles O14: a value in range is stored and becomes due, and each refusal is that of the first check that fails. -/
theorem objectWritesAreChecked : Obligations.ObjectWritesAreChecked := by
  have hkeeper : ∀ s : State, s.mustWait 0x0400 0x0B = none := fun s => mustWait_of_keeper rfl
  refine ⟨fun p s h => ⟨fun v hlo hhi => ⟨s.storeObj 0x0400 0x0B v.toNat, ?store, ?stored, ?due, ?others⟩,
    fun v hv => ?range, fun d hd => ?length, fun d => ?missing, fun d => ?readOnly⟩,
    fun s hrun hb ⟨w, hdue⟩ => ⟨s.nvCommit 0x0400 0x0B, live_running hrun, ?committed, ?left⟩⟩
  case store => exact (live_write h (hkeeper s)).trans (congrArg _ (congrArg _ (writeObj_timeout hlo hhi)))
  case stored => rw [storeObj_timeout]
  case due => simp [storeObj_timeout]
  case others =>
    rintro ⟨k, w⟩ hk
    simp only [storeObj_timeout, List.mem_append, List.mem_filter, List.mem_singleton, Prod.mk.injEq]
    simp only at hk
    simp [hk]
  case range =>
    have hlen : (leBytes 4 v.toNat).length = s.sizeOf timeoutRow 0x0400 0x0B := leBytes_length 4 _
    exact live_write_refused h (hkeeper s) (writeRefusal_of_range objRow_timeout (.inl rfl) rfl hlen (by decide) rfl
      (inRange_of_range objRow_timeout rfl (by rwa [leNat_leBytes_four])))
  case length => exact live_write_refused h (hkeeper s) (writeRefusal_of_length objRow_timeout (.inl rfl) rfl hd)
  case missing => exact live_write_refused h (mustWait_of_keeper rfl) (writeRefusal_of_missing (by decide +kernel))
  case readOnly =>
    have hrow : (objRow 0x0400 2).map (·.1.acc) = some 0 := by decide +kernel
    obtain ⟨⟨r, i⟩, hrow, hacc⟩ := Option.map_eq_some_iff.mp hrow
    exact live_write_refused h (mustWait_of_keeper rfl) (writeRefusal_of_readOnly hrow hacc)
  case committed => rw [nvCommit_timeout hb hdue]
  case left => simp [nvCommit_timeout hb hdue]

end Sys2Proof.Machine
end

section
/-! SUPPORT. Writes of region descriptors and of stream descriptors, staging copies and invalidations, and the statements about
them (01 Basin table 4, 06 R219, R220, R246). -/

set_option Elab.async false

namespace Sys2Proof.Machine

/-- A whole BLOB that is RW or WO is refused neither for its length nor for its value. -/
theorem writeRefusal_blob {s : State} {p : Port} {index sub acc size kept owner : Nat} {data : List Byte}
    (hshape : objShape index sub = some (acc, 9, size, kept, owner)) (hacc : acc = 1 ∨ acc = 2)
    (hcal : ¬ (index = 0x4800 ∧ sub = 6)) (hsleep : (index, sub) ≠ (0x5000, 0x0C)) (hlen : data.length = size)
    (hden : s.accessDenied p index sub (leNat data) = false) : s.writeRefusal p index sub data 0 = none :=
  writeRefusal_none hshape hacc hcal hlen hden (.inl ⟨rfl, hsleep⟩)

/-- A BOOL is refused neither for its length nor for its value. -/
theorem writeRefusal_bool {s : State} {p : Port} {index sub acc kept owner v : Nat} {b : Byte} (hval : leNat [b] = v)
    (hshape : objShape index sub = some (acc, 0, 1, kept, owner)) (hacc : acc = 1 ∨ acc = 2)
    (hcal : ¬ (index = 0x4800 ∧ sub = 6)) (hden : s.accessDenied p index sub v = false)
    (hres : reservedSet index sub v = false) (hrange : inRange index sub v = true) :
    s.writeRefusal p index sub [b] 0 = none := by
  subst hval
  exact writeRefusal_none hshape hacc hcal rfl hden (.inr ⟨hres, .inr hrange⟩)

/-- The value that whole bytes carry. -/
theorem leNat_leBytes_toNat {k : Nat} (d : BitVec (8 * k)) : leNat (leBytes k d.toNat) = d.toNat := by
  have hlt : d.toNat < 256 ^ k := d.isLt.trans_eq (pow_mul 2 8 k)
  exact leNat_leBytes_of_lt hlt

/-! ### Region descriptors -/

section
variable {s : State} {p : Port} (r : Fin 256)

theorem keeper_region : ∀ r : Fin 256, keeper (0x1100 + r) 1 = none := by decide +kernel

theorem accessDenied_region (v : Nat) : s.accessDenied p (0x1100 + r) 1 v = false := by
  unfold State.accessDenied
  split
  any_goals omega
  rfl

theorem act_region (v : Nat) (data : List Byte) : s.act p (0x1100 + r) 1 v data = none := by
  unfold State.act
  split
  any_goals omega
  rfl

/-- What a region descriptor's write answers. -/
def regionReply (x : State × Option Nat) : State × Option Ans :=
  match x with
  | (t, some c) => (t, some (.err errValue c))
  | (t, none) => (t, some (.ok []))

theorem actFamily_region (v : Nat) : s.actFamily (0x1100 + r) 1 v = some (regionReply (s.writeRegion r v)) := by
  have hlow : 0x1100 ≤ 0x1100 + (r : Nat) ∧ 0x1100 + (r : Nat) < 0x1200 := by omega
  rw [State.actFamily, if_pos hlow, Nat.add_sub_cancel_left]
  rfl

/-- A region descriptor's write is decided by the rule of Basin table 4. -/
theorem live_write_region (h : Writes p s) (d : BitVec 256) :
    s.live (s.portWrite p (0x1100 + r) 1 (leBytes 32 d.toNat)) =
      .next (reply p (0x1100 + r) 1 (regionReply (s.writeRegion r d.toNat))) :=
  live_write_family h (mustWait_of_keeper (keeper_region r)) (leNat_leBytes_toNat (k := 32) d)
    (writeRefusal_blob (shape_region r) (.inl rfl) (by omega) (by simp) (leBytes_length 32 _) (accessDenied_region r _))
    (act_region r _ _) (actFamily_region r _)

end

section
variable {s : State} {r d : Nat}

theorem writeRegion_refused {c : Nat} (h : s.regionRefusal r d = some c) :
    s.writeRegion r d = ({ s with basin := { s.basin with refusal := r + 256 * c } }, some c) := by
  simp only [State.writeRegion, h]

/-- An update of a region is what it makes of the region as it stands. -/
theorem modRegion_congr {f g : Region → Region} (h : f (s.region r) = g (s.region r)) : s.modRegion r f = s.modRegion r g :=
  congrArg (fun x => { s with regions := mset {} s.regions r x }) h

/-- An Empty region is defined as its descriptor says. -/
theorem writeRegion_define (hbit : bit d 0 = true) (h : s.regionRefusal r d = none) (hempty : (s.region r).st = .empty) :
    s.writeRegion r d = (s.modRegion r (fun o => { o with
      valid := true, kind := rdKind d, format := rdFormat d, tFirst := rdTFirst d, tLast := rdTLast d,
      gFirst := rdGFirst d, gLast := rdGLast d, mirrorBase := rdMirror d,
      hwmC := 0, hwmP := 0, provAppends := [], kapLog := []
      retiredColumns := s.retiredIn (rdTFirst d) (rdTLast d) (rdGFirst d) (rdGLast d) }), none) := by
  have hopen : ¬ ((s.region r).valid = true ∧ (s.region r).st ≠ .empty) := fun hv => hv.2 hempty
  simp only [State.writeRegion, h, State.applyRegion, hbit, if_true]
  exact congrArg (·, none) (modRegion_congr (if_neg hopen))

/-- A valid region is deleted, and its digest computation with it. -/
theorem writeRegion_delete (hbit : bit d 0 = false) (h : s.regionRefusal r d = none) (hvalid : (s.region r).valid = true) :
    s.writeRegion r d =
      ({ (s.modRegion r (fun _ => {})) with digests := s.digests.filter (fun g => decide (g.region ≠ r)) }, none) := by
  simp only [State.writeRegion, h, State.applyRegion, hbit, Bool.false_eq_true, if_false, hvalid, if_true]

end

/-- Settles O17: the refusals of Basin table 4 come first, then the descriptor is applied. -/
theorem regionDescriptorsAreDefinedAndDeleted : Obligations.RegionDescriptorsAreDefinedAndDeleted := by
  intro p r d s h
  refine ⟨fun hbit hok hempty => ?define, fun hbit hok hvalid => ?delete, fun c hc => ⟨?refused, ?refused⟩⟩
  case define =>
    rw [BitVec.getLsbD] at hbit
    refine (live_write_region r h d).trans ?_
    rw [writeRegion_define hbit hok hempty]
    rfl
  case delete =>
    rw [BitVec.getLsbD] at hbit
    refine (live_write_region r h d).trans ?_
    rw [writeRegion_delete hbit hok hvalid]
    rfl
  case refused =>
    refine (live_write_region r h d).trans ?_
    rw [writeRegion_refused hc]
    rfl

/-! ### Stream descriptors -/

section
variable {s : State} {p : Port} (c : Fin 64)

theorem keeper_stream : ∀ c : Fin 64, keeper (0x2100 + c) 1 = none ∧ keeper (0x2100 + c) 6 = none := by decide +kernel

theorem accessDenied_stream {sub : Nat} (v : Nat) : s.accessDenied p (0x2100 + c) sub v = false := by
  unfold State.accessDenied
  split
  any_goals omega
  rfl

theorem act_stream {sub : Nat} (v : Nat) (data : List Byte) : s.act p (0x2100 + c) sub v data = none := by
  unfold State.act
  split
  any_goals omega
  rfl

theorem actFamily_stream {sub : Nat} (v : Nat) : s.actFamily (0x2100 + c) sub v =
    some (if sub = 6 then s.pulse (s.startStaging c) v else regionReply (s.writeStream c v)) := by
  have hregion : ¬ (0x1100 ≤ 0x2100 + (c : Nat) ∧ 0x2100 + (c : Nat) < 0x1200) := by omega
  have habort : ¬ (0x1810 ≤ 0x2100 + (c : Nat) ∧ 0x2100 + (c : Nat) ≤ 0x1813 ∧ sub = 5) := by omega
  have htoken : ¬ (0x1A00 ≤ 0x2100 + (c : Nat) ∧ 0x2100 + (c : Nat) < 0x1B00) := by omega
  have hstream : 0x2100 ≤ 0x2100 + (c : Nat) ∧ 0x2100 + (c : Nat) < 0x2140 := by omega
  rw [State.actFamily, if_neg hregion, if_neg habort, if_neg htoken, if_pos hstream, Nat.add_sub_cancel_left]
  rfl

/-- A stream descriptor's write is decided by the context's state and Streams table 2. -/
theorem live_write_stream (h : Writes p s) (d : BitVec 512) :
    s.live (s.portWrite p (0x2100 + c) 1 (leBytes 64 d.toNat)) =
      .next (reply p (0x2100 + c) 1 (regionReply (s.writeStream c d.toNat))) :=
  live_write_family h (mustWait_of_keeper (keeper_stream c).1) (leNat_leBytes_toNat (k := 64) d)
    (writeRefusal_blob (shape_stream c) (.inl rfl) (by omega) (by simp) (leBytes_length 64 _) (accessDenied_stream c _))
    (act_stream c _ _) (actFamily_stream c _)

theorem live_write_staging (h : Writes p s) :
    s.live (s.portWrite p (0x2100 + c) 6 [1]) = .next ((s.startStaging c).answer p (0x2100 + c) 6 (.ok [])) := by
  have hres : reservedSet (0x2100 + c) 6 1 = false := by
    unfold reservedSet
    split
    any_goals omega
    rfl
  have hrange : ∀ c : Fin 64, inRange (0x2100 + c) 6 1 = true := by decide +kernel
  have href : s.writeRefusal p (0x2100 + c) 6 [1] 0 = none :=
    writeRefusal_bool rfl (shape_staging c) (.inr rfl) (by omega) (accessDenied_stream c 1) hres (hrange c)
  rw [live_write_family h (mustWait_of_keeper (keeper_stream c).2) rfl href (act_stream c 1 _) (actFamily_stream c 1)]
  rfl

end

section
variable {s : State} {i d : Nat}

theorem writeStream_stored (hidle : (s.ctx i).st = .idle) (h : streamFault d = none) :
    s.writeStream i d = (s.modCtx i (fun c => { c with desc := d, runs := 0 }), none) := by
  simp only [State.writeStream, hidle, ne_eq, not_true_eq_false, if_false, h]

theorem writeStream_busy (hidle : (s.ctx i).st ≠ .idle) :
    s.writeStream i d = ({ s with streamRefusal := i + 256 }, some 1) := by
  simp only [State.writeStream, ne_eq, hidle, not_false_eq_true, if_true, mul_one]

theorem writeStream_faulty {r : Nat} (hidle : (s.ctx i).st = .idle) (h : streamFault d = some r) :
    s.writeStream i d = ({ s with streamRefusal := i + 256 * r }, some r) := by
  simp only [State.writeStream, hidle, ne_eq, not_true_eq_false, if_false, h]

end

/-! ### Staging copies (06 R220) -/

/-- The use that a staging copy makes of a context: its whole length, in its direction. -/
def stagingUse (s : State) (i : Nat) : CtxUse :=
  { ctx := i, target := 5, need := sLength (s.ctx i).desc, write := sDir (s.ctx i).desc }

theorem startStaging_starts {s : State} {i : Nat} (hidle : (s.ctx i).st = .idle) (htarget : sTarget (s.ctx i).desc = 5)
    (helem : sElem (s.ctx i).desc ≠ 0) : s.startStaging i = (s.armRun (stagingUse s i) none none 4).refill i := by
  simp only [State.startStaging, hidle, htarget, helem, ne_eq, not_true_eq_false, or_self, if_false, stagingUse]

theorem startStaging_refused {s : State} {i : Nat} (h : (s.ctx i).st ≠ .idle ∨ sTarget (s.ctx i).desc ≠ 5) :
    s.startStaging i = s := by
  have hnot : (s.ctx i).st ≠ .idle ∨ sTarget (s.ctx i).desc ≠ 5 ∨ sElem (s.ctx i).desc = 0 := h.imp id .inl
  simp only [State.startStaging, if_pos hnot]

/-! #### What a context is after an update -/

section
variable {s : State} {i k : Nat} {f : Ctx → Ctx}

/-- A context that does not become as after reset is what its update makes of it. -/
theorem ctx_modCtx_self (h : f (s.ctx i) ≠ {}) : (s.modCtx i f).ctx i = f (s.ctx i) := mget_mset_ne _ _ _ _ h

theorem ctx_modCtx_other (h : k ≠ i) : (s.modCtx i f).ctx k = s.ctx k := mget_mset_other _ _ _ _ _ h

end

/-- An Armed context is not as after reset. -/
theorem ne_default_of_armed {c : Ctx} (h : c.st = .armed) : c ≠ {} := by
  rintro rfl
  cases h

/-- Handing over bytes for a run that writes changes what the run holds, or nothing. -/
theorem refill_cases (s : State) (i : Nat) : s.refill i = s ∨ ∃ run data source, (s.ctx i).run = some run ∧
    s.refill i = ({ s with poolProgress := s.time }).modCtx i (fun c => { c with
      run := some { run with data := data, source := source } }) := by
  unfold State.refill
  split
  · exact .inl rfl
  · next run hrun =>
    split
    · exact .inl rfl
    · extract_lets room off bs
      split
      · exact .inl rfl
      · exact .inr ⟨run, _, _, hrun, rfl⟩

theorem armRun_ctx (s : State) (u : CtxUse) (op : Option (Nat × Nat)) (epoch : Option Nat) (prio : Nat) :
    (s.armRun u op epoch prio).ctx u.ctx = { s.ctx u.ctx with
      st := .armed, lines := workingSet u.target u.most, borrowed := 0, yielded := false
      run := some { base := sRunBase (s.ctx u.ctx).desc (s.ctx u.ctx).runs, need := u.need, write := u.write, op := op,
                    epoch := epoch, prio := prio } } :=
  ctx_modCtx_self (ne_default_of_armed rfl)

/-- What a refill of an Armed context keeps: its state, its descriptor, the terms of its run, and every other context. -/
theorem refill_armed {s : State} {i : Nat} (h : (s.ctx i).st = .armed) :
    ((s.refill i).ctx i).st = .armed ∧ ((s.refill i).ctx i).desc = (s.ctx i).desc ∧
    ((s.refill i).ctx i).run.map (fun r => (r.need, r.done, r.write, r.op, r.prio)) =
      (s.ctx i).run.map (fun r => (r.need, r.done, r.write, r.op, r.prio)) ∧
    (∀ k, k ≠ i → (s.refill i).ctx k = s.ctx k) ∧
    s.refill i = { s with ctxs := (s.refill i).ctxs, poolProgress := (s.refill i).poolProgress } := by
  obtain heq | ⟨run, data, source, hrun, heq⟩ := refill_cases s i
  · rw [heq]
    exact ⟨h, rfl, rfl, fun _ _ => rfl, rfl⟩
  · have hself : (s.refill i).ctx i = { s.ctx i with run := some { run with data := data, source := source } } := by
      rw [heq]
      exact ctx_modCtx_self (ne_default_of_armed h)
    rw [hself, hrun]
    exact ⟨h, rfl, rfl, fun k hk => by rw [heq]; exact ctx_modCtx_other hk, by rw [heq]; rfl⟩

/-- A staging copy arms its context for one run of its whole length. -/
theorem startStaging_spec {s : State} {i : Nat} (hidle : (s.ctx i).st = .idle) (htarget : sTarget (s.ctx i).desc = 5)
    (helem : sElem (s.ctx i).desc ≠ 0) : let u := s.startStaging i
    (u.ctx i).st = .armed ∧ (u.ctx i).desc = (s.ctx i).desc ∧
    ((u.ctx i).run.map (fun r => (r.need, r.done, r.write, r.op, r.prio))) =
      some (sLength (s.ctx i).desc, 0, sDir (s.ctx i).desc, none, 4) ∧
    (∀ k, k ≠ i → u.ctx k = s.ctx k) ∧ u = { s with ctxs := u.ctxs, poolProgress := u.poolProgress } := by
  have hself := armRun_ctx s (stagingUse s i) none none 4
  change (State.armRun s (stagingUse s i) none none 4).ctx i = _ at hself
  obtain ⟨hst, hdesc, hrun, hothers, hframe⟩ := refill_armed (i := i) (congrArg Ctx.st hself)
  rw [hself] at hdesc hrun
  rw [startStaging_starts hidle htarget helem]
  exact ⟨hst, hdesc, hrun, fun k hk => (hothers k hk).trans (ctx_modCtx_other hk), hframe⟩

/-! ### Invalidations (06 R246) -/

theorem live_write_invalidate {s : State} {p : Port} (h : Writes p s) (v : BitVec 64) :
    s.live (s.portWrite p 0x2400 3 (leBytes 8 v.toNat)) = .next (reply p 0x2400 3 (s.writeInvalidate p v.toNat)) := by
  have hval : leNat (leBytes 8 v.toNat) = v.toNat := leNat_leBytes_toNat (k := 8) v
  have hrange : inRange 0x2400 3 v.toNat = true := by
    have hrow : (objRow 0x2400 3).map (fun x => (x.1.range, x.1.ty)) = some (none, 4) := by decide +kernel
    obtain ⟨⟨r, i⟩, hrow, hfields⟩ := Option.map_eq_some_iff.mp hrow
    obtain ⟨hr, hty⟩ := Prod.mk.inj hfields
    dsimp only at hr hty
    simp [inRange, hrow, hr, hty]
  exact live_write_act h (mustWait_of_keeper rfl) hval
    (writeRefusal_none shape_invalidate (.inr rfl) (by decide) (leBytes_length 8 _) rfl
      (.inr ⟨rfl, .inr (hval.symm ▸ hrange)⟩)) rfl

section
variable {s : State} {p : Port} {v : Nat}

theorem writeInvalidate_refused (h : invalidateOk v = false) : s.writeInvalidate p v = (s, some (.err errValue 0)) := by
  simp [State.writeInvalidate, h]

theorem writeInvalidate_now (h : invalidateOk v = true) (huse : s.usesRange v s.reqSerial = false) :
    s.writeInvalidate p v = (s.invalidate v, some (.ok [])) := by
  have hafter : (s.invalidate v).usesRange v (s.invalidate v).reqSerial = false := huse
  simp [State.writeInvalidate, h, hafter]

theorem writeInvalidate_later (h : invalidateOk v = true) (huse : s.usesRange v s.reqSerial = true) :
    s.writeInvalidate p v = ({ s.invalidate v with invals := s.invals ++ [(p, v, s.reqSerial)] }, none) := by
  have hafter : (s.invalidate v).usesRange v (s.invalidate v).reqSerial = true := huse
  simp only [State.writeInvalidate, h, not_true_eq_false, if_false, hafter, if_true]
  rfl

end

/-- Settles O18: a stream descriptor is checked and stored, a staging copy arms its context, and an invalidation is answered
once its range is free. -/
theorem streamDescriptorsAndStagingCopies : Obligations.StreamDescriptorsAndStagingCopies := by
  intro p c s h
  have hwrite := live_write_stream c h
  refine ⟨fun d hidle hok => ?stored, fun d hbusy => ?busy, fun d r hidle hbad => ?faulty,
    fun hidle htarget helem => ⟨s.startStaging c, live_write_staging c h, startStaging_spec hidle htarget helem⟩,
    fun hnot => ?noCopy, fun v hok => ⟨fun hfree => ?now, fun hused => ?later⟩, fun v hbad => ?badRange⟩
  case stored => exact (hwrite d).trans (by rw [writeStream_stored hidle hok]; rfl)
  case busy => exact (hwrite d).trans (by rw [writeStream_busy hbusy]; rfl)
  case faulty => exact (hwrite d).trans (by rw [writeStream_faulty hidle hbad]; rfl)
  case noCopy => exact (live_write_staging c h).trans (by rw [startStaging_refused hnot])
  case now => exact (live_write_invalidate h v).trans (by rw [writeInvalidate_now hok hfree]; rfl)
  case later => exact (live_write_invalidate h v).trans (by rw [writeInvalidate_later hok hused]; rfl)
  case badRange => exact (live_write_invalidate h v).trans (by rw [writeInvalidate_refused hbad]; rfl)

end Sys2Proof.Machine
end

section
/-! SUPPORT. Writes of the run objects of the Basin, the cluster loops, the fabric and the cascade, and the statement about
them (12 R439, R440, 07 R284, 09 R385, 10 R390). -/

set_option Elab.async false

namespace Sys2Proof.Machine

/-- An object that acts and answers at once. -/
theorem live_write_done {s t : State} {p : Port} {index sub v : Nat} {data : List Byte} {a : Ans} (h : Writes p s)
    (hwait : s.mustWait index sub = none) (hval : leNat data = v) (href : s.writeRefusal p index sub data 0 = none)
    (hact : s.act p index sub v data = some (t, some a)) :
    s.live (s.portWrite p index sub data) = .next (t.answer p index sub a) :=
  live_write_act h hwait hval href hact

/-! ### A restart whose checks find nothing (12 R440, R441) -/

/-- Checks that find nothing change only the list of failures and the list of unreadable copies. -/
theorem checked_nil (s : State) (fn c : Nat) : ∃ fails unreadable, s.checked fn c [] = { s with
    dict := { s.dict with fails := fails }, fw := { s.fw with unreadable := unreadable } } := ⟨_, _, rfl⟩

theorem leNat_zero : leNat [0] = 0 := rfl

theorem leNat_one : leNat [1] = 1 := rfl

/-! ### The Basin -/

/-- Updates of queues change the queues alone. -/
theorem foldl_modQueue_frame (f : State → Nat → QueueSt → QueueSt) (qs : List Nat) (s : State) :
    ∃ queues, qs.foldl (fun s q => s.modQueue q (f s q)) s = { s with queues := queues } := by
  induction qs generalizing s with
  | nil => exact ⟨s.queues, rfl⟩
  | cons q qs ih => exact ih (s.modQueue q (f s q))

theorem takeOffsets_frame (s : State) : ∃ queues, s.takeOffsets = { s with queues := queues } :=
  foldl_modQueue_frame _ _ s

section
variable {s : State} {p : Port}

theorem basinStart_running (hrun : s.basin.run = true) (hst : s.basin.state = .running) :
    s.basinStart p = (s, some (.ok [])) := by
  simp only [State.basinStart, hrun, hst, true_or, and_self, if_true]

theorem basinStart_stopping (h : s.basinStopping = true) :
    s.basinStart p = ({ s with basin := { s.basin with restartDue := s.basin.restartDue ++ [p] } }, none) := by
  have hrun : s.basin.run = false := by
    rw [State.basinStopping, Bool.and_eq_true, Bool.not_eq_true'] at h
    exact h.1
  simp only [State.basinStart, hrun, Bool.false_eq_true, false_and, if_false, h, if_true]

theorem basinStart_stopped (hnot : ¬ (s.basin.run = true ∧ (s.basin.state = .running ∨ s.basin.state = .paused)))
    (hstop : s.basinStopping = false) : s.basinStart p = (s.restartBasin.1, some s.restartBasin.2) := by
  simp only [State.basinStart, if_neg hnot, hstop, Bool.false_eq_true, if_false]

/-- A restart of the Basin that finds no fault, with light and a Ringmaster that is not Held, makes it run. -/
theorem restartBasin_runs (hfaults : s.basinFaults = []) (hlight : s.light.compute = .locked)
    (hproc : (s.proc procRingmaster).state ≠ .held) : ∃ fails unreadable queues, s.restartBasin = ({ s with
      basin := { s.basin with run := true, state := .running }, queues := queues
      dict := { s.dict with fails := fails }, fw := { s.fw with unreadable := unreadable } }, .ok []) := by
  obtain ⟨fails, unreadable, hchecked⟩ := checked_nil s 1 127
  obtain ⟨queues, htaken⟩ := takeOffsets_frame { s with
    dict := { s.dict with fails := fails }, fw := { s.fw with unreadable := unreadable } }
  refine ⟨fails, unreadable, queues, ?_⟩
  simp only [State.restartBasin, hfaults, ne_eq, not_true_eq_false, if_false, hchecked, htaken]
  exact if_pos ⟨hlight, hproc⟩

/-- A write of basin.run does what starting or stopping the Basin does. -/
theorem live_write_basin (h : Writes p s) :
    s.live (s.portWrite p 0x1000 0x0B [1]) = .next (reply p 0x1000 0x0B (s.basinStart p)) ∧
    s.live (s.portWrite p 0x1000 0x0B [0]) = .next (s.basinStop.answer p 0x1000 0x0B (.ok [])) := by
  have hwait : s.mustWait 0x1000 0x0B = none := mustWait_of_keeper rfl
  have hrange : inRange 0x1000 0x0B 1 = true ∧ inRange 0x1000 0x0B 0 = true := by decide +kernel
  exact ⟨live_write_act (x := s.basinStart p) h hwait leNat_one
      (writeRefusal_bool leNat_one shape_basinRun (.inl rfl) (by decide) rfl rfl hrange.1) rfl,
    live_write_done h hwait leNat_zero
      (writeRefusal_bool leNat_zero shape_basinRun (.inl rfl) (by decide) rfl rfl hrange.2) rfl⟩

end

/-! ### The loops of a cluster -/

section
variable {s : State} {p : Port} (c : Fin 98)

theorem keeper_loops : ∀ c : Fin 98, keeper (0x4100 + c) 2 = none := by decide +kernel

theorem accessDenied_loops (v : Nat) : s.accessDenied p (0x4100 + c) 2 v = false := by
  unfold State.accessDenied
  split
  any_goals omega
  rfl

theorem reservedSet_loops (v : Nat) : reservedSet (0x4100 + c) 2 v = false := by
  unfold reservedSet
  split
  any_goals omega
  rfl

theorem act_loops (v : Nat) (data : List Byte) : s.act p (0x4100 + c) 2 v data = none := by
  unfold State.act
  split
  any_goals omega
  rfl

theorem actFamily_loops (v : Nat) : s.actFamily (0x4100 + c) 2 v =
    some (now (if v = 1 then s.loopsStart c else (s.loopsStop c, .ok []))) := by
  have hregion : ¬ (0x1100 ≤ 0x4100 + (c : Nat) ∧ 0x4100 + (c : Nat) < 0x1200) := by omega
  have habort : ¬ (0x1810 ≤ 0x4100 + (c : Nat) ∧ 0x4100 + (c : Nat) ≤ 0x1813 ∧ 2 = 5) := by omega
  have htoken : ¬ (0x1A00 ≤ 0x4100 + (c : Nat) ∧ 0x4100 + (c : Nat) < 0x1B00) := by omega
  have hstream : ¬ (0x2100 ≤ 0x4100 + (c : Nat) ∧ 0x4100 + (c : Nat) < 0x2140) := by omega
  have hloops : 0x4100 ≤ 0x4100 + (c : Nat) ∧ 0x4100 + (c : Nat) < 0x4162 := by omega
  rw [State.actFamily, if_neg hregion, if_neg habort, if_neg htoken, if_neg hstream, if_pos hloops, if_pos rfl,
    Nat.add_sub_cancel_left]

/-- A write of a cluster's run object does what starting or stopping its loops does. -/
theorem live_write_loops (h : Writes p s) :
    s.live (s.portWrite p (0x4100 + c) 2 [1]) = .next ((s.loopsStart c).1.answer p (0x4100 + c) 2 (s.loopsStart c).2) ∧
    s.live (s.portWrite p (0x4100 + c) 2 [0]) = .next ((s.loopsStop c).answer p (0x4100 + c) 2 (.ok [])) := by
  have hwait : s.mustWait (0x4100 + c) 2 = none := mustWait_of_keeper (keeper_loops c)
  have hrange : ∀ c : Fin 98, inRange (0x4100 + c) 2 1 = true ∧ inRange (0x4100 + c) 2 0 = true := by decide +kernel
  have hone : s.writeRefusal p (0x4100 + c) 2 [1] 0 = none :=
    writeRefusal_bool leNat_one (shape_loops c) (.inl rfl) (by omega) (accessDenied_loops c 1) (reservedSet_loops c 1) (hrange c).1
  have hzero : s.writeRefusal p (0x4100 + c) 2 [0] 0 = none :=
    writeRefusal_bool leNat_zero (shape_loops c) (.inl rfl) (by omega) (accessDenied_loops c 0) (reservedSet_loops c 0) (hrange c).2
  rw [live_write_family h hwait leNat_one hone (act_loops c 1 _) (actFamily_loops c 1),
    live_write_family h hwait leNat_zero hzero (act_loops c 0 _) (actFamily_loops c 0)]
  exact ⟨rfl, rfl⟩

end

section
variable {s : State} {c k : Nat} {f : ClusterSt → ClusterSt}

/-- A cluster that does not become as after reset is what its update makes of it. -/
theorem cluster_modCluster_self (h : f (s.cluster c) ≠ {}) : (s.modCluster c f).cluster c = f (s.cluster c) :=
  mget_mset_ne _ _ _ _ h

theorem cluster_modCluster_other (h : k ≠ c) : (s.modCluster c f).cluster k = s.cluster k := mget_mset_other _ _ _ _ _ h

/-- Loops that run stay as they are. -/
theorem loopsStart_running (h : s.loopsRun c = true) : s.loopsStart c = (s, .ok []) := if_pos h

/-- Loops whose restart finds no fault start, where the cluster is able to run them. -/
theorem loopsStart_stopped (hrun : s.loopsRun c = false) (hfaults : s.loopFaults c = []) (hable : s.loopsAble c = true) :
    ∃ fails unreadable, s.loopsStart c = (({ s with
      dict := { s.dict with loops := mset false s.dict.loops c false, fails := fails }
      fw := { s.fw with unreadable := unreadable } } : State).startLoops c, .ok []) := by
  obtain ⟨fails, unreadable, hchecked⟩ := checked_nil s 3 c
  refine ⟨fails, unreadable, ?_⟩
  simp only [State.loopsStart, hrun, Bool.false_eq_true, if_false, hfaults, ne_eq, not_true_eq_false, hchecked]
  exact congrArg (·, _) (if_pos hable)

/-- Starting loops changes clusters, columns and outer loops alone. -/
theorem startLoops_frame (s : State) (c : Nat) : s.startLoops c = { s with
    clusters := (s.startLoops c).clusters, cols := (s.startLoops c).cols, tileLoops := (s.startLoops c).tileLoops } := by
  unfold State.startLoops
  extract_lets restart
  split_ifs <;> rfl

/-- Loops that start, with the compute comb not Dark, count their updates and their dither from now. -/
theorem startLoops_clusters (hlight : s.light.compute ≠ .dark) : ∃ f,
    (∀ x, (f x).loopsOn = true ∧ (f x).loopStart = s.time ∧ (f x).phase = 0) ∧
    (s.startLoops c).clusters = (s.modCluster c f).clusters := by
  simp only [State.startLoops, if_neg hlight]
  refine ⟨_, ?_, by rfl⟩
  exact fun _ => ⟨rfl, rfl, rfl⟩

theorem startLoops_spec (hlight : s.light.compute ≠ .dark) :
    ((s.startLoops c).cluster c).loopsOn = true ∧ ((s.startLoops c).cluster c).loopStart = s.time ∧
    ((s.startLoops c).cluster c).phase = 0 ∧ (∀ k, k ≠ c → (s.startLoops c).cluster k = s.cluster k) := by
  obtain ⟨f, hf, heq⟩ := startLoops_clusters (c := c) hlight
  have hall : ∀ k, (s.startLoops c).cluster k = (s.modCluster c f).cluster k :=
    fun k => by simp only [State.cluster, heq]
  obtain ⟨hon, hstart, hphase⟩ := hf (s.cluster c)
  have hne : f (s.cluster c) ≠ {} := fun h => by rw [h] at hon; cases hon
  rw [hall, cluster_modCluster_self hne]
  exact ⟨hon, hstart, hphase, fun k hk => (hall k).trans (cluster_modCluster_other hk)⟩

end

/-! ### The fabric -/

section
variable {s : State} {p : Port}

theorem live_write_fabric (h : Writes p s) :
    s.live (s.portWrite p 0x3000 2 [1]) = .next (s.fabricStart.1.answer p 0x3000 2 s.fabricStart.2) ∧
    s.live (s.portWrite p 0x3000 2 [0]) = .next (s.fabricStop.answer p 0x3000 2 (.ok [])) := by
  have hwait : s.mustWait 0x3000 2 = none := mustWait_of_keeper rfl
  have hrange : inRange 0x3000 2 1 = true ∧ inRange 0x3000 2 0 = true := by decide +kernel
  exact ⟨live_write_done h hwait leNat_one
      (writeRefusal_bool leNat_one shape_fabRun (.inl rfl) (by decide) rfl rfl hrange.1) rfl,
    live_write_done h hwait leNat_zero
      (writeRefusal_bool leNat_zero shape_fabRun (.inl rfl) (by decide) rfl rfl hrange.2) rfl⟩

theorem fabricStop_eq : s.fabricStop =
    if s.fab.state = .stopped then s.setObj 0x3000 2 0 else ((s.setObj 0x3000 2 0).fabricDown .stopped).settle := by
  have hfab : (s.setObj 0x3000 2 0).fab = s.fab := by rw [State.setObj_frame]
  simp only [State.fabricStop, hfab]

theorem fabricStart_running (h : s.fab.state ≠ .stopped) : s.fabricStart = (s, .ok []) := if_pos h

/-- A fabric whose restart finds no fault starts. -/
theorem fabricStart_stopped (h : s.fab.state = .stopped) (hreasons : s.fabricReasons = []) :
    ∃ fails unreadable, s.fabricStart = (({ s with
      dict := { s.dict with objs := mset 1 s.dict.objs 0x300002 1, fails := fails }
      fw := { s.fw with unreadable := unreadable } } : State).startFabric, .ok []) := by
  have hdefault : (objRow 0x3000 2).map (fun x => rowDefault x.1 x.2) = some 1 := by decide +kernel
  obtain ⟨fails, unreadable, hchecked⟩ := checked_nil s 2 127
  refine ⟨fails, unreadable, ?_⟩
  simp only [State.fabricStart, h, ne_eq, not_true_eq_false, if_false, State.restartFabric, hreasons, if_true, hchecked,
    setObj_of_default _ 1 hdefault]

/-- With the link comb locked, a fabric that starts is Testing. -/
theorem startFabric_locked (hlight : s.light.link = .locked) : s.startFabric = { s with fab := { s.fab with
    state := .testing, base := .testing, round := 0, mismatched := [], dimsLost := 0
    testEnd := some (s.time + 150 * s.obj 0x3000 0x0A) } } := if_neg (not_not.mpr hlight)

end

/-! ### The cascade -/

theorem setToken_tokens (s : State) (n v : Nat) : (s.setToken n v).tokens = mset 0 s.tokens n (v % 2 ^ 32) := rfl

/-- Setting counters changes the counters alone. -/
theorem setTokens_frame (ns : List Nat) (s : State) :
    ∃ tokens, ns.foldl (fun s i => s.setToken i 0) s = { s with tokens := tokens } := by
  induction ns generalizing s with
  | nil => exact ⟨s.tokens, rfl⟩
  | cons n ns ih => exact ih (s.setToken n 0)

/-- Counters of a list set to 0 read 0, and so does one that did before. -/
theorem token_setTokens_zero {s : State} (ns : List Nat) (hwf : mwf 0 s.tokens = true) {n : Nat}
    (hn : n ∈ ns ∨ s.token n = 0) : (ns.foldl (fun s i => s.setToken i 0) s).token n = 0 := by
  induction ns generalizing s with
  | nil => simpa using hn
  | cons m ns ih =>
    have hwf' : mwf 0 (s.setToken m 0).tokens = true := by
      rw [setToken_tokens]
      exact mwf_mset m _ hwf
    refine ih hwf' ?_
    by_cases hnm : n = m
    · subst hnm
      have hself : (s.setToken n 0).token n = 0 := by
        rw [State.token, setToken_tokens]
        exact mget_mset_self n _ hwf
      exact .inr hself
    · have hother : (s.setToken m 0).token n = s.token n := by
        rw [State.token, setToken_tokens]
        exact mget_mset_other 0 s.tokens m n _ hnm
      exact hn.imp (fun h => (List.mem_cons.mp h).resolve_left hnm) hother.trans

section
variable {s : State} {p : Port}

/-- A cascade that starts has cleared its counters and has heard no member. -/
theorem startCascade_eq (s : State) : ∃ tokens casc, s.startCascade = { s with tokens := tokens, casc := casc } ∧
    (casc.state = .formed ∨ casc.state = .forming) ∧ casc.joined = [] ∧ casc.lost = 65535 ∧
    (∀ n, 0xF0 ≤ n → n < 0x100 → mget 0 tokens n = 0 ∨ mwf 0 s.tokens = false) := by
  have hfold : (List.range 16).foldl (fun s i => s.setToken (0xF0 + i) 0) s =
      ((List.range 16).map (0xF0 + ·)).foldl (fun s i => s.setToken i 0) s := by
    rw [List.foldl_map]
  obtain ⟨tokens, hframe⟩ := setTokens_frame ((List.range 16).map (0xF0 + ·)) s
  simp only [State.startCascade, hfold, hframe]
  refine ⟨tokens, _, rfl, ite_eq_or_eq .., rfl, rfl, fun n hlo hhi => ?_⟩
  by_cases hwf : mwf 0 s.tokens = true
  · have hn : n ∈ (List.range 16).map (0xF0 + ·) := List.mem_map.mpr ⟨n - 0xF0, List.mem_range.mpr (by omega), by omega⟩
    have hclear := token_setTokens_zero _ hwf (.inl hn)
    rw [hframe] at hclear
    exact .inl hclear
  · exact .inr (by simpa using hwf)

theorem live_write_cascade (h : Writes p s) :
    s.live (s.portWrite p 0x3400 2 [1]) = .next (s.cascadeStart.1.answer p 0x3400 2 s.cascadeStart.2) ∧
    s.live (s.portWrite p 0x3400 2 [0]) = .next (s.cascadeStop.answer p 0x3400 2 (.ok [])) := by
  have hwait : s.mustWait 0x3400 2 = none := mustWait_of_keeper rfl
  have hrange : inRange 0x3400 2 1 = true ∧ inRange 0x3400 2 0 = true := by decide +kernel
  exact ⟨live_write_done h hwait leNat_one
      (writeRefusal_bool leNat_one shape_cascRun (.inl rfl) (by decide) rfl rfl hrange.1) rfl,
    live_write_done h hwait leNat_zero
      (writeRefusal_bool leNat_zero shape_cascRun (.inl rfl) (by decide) rfl rfl hrange.2) rfl⟩

theorem cascadeStart_running (h : s.casc.state ≠ .stopped) : s.cascadeStart = (s, .ok []) := if_pos h

/-- A cascade whose restart finds no fault starts. -/
theorem cascadeStart_stopped (h : s.casc.state = .stopped) (hreasons : s.cascadeReasons = []) :
    ∃ fails unreadable, s.cascadeStart = (({ s with
      dict := { s.dict with objs := mset 0 s.dict.objs 0x340002 1, fails := fails }
      fw := { s.fw with unreadable := unreadable } } : State).startCascade, .ok []) := by
  have hdefault : (objRow 0x3400 2).map (fun x => rowDefault x.1 x.2) = some 0 := by decide +kernel
  obtain ⟨fails, unreadable, hchecked⟩ := checked_nil s 5 127
  refine ⟨fails, unreadable, ?_⟩
  simp only [State.cascadeStart, h, ne_eq, not_true_eq_false, if_false, hreasons, if_true, hchecked,
    setObj_of_default _ 1 hdefault]

end

/-- Settles O19: each write of a run object does what stopping or starting its function does. -/
theorem runObjectsStopAndRestart : Obligations.RunObjectsStopAndRestart := by
  intro p s h
  have hcascDefault : (objRow 0x3400 2).map (fun x => rowDefault x.1 x.2) = some 0 := by decide +kernel
  obtain ⟨hbasinOne, hbasinZero⟩ := live_write_basin h
  obtain ⟨hfabOne, hfabZero⟩ := live_write_fabric h
  obtain ⟨hcascOne, hcascZero⟩ := live_write_cascade h
  refine ⟨hbasinZero, fun u q hu => ?admits, fun hfaults hstop hnot hlight hproc => ?basin,
    fun hrun hst => ?basinRuns, fun hstop => ?basinStopping, fun c => (live_write_loops c h).2,
    fun c hrun => ?loopsRun, fun c hrun hfaults hable hlight => ?loops,
    fun hst => ?fabStopped, fun hst => ?fabStops, fun hst => ?fabRuns, fun hst hreasons hlight => ?fab,
    ?cascStops, fun hst => ?cascRuns, fun hst hreasons => ?casc⟩
  case admits => simp [State.canAdmit, State.canSchedule, hu]
  case basin =>
    obtain ⟨fails, unreadable, queues, heq⟩ := restartBasin_runs hfaults hlight (by simp [hproc])
    exact ⟨_, hbasinOne.trans (by rw [basinStart_stopped hnot hstop, heq]; rfl), rfl, rfl⟩
  case basinRuns => exact hbasinOne.trans (by rw [basinStart_running hrun hst]; rfl)
  case basinStopping => exact hbasinOne.trans (by rw [basinStart_stopping hstop]; rfl)
  case loopsRun => exact (live_write_loops c h).1.trans (by rw [loopsStart_running hrun])
  case loops =>
    obtain ⟨fails, unreadable, heq⟩ := loopsStart_stopped hrun hfaults hable
    obtain ⟨hon, hstart, hphase, hothers⟩ := startLoops_spec (c := c.val) (s := { s with
      dict := { s.dict with loops := mset false s.dict.loops c false, fails := fails }
      fw := { s.fw with unreadable := unreadable } }) hlight
    refine ⟨_, (live_write_loops c h).1.trans (by rw [heq]), hon, hstart, hphase, hothers, ?_⟩
    exact (startLoops_frame _ _).trans (by rw [startLoops_frame])
  case fabStopped => exact hfabZero.trans (by rw [fabricStop_eq, if_pos hst])
  case fabStops => exact hfabZero.trans (by rw [fabricStop_eq, if_neg hst])
  case fabRuns => exact hfabOne.trans (by rw [fabricStart_running hst])
  case fab =>
    obtain ⟨fails, unreadable, heq⟩ := fabricStart_stopped hst hreasons
    rw [startFabric_locked (by exact hlight)] at heq
    rw [heq] at hfabOne
    exact ⟨_, hfabOne, rfl, rfl, rfl⟩
  case cascStops => exact hcascZero.trans (by rw [State.cascadeStop, setObj_of_default _ 0 hcascDefault]; rfl)
  case cascRuns => exact hcascOne.trans (by rw [cascadeStart_running hst])
  case casc =>
    obtain ⟨fails, unreadable, heq⟩ := cascadeStart_stopped hst hreasons
    obtain ⟨tokens, casc, hframe, hstate, hjoined, hlost, htokens⟩ := startCascade_eq { s with
      dict := { s.dict with objs := mset 0 s.dict.objs 0x340002 1, fails := fails }
      fw := { s.fw with unreadable := unreadable } }
    rw [heq, hframe] at hcascOne
    exact ⟨_, hcascOne, hstate, hjoined, hlost, htokens, rfl⟩

end Sys2Proof.Machine
end

section
/-! SUPPORT. Writes that open and close sessions and the field port, that abort a queue, and that ask for a capture or a doorbell,
and the statements about them (11 R424 to R426, 12 R450 to R452, 05 R211, 08 R317, 09 R378). -/

set_option Elab.async false

namespace Sys2Proof.Machine

/-! ### What an event leaves of the dictionary and of the ports -/

section
variable (s : State) (kind severity code payload : Nat)

theorem event_fp : (s.event kind severity code payload).fp = { s.fp with
    evt := (s.event kind severity code payload).fp.evt, late := (s.event kind severity code payload).fp.late } := by
  unfold State.event State.fpEvent; dsimp only; split_ifs <;> rfl

theorem event_hl : (s.event kind severity code payload).hl =
    { s.hl with evtQueue := (s.event kind severity code payload).hl.evtQueue } := by
  unfold State.event State.fpEvent; dsimp only; split_ifs <;> rfl

theorem event_dict : ∃ seq log, (s.event kind severity code payload).dict = { s.dict with seq := seq, log := log } := by
  unfold State.event State.fpEvent
  dsimp only
  split_ifs <;> exact ⟨_, _, rfl⟩

/-- The objects that the dictionary stores read after an event as before it. -/
theorem event_obj (index sub : Nat) : (s.event kind severity code payload).obj index sub = s.obj index sub := by
  obtain ⟨seq, log, hdict⟩ := event_dict s kind severity code payload
  simp only [State.obj, hdict]

end

/-! ### Objects and their values -/

/-- Scalars without stated bounds, whose objects name no set either. -/
theorem inRange_unbounded {index sub ty v : Nat} (hrow : (objRow index sub).map (fun x => (x.1.range, x.1.ty)) = some (none, ty))
    (hty : ty ≠ 0 ∧ ty ≠ 7) (hset : (index, sub) ∈ [(0x0400, 4), (0x6000, 6), (0x6000, 0x0A), (0x6800, 6)]) :
    inRange index sub v = true := by
  obtain ⟨⟨r, i⟩, hobj, hfields⟩ := Option.map_eq_some_iff.mp hrow
  obtain ⟨hr, rfl⟩ := Prod.mk.inj hfields
  dsimp only at hr hty
  simp only [List.mem_cons, Prod.mk.injEq, List.not_mem_nil, or_false] at hset
  rcases hset with ⟨rfl, rfl⟩ | ⟨rfl, rfl⟩ | ⟨rfl, rfl⟩ | ⟨rfl, rfl⟩ <;> simp [inRange, hobj, hr, hty]

section
variable {s t : State} {p : Port} {index sub : Nat} {a : Ans}

theorem reply_some (t : State) (a : Ans) : reply p index sub (t, some a) = t.answer p index sub a := rfl

/-- A whole BLOB that acts and answers at once. -/
theorem live_write_blob {k acc kept owner : Nat} (d : BitVec (8 * k)) (h : Writes p s) (hwait : s.mustWait index sub = none)
    (hshape : objShape index sub = some (acc, 9, k, kept, owner)) (hacc : acc = 1 ∨ acc = 2)
    (hcal : ¬ (index = 0x4800 ∧ sub = 6)) (hsleep : (index, sub) ≠ (0x5000, 0x0C))
    (hden : s.accessDenied p index sub d.toNat = false) (hact : s.act p index sub d.toNat (leBytes k d.toNat) = some (t, some a)) :
    s.live (s.portWrite p index sub (leBytes k d.toNat)) = .next (t.answer p index sub a) :=
  live_write_done h hwait (leNat_leBytes_toNat d)
    (writeRefusal_blob hshape hacc hcal hsleep (leBytes_length k _) ((leNat_leBytes_toNat d).symm ▸ hden)) hact

/-- A whole scalar passes the checks of a write where its value does. -/
theorem writeRefusal_scalar {k acc ty kept owner : Nat} (d : BitVec (8 * k))
    (hshape : objShape index sub = some (acc, ty, k, kept, owner)) (hacc : acc = 1 ∨ acc = 2)
    (hcal : ¬ (index = 0x4800 ∧ sub = 6)) (hden : s.accessDenied p index sub d.toNat = false)
    (hres : reservedSet index sub d.toNat = false) (hrange : inRange index sub d.toNat = true) :
    s.writeRefusal p index sub (leBytes k d.toNat) 0 = none := by
  rw [← leNat_leBytes_toNat d] at hden hres hrange
  exact writeRefusal_none hshape hacc hcal (leBytes_length k _) hden (.inr ⟨hres, .inr hrange⟩)

end

/-! ### The field port -/

section
variable {s : State} {p : Port}

theorem live_write_fpEnable (h : Writes p s) :
    s.live (s.portWrite p 0x0500 2 [1]) = .next (s.fpStart.1.answer p 0x0500 2 s.fpStart.2) ∧
    s.live (s.portWrite p 0x0500 2 [0]) = .next (s.fpStop.answer p 0x0500 2 (.ok [])) := by
  have hwait : s.mustWait 0x0500 2 = none := mustWait_of_keeper rfl
  have hrange : inRange 0x0500 2 1 = true ∧ inRange 0x0500 2 0 = true := by decide +kernel
  exact ⟨live_write_done h hwait leNat_one
      (writeRefusal_bool leNat_one shape_fpEnable (.inl rfl) (by decide) rfl rfl hrange.1) rfl,
    live_write_done h hwait leNat_zero
      (writeRefusal_bool leNat_zero shape_fpEnable (.inl rfl) (by decide) rfl rfl hrange.2) rfl⟩

theorem objDefault_fpEnable : (objRow 0x0500 2).map (fun x => rowDefault x.1 x.2) = some 0 := by decide +kernel

/-- The device with its field port's checks passed, fp.enable at 1 and the token bucket full. -/
def State.fpChecked (s : State) (fails : List Fail) (unreadable : List Nat) : State :=
  let t : State := { s with
    dict := { s.dict with objs := mset 0 s.dict.objs 0x50002 1, fails := fails }
    fw := { s.fw with unreadable := unreadable } }
  { t with fp := { t.fp with tokens := t.obj 0x0500 9, refillAt := none } }

/-- fp.enable reads 1 from then on. -/
theorem obj_fpChecked (s : State) (fails : List Fail) (unreadable : List Nat) :
    (s.fpChecked fails unreadable).obj 0x0500 2 = 1 := by
  obtain ⟨⟨r, i⟩, hrow, hdefault⟩ := Option.map_eq_some_iff.mp objDefault_fpEnable
  dsimp only at hdefault
  simp only [State.obj, hrow, hdefault, State.fpChecked]
  exact mget_mset_ne 0 _ 0x50002 1 (by decide)

/-- An enabled port that is enabled again stays as it is. -/
theorem fpStart_enabled (h : s.obj 0x0500 2 = 1) : s.fpStart = (s, .ok []) := if_pos h

/-- A stopped port whose settings pass their checks recovers from bus-off, or starts. -/
theorem fpStart_stopped (h : s.obj 0x0500 2 ≠ 1) (hfaults : s.fpFaults = []) : ∃ fails unreadable,
    s.fpStart = (if s.fp.state = .busOff ∨ 255 < s.fp.txErr
      then { s.fpChecked fails unreadable with fp := { (s.fpChecked fails unreadable).fp with recovering := true } }
      else (s.fpChecked fails unreadable).fpEnter (if s.fp.silentPin then .pinned else .active), .ok []) := by
  obtain ⟨fails, unreadable, hchecked⟩ := checked_nil s 4 127
  refine ⟨fails, unreadable, ?_⟩
  simp only [State.fpStart, if_neg h, hfaults, ne_eq, not_true_eq_false, if_false, hchecked,
    setObj_of_default _ 1 objDefault_fpEnable]
  split_ifs <;> rfl

/-- The port's state is another one; an open transfer ends outside Active. -/
def State.fpIn (s : State) (st : FpSt) : State :=
  { s with fp := { s.fp with state := st, seg := if st = FpSt.active then s.fp.seg else none, pinnedWait := false } }

/-- A port that enters another state raises its event. -/
theorem fpEnter_other {st : FpSt} (h : s.fp.state ≠ st) : s.fpEnter st = (s.fpIn st).event 4 0 4 st.code := if_neg h

theorem fpEnter_same {st : FpSt} (h : s.fp.state = st) : s.fpEnter st = s := if_pos h

end

/-- Settles O20: each write of fp.enable is what starting or stopping the port comes to. -/
theorem fieldPortIsEnabledAndDisabled : Obligations.FieldPortIsEnabledAndDisabled := by
  intro tag s h
  obtain ⟨hone, hzero⟩ := live_write_fpEnable h
  have hstop : s.fpStop = ({ s with
      fp := { s.fp with recovering := false }, dict := { s.dict with objs := mset 0 s.dict.objs 0x50002 0 } }).fpEnter .silent := by
    rw [State.fpStop, setObj_of_default _ 0 objDefault_fpEnable]
  refine ⟨fun hon => ?enabled, fun hoff hfaults hst herr => ?starts, fun hoff hfaults hrec => ?recovers,
    fun hst => ?silent, fun hst => ?stops⟩
  case enabled => exact hone.trans (by rw [fpStart_enabled hon])
  case starts =>
    obtain ⟨fails, unreadable, heq⟩ := fpStart_stopped hoff hfaults
    have hrec : ¬ (s.fp.state = .busOff ∨ 255 < s.fp.txErr) := by rw [hst]; simpa using herr
    have hother : (s.fpChecked fails unreadable).fp.state ≠ if s.fp.silentPin then .pinned else .active := by
      rw [State.fpChecked]
      dsimp only
      rw [hst]
      split_ifs <;> decide
    rw [heq, if_neg hrec, fpEnter_other hother] at hone
    refine ⟨_, (s.fpChecked fails unreadable).fpIn (if s.fp.silentPin then .pinned else .active), hone, ?state, ?refill, ?obj,
      ?event, rfl⟩
    case state => rw [event_fp]; rfl
    case refill => rw [event_fp]; rfl
    case obj => exact (event_obj _ _ _ _ _ _ _).trans (obj_fpChecked s fails unreadable)
    case event => rw [event_fp]; rfl
  case recovers =>
    obtain ⟨fails, unreadable, heq⟩ := fpStart_stopped hoff hfaults
    rw [heq, if_pos hrec] at hone
    exact ⟨_, hone, rfl, rfl⟩
  case silent => exact hzero.trans (by rw [hstop, fpEnter_same (by exact hst)])
  case stops => exact hzero.trans (by rw [hstop, fpEnter_other (by exact hst)]; rfl)

/-! ### Sessions -/

theorem live_write_level {s : State} {p : Port} (h : Writes p s) (level : BitVec 16) :
    s.live (s.portWrite p 0x0400 4 (leBytes 2 level.toNat)) =
      .next ((s.sessionOpen level.toNat).1.answer p 0x0400 4 (s.sessionOpen level.toNat).2) :=
  live_write_done h (mustWait_of_keeper rfl) (leNat_leBytes_toNat (k := 2) level)
    (writeRefusal_scalar (k := 2) level shape_session (.inl rfl) (by decide) rfl rfl
      (inRange_unbounded (ty := 2) (by decide +kernel) (by decide) (by decide))) rfl

section
variable {s : State} {level : Nat}

theorem sessionOpen_open (h : s.hl.session = true) : s.sessionOpen level = (s, .refused 4) := if_pos h

theorem sessionOpen_below (h : s.hl.session = false) (hlow : level < s.barkerBundle.hostMin) :
    s.sessionOpen level = (s, .refused 1) := by
  simp only [State.sessionOpen, h, Bool.false_eq_true, if_false, if_pos hlow]

theorem sessionOpen_above (h : s.hl.session = false) (hlow : s.barkerBundle.hostMin ≤ level)
    (hhigh : s.barkerBundle.hostMax < level) : s.sessionOpen level = (s, .refused 2) := by
  simp only [State.sessionOpen, h, Bool.false_eq_true, if_false, if_neg (not_lt.mpr hlow), if_pos hhigh]

theorem sessionOpen_inside (h : s.hl.session = false) (hlow : s.barkerBundle.hostMin ≤ level)
    (hhigh : level ≤ s.barkerBundle.hostMax) : s.sessionOpen level = ({ s with hl := { s.hl with
      session := true, level := level, sessions := (s.hl.sessions + 1) % 65536, evtTail := 0, evtHead := 0 } }, .ok []) := by
  simp only [State.sessionOpen, h, Bool.false_eq_true, if_false, if_neg (not_lt.mpr hlow), if_neg (not_lt.mpr hhigh)]

end

/-! ### Writes of registers of the window (11 Host link tables 2, 5) -/

section
variable {tag off : Nat} (htag : tag < 2 ^ 12) (hoff : off < 2 ^ 16)
include htag hoff

/-- The header of an MWR of one register: its type, the space of the window, its tag, 8 bytes, its offset, and zeros. -/
theorem windowHeader_eq : hostHeader 4 tag 8 off 3 = 4 + 3 * 2 ^ 8 + tag * 2 ^ 12 + 8 * 2 ^ 32 + off * 2 ^ 64 := by
  have hoff64 : off < 2 ^ 64 := hoff.trans (by norm_num)
  simp only [hostHeader, field, Nat.mod_eq_of_lt htag, Nat.mod_eq_of_lt hoff64]
  omega

theorem windowHeader_fields : let h := hostHeader 4 tag 8 off 3
    bits h 0 8 = 4 ∧ bits h 8 2 = 3 ∧ bits h 12 12 = tag ∧ bits h 32 13 = 8 ∧ bits h 64 64 = off := by
  simp only [windowHeader_eq htag hoff, bits_eq_div_mod]
  omega

theorem windowHeader_zeros : let h := hostHeader 4 tag 8 off 3
    bits h 10 2 = 0 ∧ bits h 24 8 = 0 ∧ bits h 45 19 = 0 ∧ bits h 128 64 = 0 ∧ bits h 192 32 = 0 := by
  simp only [windowHeader_eq htag hoff, bits_eq_div_mod]
  omega

theorem badHeader_windowHeader : badHeader (hostHeader 4 tag 8 off 3) = false := by
  obtain ⟨hty, hspace, -, hlen, -⟩ := windowHeader_fields htag hoff
  obtain ⟨hbeside, hbelow, habove, hvalue, hdetail⟩ := windowHeader_zeros htag hoff
  simp [badHeader, hty, hspace, hlen, hbeside, hbelow, habove, hvalue, hdetail]

/-- A register write touches no memory, so no stack's block reset holds it. -/
theorem hostWaits_windowHeader (s : State) (data : List Byte) : s.hostWaits (hostHeader 4 tag 8 off 3) data = false := by
  obtain ⟨-, hspace, -⟩ := windowHeader_fields htag hoff
  simp [State.hostWaits, hspace]

/-- On a link that is Up, with no request waiting, an MWR of an aligned register is served when it arrives. -/
theorem hostCommand_window {s : State} (hup : s.hl.state = .up) (hheld : s.hl.held = []) (hspan : badSpan 3 off 8 = false)
    (v : BitVec 64) : s.hostCommand (hostHeader 4 tag 8 off 3) (leBytes 8 v.toNat) = s.windowWrite tag off v.toNat := by
  obtain ⟨hty, hspace, hfield, -, haddr⟩ := windowHeader_fields htag hoff
  have hval : leNat (leBytes 8 v.toNat) = v.toNat := leNat_leBytes_toNat (k := 8) v
  simp only [State.hostCommand, State.hostOpen, State.hostOrder, hup, hheld, hostWaits_windowHeader htag hoff,
    State.serveHost, badHeader_windowHeader htag hoff, hty, hspace, hfield, haddr, leBytes_length, hspan, hval,
    decide_true, ne_eq, not_true_eq_false, Bool.false_eq_true, or_self, if_true, if_false]

end

/-- SESSION_CLOSE is answered with what its write gives. -/
theorem exec_sessionClose {s : State} {tag : BitVec 12} (h : Reaches (.host tag.toNat) s) (v : BitVec 64) :
    exec (.sessionClose tag v) s = .next ((s.writeClose v.toNat).1.answer (.host tag.toNat) 0 0 (s.writeClose v.toNat).2) := by
  obtain ⟨hrun, hbarker, -, hup, hheld⟩ := h
  have hserved : s.barker = true := hbarker
  show s.live (s.hostCommand (hostHeader 4 tag.toNat 8 0x2010 3) (leBytes 8 v.toNat)) = _
  rw [live_running hrun, hostCommand_window tag.isLt (by norm_num) hup hheld (by decide)]
  simp [State.windowWrite, hserved]

/-- Settles O21: a session opens in the window of levels and is refused by the first check that fails, and a write of 1
closes it. -/
theorem sessionsOpenAndClose : Obligations.SessionsOpenAndClose := by
  refine ⟨fun p level s h hclosed hlow hhigh => ?opens,
    fun tag level s h => ⟨fun hopen => ?already, fun hclosed hlow => ?below, fun hclosed hlow hhigh => ?above⟩,
    fun tag v s h => ⟨fun hv => ?closes, fun hv => ?nothing, fun h0 h1 => ?refused⟩⟩
  case opens => exact (live_write_level h level).trans (by rw [sessionOpen_inside hclosed hlow hhigh])
  case already => exact (live_write_level h level).trans (by rw [sessionOpen_open hopen])
  case below => exact (live_write_level h level).trans (by rw [sessionOpen_below hclosed hlow])
  case above => exact (live_write_level h level).trans (by rw [sessionOpen_above hclosed hlow hhigh])
  case closes => rw [exec_sessionClose h, hv]; rfl
  case nothing => rw [exec_sessionClose h, hv]; rfl
  case refused =>
    have h0' : v.toNat ≠ 0 := fun hv => h0 (BitVec.eq_of_toNat_eq hv)
    have h1' : v.toNat ≠ 1 := fun hv => h1 (BitVec.eq_of_toNat_eq hv)
    rw [exec_sessionClose h, State.writeClose, if_neg h0', if_neg h1']

/-! ### Queue aborts, captures and doorbells -/

section
variable {s : State} {p : Port}

theorem pulse_one (s t : State) : s.pulse t 1 = (t, some (.ok [])) := rfl

theorem accessDenied_abort (q : Fin 4) (v : Nat) : s.accessDenied p (0x1810 + q) 5 v = false := by
  unfold State.accessDenied
  split
  any_goals omega
  rfl

theorem act_abort (q : Fin 4) (v : Nat) (data : List Byte) : s.act p (0x1810 + q) 5 v data = none := by
  unfold State.act
  split
  any_goals omega
  rfl

theorem actFamily_abort (q : Fin 4) : s.actFamily (0x1810 + q) 5 1 = some (s.abortQueue q, some (.ok [])) := by
  have hregion : ¬ (0x1100 ≤ 0x1810 + (q : Nat) ∧ 0x1810 + (q : Nat) < 0x1200) := by omega
  have habort : 0x1810 ≤ 0x1810 + (q : Nat) ∧ 0x1810 + (q : Nat) ≤ 0x1813 ∧ 5 = 5 := by omega
  rw [State.actFamily, if_neg hregion, if_pos habort, Nat.add_sub_cancel_left, pulse_one]

theorem live_write_abort (h : Writes p s) (q : Fin 4) :
    s.live (s.portWrite p (0x1810 + q) 5 [1]) = .next ((s.abortQueue q).answer p (0x1810 + q) 5 (.ok [])) := by
  have hkeeper : ∀ q : Fin 4, keeper (0x1810 + q) 5 = none := by decide
  have hres : ∀ q : Fin 4, reservedSet (0x1810 + q) 5 1 = false := by decide
  have hrange : ∀ q : Fin 4, inRange (0x1810 + q) 5 1 = true := by decide +kernel
  have href : s.writeRefusal p (0x1810 + q) 5 [1] 0 = none :=
    writeRefusal_bool leNat_one (shape_abort q) (.inr rfl) (by omega) (accessDenied_abort q 1) (hres q) (hrange q)
  rw [live_write_family h (mustWait_of_keeper (hkeeper q)) leNat_one href (act_abort q 1 _) (actFamily_abort q), reply_some]

/-- Where no op is admitted, an abort cancels the submissions that were not read. -/
theorem abortQueue_of_no_ops (q : Nat) (h : s.ops = []) :
    s.abortQueue q = (s.cancelUnread q ((s.queue q).submitted - (s.queue q).admitted)).settle := by
  simp only [State.abortQueue, h, List.filter_nil, List.foldl_nil]

/-- What a request for a capture answers. -/
def captureReply (x : State × Bool) : Ans := if x.2 then .ok [] else .err errValue 0

theorem live_write_capture (h : Writes p s) (v : BitVec 128) :
    s.live (s.portWrite p 0x4800 7 (leBytes 16 v.toNat)) =
      .next ((s.requestCapture v.toNat).1.answer p 0x4800 7 (captureReply (s.requestCapture v.toNat))) :=
  live_write_blob (k := 16) v h (mustWait_of_keeper rfl) shape_capture (.inr rfl) (by decide) (by decide) rfl rfl

theorem live_write_doorbell (h : Writes p s) (v : BitVec 64) :
    s.live (s.portWrite p 0x3000 0x10 (leBytes 8 v.toNat)) =
      .next ((s.writeDoorbell v.toNat).1.answer p 0x3000 0x10 (s.writeDoorbell v.toNat).2) :=
  live_write_blob (k := 8) v h (mustWait_of_keeper rfl) shape_doorbell (.inr rfl) (by decide) (by decide) rfl rfl

end

/-- Settles O23: an abort, a capture request and a doorbell are each what their rule makes of them. -/
theorem queueAbortCaptureAndDoorbellWrites : Obligations.QueueAbortCaptureAndDoorbellWrites := by
  intro p s h
  refine ⟨live_write_abort h, fun q => abortQueue_of_no_ops q, fun v hok hfree => ?capture, fun v hbad => ?noCapture,
    fun v hlow hhigh hlevel => ⟨fun hfree => ?doorbell, fun hbusy => ?busy⟩, fun v hlow => ?reserved⟩
  case capture =>
    refine (live_write_capture h v).trans ?_
    rw [State.requestCapture, if_pos ⟨hok, hfree⟩]
    rfl
  case noCapture =>
    have hnot : ¬ (captureOk v.toNat = true ∧ s.captureOn = none) := fun ⟨hok, hfree⟩ =>
      hbad.elim (fun hbad => Bool.noConfusion (hbad.symm.trans hok)) (· hfree)
    refine (live_write_capture h v).trans ?_
    rw [State.requestCapture, if_neg hnot]
    rfl
  case doorbell => exact (live_write_doorbell h v).trans (by simp [State.writeDoorbell, hlow, hhigh, hlevel, hfree])
  case busy => exact (live_write_doorbell h v).trans (by simp [State.writeDoorbell, hlow, hhigh, hlevel, hbusy])
  case reserved => exact (live_write_doorbell h v).trans (by simp [State.writeDoorbell, hlow])

end Sys2Proof.Machine
end

section
/-! SUPPORT. Writes of the firmware page, of the reset and power requests and of the security page, and the statements about them
(13 R468 to R474, 14 R494, R496, 15 R518, 16 R544 to R549). -/

set_option Elab.async false

namespace Sys2Proof.Machine

/-! ### Firmware: restarts, commits, activations -/

/-- The upper part of a 128-bit value, as its bits. -/
theorem shiftRight_eq_bits (v : BitVec 128) : v.toNat >>> 64 = bits v.toNat 64 64 := by
  rw [bits_eq_div_mod, Nat.shiftRight_eq_div_pow]
  have hlt := v.isLt
  omega

section
variable {s : State} {p : Port}

theorem live_write_restart (h : Writes p s) (n : BitVec 8) :
    s.live (s.portWrite p 0x6000 0x0A (leBytes 1 n.toNat)) = .next (reply p 0x6000 0x0A (s.writeRestart p n.toNat)) :=
  live_write_act h (mustWait_of_keeper rfl) (leNat_leBytes_toNat (k := 1) n)
    (writeRefusal_scalar (k := 1) n shape_restart (.inr rfl) (by decide) rfl rfl
      (inRange_unbounded (ty := 1) (by decide +kernel) (by decide) (by decide))) rfl

theorem live_write_commit (h : Writes p s) (v : BitVec 128) : s.live (s.portWrite p 0x6000 3 (leBytes 16 v.toNat)) =
    .next ((s.commitWrite v.toNat).1.answer p 0x6000 3 (s.commitWrite v.toNat).2) :=
  live_write_blob (k := 16) v h (mustWait_of_keeper rfl) shape_commit (.inr rfl) (by decide) (by decide) rfl rfl

theorem live_write_activate (h : Writes p s) (v : BitVec 32) : s.live (s.portWrite p 0x6000 6 (leBytes 4 v.toNat)) =
    .next ((s.activateWrite v.toNat).1.answer p 0x6000 6 (s.activateWrite v.toNat).2) :=
  live_write_done h (mustWait_of_keeper rfl) (leNat_leBytes_toNat (k := 4) v)
    (writeRefusal_scalar (k := 4) v shape_activate (.inr rfl) (by decide) rfl rfl
      (inRange_unbounded (ty := 3) (by decide +kernel) (by decide) (by decide))) rfl

theorem live_write_bootLoad (h : Writes p s) (v : BitVec 128) : s.live (s.portWrite p 0x5800 0x0A (leBytes 16 v.toNat)) =
    .next ((s.bootLoad v.toNat).1.answer p 0x5800 0x0A (s.bootLoad v.toNat).2) :=
  live_write_blob (k := 16) v h (mustWait_of_keeper rfl) shape_bootLoad (.inr rfl) (by decide) (by decide) rfl rfl

end

section
variable {s : State} {v : Nat}

/-- A span of staging SRAM that a commit or a boot load may name: its upper bits 0, at a 4 KiB boundary, inside the SRAM. -/
def spanOk (v : Nat) : Prop := v >>> 64 = 0 ∧ bits v 0 32 % 4096 = 0 ∧ bits v 0 32 + bits v 32 32 ≤ stagingSize

theorem not_badSpan (h : spanOk v) :
    ¬ (v >>> 64 ≠ 0 ∨ bits v 0 32 % 4096 ≠ 0 ∨ stagingSize < bits v 0 32 + bits v 32 32) := by
  obtain ⟨hupper, halign, hinside⟩ := h
  simp [hupper, halign, hinside]

theorem commitWrite_no_bank (hspan : spanOk v) (hbank : s.targetBank = none) :
    s.commitWrite v = ({ s with fw := { s.fw with commitReason := 1, commitSt := 4 } }, .err errValue 1) := by
  simp only [State.commitWrite, if_neg (not_badSpan hspan), hbank, Option.isNone_none, if_true]

theorem commitWrite_committing (hspan : spanOk v) (hbank : s.targetBank.isSome = true) (hbusy : s.committing = true) :
    s.commitWrite v = ({ s with fw := { s.fw with commitReason := 2 } }, .err errValue 2) := by
  have hsome : s.targetBank.isNone = false := by rw [← Option.not_isSome, hbank, Bool.not_true]
  simp only [State.commitWrite, if_neg (not_badSpan hspan), hsome, Bool.false_eq_true, if_false, hbusy, true_or, if_true]

theorem commitWrite_begins (hspan : spanOk v) (hbank : s.targetBank.isSome = true) (hfree : s.committing = false)
    (hidle : s.activating = false) : s.commitWrite v = ({ s with fw := { s.fw with
      commitSt := 1, commitReason := 0, commitReq := (bits v 0 32, bits v 32 32) } }, .ok []) := by
  have hsome : s.targetBank.isNone = false := by rw [← Option.not_isSome, hbank, Bool.not_true]
  simp only [State.commitWrite, if_neg (not_badSpan hspan), hsome, Bool.false_eq_true, if_false, hfree, hidle, or_self]

end

/-- The value of FW_ACTIVATE for one processor and a bank, by its fields. -/
theorem activate_fields (n : Fin 102) (b : Fin 2) : let v := (BitVec.ofNat 32 (n + 256 * b)).toNat
    bits v 0 7 = n ∧ bits v 8 1 = b ∧ v = field 0 7 n + field 8 1 b := by
  simp only [BitVec.toNat_ofNat, bits_eq_div_mod, field]
  omega

section
variable {s : State} {n : Fin 102} {b : Fin 2}

/-- The value names one processor that exists. -/
theorem activate_named (n : Fin 102) (b : Fin 2) : let v := (BitVec.ofNat 32 (n + 256 * b)).toNat
    ¬ (v ≠ field 0 7 n + field 8 1 b ∨ (102 ≤ (n : Nat) ∧ (n : Nat) ≠ 127)) := by
  obtain ⟨-, -, hval⟩ := activate_fields n b
  dsimp only
  rw [← hval]
  omega

theorem activateWrite_refused {r : Nat} (h : s.activationRefusal n b = some r) (hidle : s.activating = false) :
    s.activateWrite (BitVec.ofNat 32 (n + 256 * b)).toNat =
      ({ s with fw := { s.fw with actReason := r, actSt := 5 } }, .err errValue r) := by
  obtain ⟨hproc, hbank, -⟩ := activate_fields n b
  simp only [State.activateWrite, hproc, hbank, if_neg (activate_named n b), h, hidle, Bool.false_eq_true, if_false]

theorem activateWrite_begins (h : s.activationRefusal n b = none) (hbank : s.bankOf n ≠ b) :
    s.activateWrite (BitVec.ofNat 32 (n + 256 * b)).toNat = ({ s with fw := { s.fw with
      actBank := b, actList := [n.val], actReason := 0, actSt := 1, actCurrent := n } }, .ok []) := by
  obtain ⟨hproc, hbankField, -⟩ := activate_fields n b
  have hone : ¬ ((n : Nat) = 127) := by omega
  have hlist : [n.val].filter (fun q => decide (s.bankOf q ≠ b) || s.fw.fromHost) = [n.val] := by simp [hbank]
  simp only [State.activateWrite, hproc, hbankField, if_neg (activate_named n b), h, if_neg hone, hlist,
    List.cons_ne_nil, if_false, State.nextActivation]

end

/-! ### Boot loads -/

section
variable {s : State} {v : Nat}

/-- Updates of processors change the processors alone. -/
theorem foldl_modProc_frame (f : Proc → Proc) (ps : List Nat) (s : State) :
    ∃ procs, ps.foldl (fun s p => s.modProc p f) s = { s with procs := procs } := by
  induction ps generalizing s with
  | nil => exact ⟨s.procs, rfl⟩
  | cons p ps ih => exact ih (s.modProc p f)

theorem bootLoad_outside (h : s.strapBoot ≠ 2 ∨ s.rst.step ≠ 3) : s.bootLoad v = (s, .err errAccess 0) := if_pos h

/-- Within step 3 of a host boot a boot load is not answered ACCESS. -/
theorem not_outside (hstrap : s.strapBoot = 2) (hstep : s.rst.step = 3) : ¬ (s.strapBoot ≠ 2 ∨ s.rst.step ≠ 3) := by
  simp [hstrap, hstep]

theorem bootLoad_bad {e : Nat} (hstrap : s.strapBoot = 2) (hstep : s.rst.step = 3) (hspan : spanOk v)
    (hverify : s.verifyBundle (s.staging (bits v 0 32) (bits v 32 32)) = .error e) :
    s.bootLoad v = ({ s with fw := { s.fw with commitReason := 4 } }, .ok []) := by
  simp only [State.bootLoad, if_neg (not_outside hstrap hstep), if_neg (not_badSpan hspan), hverify]

theorem bootLoad_good {b : Bundle} (hstrap : s.strapBoot = 2) (hstep : s.rst.step = 3) (hspan : spanOk v)
    (hverify : s.verifyBundle (s.staging (bits v 0 32) (bits v 32 32)) = .ok b) : ∃ procs, s.bootLoad v =
      (State.enterStep { s with
        fw := { s.fw with fromHost := true, bundles := mset {} s.fw.bundles 2 b }, procs := procs } 4, .ok []) := by
  obtain ⟨procs, hprocs⟩ := foldl_modProc_frame (fun x => { x with version := b.version, activated := false })
    (List.range 102) { s with fw := { s.fw with fromHost := true, bundles := mset {} s.fw.bundles 2 b } }
  refine ⟨procs, ?_⟩
  simp only [State.bootLoad, if_neg (not_outside hstrap hstep), if_neg (not_badSpan hspan), hverify, hprocs]

/-- Step 4 begins with nothing else done. -/
theorem enterStep_four (s : State) : s.enterStep 4 = { s with rst := { s.rst with step := 4, group := max s.rst.group 4 } } := rfl

end

/-- Settles O24: each write of the firmware page is what its rule makes of it. -/
theorem firmwareWritesAreAccepted : Obligations.FirmwareWritesAreAccepted := by
  intro p s h
  have hspan : ∀ v : BitVec 128, bits v.toNat 64 64 = 0 → bits v.toNat 0 32 % 4096 = 0 →
      bits v.toNat 0 32 + bits v.toNat 32 32 ≤ stagingSize → spanOk v.toNat :=
    fun v hupper halign hinside => ⟨(shiftRight_eq_bits v).trans hupper, halign, hinside⟩
  refine ⟨fun n hn => ?restart, fun n hn => ?noProcessor, fun v hupper halign hinside => ⟨fun hfree hidle hbank => ?begins,
      fun hbusy hbank => ?busy, fun hbank => ?noBank⟩,
    fun n b hok hbank => ?activates, fun n b r hr hidle => ?refused, fun v hout => ?outside,
    fun v hstrap hstep hupper halign hinside => ?boot⟩
  case restart =>
    refine (live_write_restart h n).trans ?_
    rw [State.writeRestart, if_neg (not_le.mpr hn)]
    rfl
  case noProcessor =>
    refine (live_write_restart h n).trans ?_
    rw [State.writeRestart, if_pos hn]
    rfl
  case begins =>
    exact (live_write_commit h v).trans (by rw [commitWrite_begins (hspan v hupper halign hinside) hbank hfree hidle])
  case busy =>
    exact (live_write_commit h v).trans (by rw [commitWrite_committing (hspan v hupper halign hinside) hbank hbusy])
  case noBank => exact (live_write_commit h v).trans (by rw [commitWrite_no_bank (hspan v hupper halign hinside) hbank])
  case activates => exact (live_write_activate h _).trans (by rw [activateWrite_begins hok hbank])
  case refused => exact (live_write_activate h _).trans (by rw [activateWrite_refused hr hidle])
  case outside => exact (live_write_bootLoad h v).trans (by rw [bootLoad_outside hout])
  case boot =>
    have hexec := live_write_bootLoad h v
    have hok := hspan v hupper halign hinside
    cases hverify : s.verifyBundle (s.staging (bits v.toNat 0 32) (bits v.toNat 32 32)) with
    | error e =>
      rw [bootLoad_bad hstrap hstep hok hverify] at hexec
      exact ⟨_, hexec, rfl⟩
    | ok b =>
      obtain ⟨procs, heq⟩ := bootLoad_good hstrap hstep hok hverify
      rw [heq, enterStep_four] at hexec
      exact ⟨_, hexec, rfl, rfl, rfl, rfl⟩

end Sys2Proof.Machine
end

section
/-! SUPPORT. Requests for resets and power states and writes of the security page, and the statements about them (14 R494, R496,
15 R518, 16 R541, R544 to R549). -/

set_option Elab.async false

namespace Sys2Proof.Machine

/-! ### What a reset leaves (14 R490, R491) -/

/-- Settling the NV store changes it and the count of free choices alone. -/
theorem settleNv_frame (s : State) : ∃ i nv, s.settleNv = { s with freeCtr := i, dict := { s.dict with nv := nv } } := by
  unfold State.settleNv
  generalize s.dict.nvDue = due
  induction due generalizing s with
  | nil => exact ⟨s.freeCtr, s.dict.nv, rfl⟩
  | cons e due ih =>
    rw [List.foldl_cons]
    dsimp only [State.draw]
    split_ifs
    all_goals
      obtain ⟨i, nv, heq⟩ := ih _
      exact ⟨i, nv, heq⟩

section
variable (s : State) (cold : Bool)

/-- Of the host link a reset keeps what has been sent. -/
theorem cleared_hl : (s.cleared cold).hl = { tx := s.hl.tx } := by
  obtain ⟨i, nv, heq⟩ := settleNv_frame s
  simp only [State.cleared, heq]

theorem cleared_pwr : (s.cleared cold).pwr = {
    trip := s.pwr.trip, tripAt := s.pwr.tripAt, vrAlert := s.pwr.vrAlert, seqOff := !cold && s.pwr.seqOff, pmbus := s.pwr.pmbus
    state := if s.pwr.seqOff ∧ ¬ cold then 1 else 3, lastWake := if cold then 0 else s.pwr.lastWake } := by
  obtain ⟨i, nv, heq⟩ := settleNv_frame s
  simp only [State.cleared, heq]

end

/-- A reset asserted while no other is leaves what it clears, and records its level, its cause, the step and the time. -/
theorem assertReset_of_live {s : State} (level cause : Nat) (h : s.dark = false) : let t := s.cleared (decide (level = 1))
    s.assertReset level cause = { t with rst := { t.rst with
      asserted := some level, record := some (level, cause)
      backup := if level = 1 then t.rst.backup
        else mset 0 (mset 0 t.rst.backup 2 (if s.rst.step < 10 then s.rst.step else 10)) 3 (s.time % 2 ^ 64) } } := by
  have hnone : s.rst.asserted = none := by simpa [State.dark] using h
  simp only [State.assertReset, hnone]
  split_ifs <;> rfl

section
variable {s : State} {level cause : Nat} (h : s.dark = false)
include h

theorem assertReset_dark : (s.assertReset level cause).dark = true := by rw [assertReset_of_live level cause h]; rfl

theorem assertReset_hl : (s.assertReset level cause).hl = { tx := s.hl.tx } := by
  rw [assertReset_of_live level cause h]
  exact cleared_hl s (decide (level = 1))

theorem assertReset_pwr : (s.assertReset level cause).pwr = (s.cleared (decide (level = 1))).pwr := by
  rw [assertReset_of_live level cause h]

end

/-! ### Reset requests (14 R494, R496) -/

section
variable {s : State} {p : Port} {index sub : Nat} {data : List Byte}

/-- A write that its object's own conditions deny. -/
theorem writeRefusal_of_denied {acc ty size kept owner : Nat} (hshape : objShape index sub = some (acc, ty, size, kept, owner))
    (hacc : acc = 1 ∨ acc = 2) (hden : s.accessDenied p index sub (leNat data) = true) :
    s.writeRefusal p index sub data 0 = some (.err errAccess 0) := by
  obtain ⟨⟨r, i⟩, hrow, hfields⟩ := Option.map_eq_some_iff.mp hshape
  have hr : r.acc = acc := congrArg Prod.fst hfields
  have hwritable : r.acc ≠ 0 ∧ r.acc ≠ 3 := by omega
  simp [State.writeRefusal, hrow, hwritable, hden]

end

section
variable {s : State} {p : Port} {v : Nat} {b : Byte}

/-- A write of a byte by the host to 5800:01. -/
theorem live_write_resetRequest {tag : Nat} (h : Writes (.host tag) s) (hval : leNat [b] = v)
    (hrange : inRange 0x5800 1 v = true) : s.live (s.portWrite (.host tag) 0x5800 1 [b]) =
      .next ((s.resetRequest (.host tag) v).1.answer (.host tag) 0x5800 1 (s.resetRequest (.host tag) v).2) := by
  subst hval
  exact live_write_done h (mustWait_of_keeper rfl) rfl
    (writeRefusal_none shape_resetReq (.inr rfl) (by decide) rfl rfl (.inr ⟨rfl, .inr hrange⟩)) rfl

theorem live_write_resetRequest_field {node tid service : Nat} (h : Writes (.field node tid service) s) (data : List Byte) :
    s.live (s.portWrite (.field node tid service) 0x5800 1 data) =
      .next (s.answer (.field node tid service) 0x5800 1 (.err errAccess 0)) :=
  live_write_refused h (mustWait_of_keeper rfl) (writeRefusal_of_denied shape_resetReq (.inr rfl) rfl)

/-- A write of a byte to 5000:02. -/
theorem live_write_power (h : Writes p s) (hval : leNat [b] = v) (hrange : inRange 0x5000 2 v = true) :
    s.live (s.portWrite p 0x5000 2 [b]) = .next (reply p 0x5000 2 (s.writePower p v)) := by
  subst hval
  exact live_write_act h (mustWait_of_keeper rfl) rfl
    (writeRefusal_none shape_power (.inl rfl) (by decide) rfl rfl (.inr ⟨rfl, .inr hrange⟩)) rfl

theorem live_write_vrClear (h : Writes p s) (hpower : s.runs procPower = true) :
    s.live (s.portWrite p 0x5000 0x0F [1]) = .next (s.vrClear.answer p 0x5000 0x0F (.ok [])) :=
  live_write_done h (mustWait_of_runs (k := procPower) rfl hpower) leNat_one
    (writeRefusal_bool leNat_one shape_vrClear (.inr rfl) (by decide) rfl rfl (by decide +kernel)) rfl

end

section
variable {s : State} {tag : Nat}

theorem resetRequest_warm : s.resetRequest (.host tag) 1 =
    ({ s with rst := { s.rst with warmAt := some (s.rst.warmAt.getD (s.time + 1200)) } }, .ok []) := rfl

theorem resetRequest_block (hok : blockOk (bits (s.obj 0x5800 2) 0 8) (bits (s.obj 0x5800 2) 8 8) = true)
    (hreset : s.blockReset (bits (s.obj 0x5800 2) 0 8) (bits (s.obj 0x5800 2) 8 8) = false)
    (hnew : (bits (s.obj 0x5800 2) 0 8, bits (s.obj 0x5800 2) 8 8) ∉ s.rst.requests) : s.resetRequest (.host tag) 2 =
      ({ s with rst := { s.rst with
        requests := s.rst.requests ++ [(bits (s.obj 0x5800 2) 0 8, bits (s.obj 0x5800 2) 8 8)] } }, .ok []) := by
  simp [State.resetRequest, isField, hok, hreset, hnew]

theorem resetRequest_in_reset (hok : blockOk (bits (s.obj 0x5800 2) 0 8) (bits (s.obj 0x5800 2) 8 8) = true)
    (hreset : s.blockReset (bits (s.obj 0x5800 2) 0 8) (bits (s.obj 0x5800 2) 8 8) = true) :
    s.resetRequest (.host tag) 2 = (s, .ok []) := by
  simp [State.resetRequest, isField, hok, hreset]

end

/-! ### Power states (15 R518) -/

section
variable {s : State} {p : Port}

theorem writePower_deep (h : s.deepOk p = true) : s.writePower p 1 = ((s.answer p 0x5000 2 (.ok [])).enterDeep, none) := by
  simp [State.writePower, h]

theorem writePower_deep_refused (h : s.deepOk p = false) : s.writePower p 1 = (s, some (.err errValue 0)) := by
  simp [State.writePower, h]

theorem writePower_standby (h : s.standbyOk p = true) :
    s.writePower p 2 = ((s.answer p 0x5000 2 (.ok [])).enterStandby, none) := by
  simp [State.writePower, h]

theorem writePower_standby_refused (h : s.standbyOk p = false) : s.writePower p 2 = (s, some (.err errValue 0)) := by
  simp [State.writePower, h]

/-- The OPERATION commands of the power sequence join the bus commands, and change nothing else. -/
theorem foldl_operation_frame (d : Nat) (ns : List Nat) (s : State) : ∃ pmbus,
    ns.foldl (fun s n => s.operation n d) s = { s with pwr := { s.pwr with pmbus := pmbus } } := by
  induction ns generalizing s with
  | nil => exact ⟨s.pwr.pmbus, rfl⟩
  | cons n ns ih => exact ih (s.operation n d)

/-- A device that enters Deep standby is under a warm reset, its rails switched off. -/
theorem enterDeep_spec (h : s.dark = false) : s.enterDeep.dark = true ∧ s.enterDeep.pwr.seqOff = true ∧
    s.enterDeep.pwr.state = 1 ∧ s.enterDeep.hl = { tx := s.hl.tx } := by
  obtain ⟨pmbus, hops⟩ := foldl_operation_frame 0x00 sequence.reverse s
  have hdeep : s.enterDeep = ({ s with pwr := { s.pwr with pmbus := pmbus, seqOff := true, state := 1 } }).assertReset 2 0x02 := by
    rw [State.enterDeep, hops]
  have hlive : ({ s with pwr := { s.pwr with pmbus := pmbus, seqOff := true, state := 1 } } : State).dark = false := h
  rw [hdeep, assertReset_dark hlive, assertReset_pwr hlive, assertReset_hl hlive, cleared_pwr]
  exact ⟨rfl, rfl, rfl, rfl⟩

theorem enterStandby_spec (s : State) : s.enterStandby.pwr.state = 2 ∧ s.enterStandby.pwr.request = 2 ∧
    s.enterStandby.light.compute = .dark ∧ s.enterStandby.light.link = .dark := ⟨rfl, rfl, rfl, rfl⟩

end

/-- Settles O25: each request is what its rule makes of it, and the field port may ask for none. -/
theorem resetAndPowerRequests : Obligations.ResetAndPowerRequests := by
  have hrange : inRange 0x5800 1 1 = true ∧ inRange 0x5800 1 2 = true ∧ inRange 0x5000 2 1 = true ∧ inRange 0x5000 2 2 = true := by
    decide +kernel
  obtain ⟨hwarm, hblock, hdeep, hstandby⟩ := hrange
  refine ⟨fun tag s h => ⟨?warm, fun kind num hkind hnum hok => ⟨fun hreset hnew => ?block, fun hreset => ?inReset⟩,
      fun hst => ?deep, fun hst hidle => ?standby, fun hst => ?noStandby⟩,
    fun node tid service s h => ⟨live_write_resetRequest_field h _, live_write_resetRequest_field h _, ?fieldDeep, ?fieldStandby⟩,
    fun p s h hpower => ⟨s.vrClear, live_write_vrClear h hpower, rfl, fun i hi hlatched => ?cleared, rfl⟩⟩
  case warm => exact live_write_resetRequest h leNat_one hwarm
  case block =>
    subst hkind hnum
    refine (live_write_resetRequest h (v := 2) rfl hblock).trans ?_
    rw [resetRequest_block hok hreset hnew]
  case inReset =>
    subst hkind hnum
    refine (live_write_resetRequest h (v := 2) rfl hblock).trans ?_
    rw [resetRequest_in_reset hok hreset]
  case deep =>
    obtain ⟨⟨⟨hdark, hpwr⟩, -, -, hup, -⟩, -⟩ := id h
    have hok : s.deepOk (.host tag) = true := by simp [State.deepOk, isField, hpwr, hst]
    have hanswer : s.answer (.host tag) 0x5000 2 (.ok []) = s.cpl tag 0 0 [] := State.answer_host_ok _ _ _ _ hup
    have hlive : (s.answer (.host tag) 0x5000 2 (.ok [])).dark = false := by rw [hanswer]; exact hdark
    obtain ⟨hd, hseq, hstate, hhl⟩ := enterDeep_spec hlive
    refine ⟨_, (live_write_power h leNat_one hdeep).trans (by rw [writePower_deep hok]; rfl), rfl, hd, hseq, hstate, ?_, ?_⟩
    · rw [hhl]
    · rw [hhl, hanswer]
      rfl
  case standby =>
    obtain ⟨⟨⟨-, hpwr⟩, -⟩, -⟩ := id h
    have hctxs : s.ctxs.all (fun e => decide (e.2.st ≠ .armed) && decide (e.2.st ≠ .halted)) = true :=
      List.all_eq_true.mpr fun e he => by rw [hidle e he]; rfl
    have hok : s.standbyOk (.host tag) = true := by
      rw [State.standbyOk, hctxs, hst, hpwr]
      rfl
    exact ⟨_, (live_write_power h (v := 2) rfl hstandby).trans (by rw [writePower_standby hok]; rfl), rfl, enterStandby_spec _⟩
  case noStandby =>
    have hno : s.standbyOk (.host tag) = false := by simp [State.standbyOk, hst]
    exact (live_write_power h (v := 2) rfl hstandby).trans (by rw [writePower_standby_refused hno]; rfl)
  case fieldDeep =>
    exact (live_write_power h leNat_one hdeep).trans (by rw [writePower_deep_refused (by rfl)]; rfl)
  case fieldStandby =>
    exact (live_write_power h (v := 2) rfl hstandby).trans (by rw [writePower_standby_refused (by rfl)]; rfl)
  case cleared =>
    have hmem : i ∈ (List.range 8).filter (fun i => s.vrLatched (i + 1)) := List.mem_filter.mpr ⟨List.mem_range.mpr hi, hlatched⟩
    exact List.mem_append_right _ (List.mem_map_of_mem hmem)

end Sys2Proof.Machine
end

section
/-! SUPPORT. Writes of the security page and the statements about them (16 R541, R544 to R549). -/

set_option Elab.async false

namespace Sys2Proof.Machine

/-! ### The floor and the attestation -/

section
variable {s : State} {p : Port}

theorem live_write_floor {tag : Nat} (h : Writes (.host tag) s) (v : BitVec 32) :
    s.live (s.portWrite (.host tag) 0x6800 6 (leBytes 4 v.toNat)) =
      .next ((s.floorRaise (.host tag) v.toNat).1.answer (.host tag) 0x6800 6 (s.floorRaise (.host tag) v.toNat).2) :=
  live_write_done h (mustWait_of_keeper rfl) (leNat_leBytes_toNat (k := 4) v)
    (writeRefusal_scalar (k := 4) v shape_floor (.inr rfl) (by decide) rfl rfl
      (inRange_unbounded (ty := 3) (by decide +kernel) (by decide) (by decide))) rfl

theorem live_write_attest (h : Writes p s) (nonce : BitVec 256) :
    s.live (s.portWrite p 0x6800 0x10 (leBytes 32 nonce.toNat)) =
      .next ((s.attestWrite nonce.toNat).1.answer p 0x6800 0x10 (s.attestWrite nonce.toNat).2) :=
  live_write_blob (k := 32) nonce h (mustWait_of_keeper rfl) shape_attest (.inr rfl) (by decide) (by decide) rfl rfl

theorem floorRaise_raises {tag v : Nat} (hfloor : s.sec.floorNv ≤ v) (hmapped : ∀ x ∈ s.mappedVersions, v ≤ x) :
    s.floorRaise (.host tag) v = ({ s with sec := { s.sec with floorNv := v } }, .ok []) := by
  have hno : ¬ (v < s.sec.floorNv ∨ s.mappedVersions.any (fun x => decide (x < v)) = true) := by
    rw [List.any_eq_true]
    rintro (hlow | ⟨x, hx, hlt⟩)
    · omega
    · exact absurd (of_decide_eq_true hlt) (not_lt.mpr (hmapped x hx))
  simp only [State.floorRaise, isField, Bool.false_eq_true, if_false, if_neg hno]

theorem floorRaise_below {tag v : Nat} (h : v < s.sec.floorNv) : s.floorRaise (.host tag) v = (s, .err errValue 0) := by
  simp only [State.floorRaise, isField, Bool.false_eq_true, if_false, h, true_or, if_true]

theorem attestWrite_begins {nonce : Nat} (hfree : s.sec.attest ≠ 1) (hruns : s.runs procSecurity = true) :
    s.attestWrite nonce = ({ s with sec := { s.sec with attest := 1, snapshot := s.snapshot nonce } }, .ok []) := by
  simp only [State.attestWrite, if_neg hfree, hruns, not_true_eq_false, if_false]

theorem attestWrite_busy {nonce : Nat} (h : s.sec.attest = 1) : s.attestWrite nonce = (s, .err errAccess 0) := if_pos h

theorem attestReady_signs (h : s.sec.attest = 1) (hruns : s.runs procSecurity = true) : s.attestReady = { s with
    sec := { s.sec with attest := 2, report := s.sec.snapshot ++ ecdsaSign identityKey s.sec.snapshot, snapshot := [] } } := by
  have hready : ¬ (s.sec.attest ≠ 1 ∨ ¬ s.runs procSecurity = true) := by simp [h, hruns]
  rw [State.attestReady, if_neg hready]

end

/-! ### Option commands -/

section
variable {s : State}

theorem live_write_option {tag : Nat} (h : Writes (.host tag) s) (hruns : s.runs procSecurity = true) (c : BitVec 1280) :
    s.live (s.portWrite (.host tag) 0x6800 8 (leBytes 160 c.toNat)) =
      .next ((s.optionCommand (.host tag) c.toNat).1.answer (.host tag) 0x6800 8 (s.optionCommand (.host tag) c.toNat).2) :=
  live_write_blob (k := 160) c h (mustWait_of_runs (k := procSecurity) rfl hruns) shape_option (.inr rfl) (by decide)
    (by decide) rfl rfl

theorem live_write_option_field {node tid service : Nat} (h : Writes (.field node tid service) s)
    (hruns : s.runs procSecurity = true) (data : List Byte) : s.live (s.portWrite (.field node tid service) 0x6800 8 data) =
      .next (s.answer (.field node tid service) 0x6800 8 (.err errAccess 0)) :=
  live_write_refused h (mustWait_of_runs (k := procSecurity) rfl hruns) (writeRefusal_of_denied shape_option (.inr rfl) rfl)

/-- The four rows of option commands are one write. -/
theorem exec_option {p : Port} {c : BitVec 1280} {i : Instr}
    (hi : i = .revokeSlot p c ∨ i = .raiseOtpFloor p c ∨ i = .raiseDebugLock p c ∨ i = .debugUnlock p c) :
    exec i s = s.live (s.portWrite p 0x6800 8 (leBytes 160 c.toNat)) := by
  rcases hi with rfl | rfl | rfl | rfl <;> rfl

/-- The first failure of an option command, recorded. -/
def State.optionRecord (s : State) (r : Nat) : State := { s with sec := { s.sec with optionResult := r } }

variable {tag c r : Nat}

/-- A command of bad form draws no challenge. -/
theorem optionCommand_form (h : s.optionForm c = some r) : s.optionCommand (.host tag) c =
    (s.optionRecord r, if bits c 56 8 ≠ 0 ∨ bits c 416 96 ≠ 0 then .err errValue 0 else .ok []) := by
  have hreserved : optionReserved c = true ↔ bits c 56 8 ≠ 0 ∨ bits c 416 96 ≠ 0 := by simp [optionReserved]
  simp only [State.optionCommand, isField, Bool.false_eq_true, if_false, h, hreserved]
  rfl

theorem optionCommand_unsigned (h : s.optionForm c = none) (hsigned : s.optionSigned c = false) :
    s.optionCommand (.host tag) c = ((s.optionRecord 4).newChallenge, .ok []) := by
  simp only [State.optionCommand, isField, Bool.false_eq_true, if_false, h, hsigned, not_false_eq_true, if_true]
  rfl

theorem optionCommand_rule (h : s.optionForm c = none) (hsigned : s.optionSigned c = true) (hrule : s.optionRule c = some r) :
    s.optionCommand (.host tag) c = ((s.optionRecord r).newChallenge, .ok []) := by
  simp only [State.optionCommand, isField, Bool.false_eq_true, if_false, h, hsigned, not_true_eq_false, hrule]
  rfl

theorem optionCommand_applied (h : s.optionForm c = none) (hsigned : s.optionSigned c = true) (hrule : s.optionRule c = none) :
    s.optionCommand (.host tag) c = (((s.optionApply c).optionRecord 0).newChallenge, .ok []) := by
  simp only [State.optionCommand, isField, Bool.false_eq_true, if_false, h, hsigned, not_true_eq_false, hrule]
  rfl

theorem optionApply_revoke (h : bits c 48 8 = 1) : s.optionApply c = { s with sec := { s.sec with
    revoked := s.sec.revoked ||| 2 ^ bits c 384 32, revoked2 := s.sec.revoked2 ||| 2 ^ bits c 384 32 } } := by
  simp only [State.optionApply, h]

theorem optionApply_floor (h : bits c 48 8 = 2) : s.optionApply c = { s with sec := { s.sec with
    floorOtp := bits c 384 32, floorOtp2 := bits c 384 32, floorSteps := s.sec.floorSteps - 1 } } := by
  simp only [State.optionApply, h]

theorem optionApply_lock (h : bits c 48 8 = 3) : s.optionApply c = { s with sec := { s.sec with
    debugLock := bits c 384 32, debugLock2 := bits c 384 32 } } := by
  simp only [State.optionApply, h]

theorem optionApply_unlock (h : bits c 48 8 = 4) : s.optionApply c = { s with sec := { s.sec with debugOpen := true } } := by
  simp only [State.optionApply, h]

/-- An option command that is applied changes the security record alone. -/
theorem optionApply_frame (s : State) (c : Nat) : s.optionApply c = { s with sec := (s.optionApply c).sec } := by
  unfold State.optionApply
  dsimp only
  split <;> rfl

end

/-- Settles O59: each of the four commands, applied, is recorded and answered. -/
theorem optionCommandsApplyOnceSigned : Obligations.OptionCommandsApplyOnceSigned := by
  intro tag c s h hruns hform hsigned hrule
  have hexec := live_write_option h hruns c
  rw [optionCommand_applied hform hsigned hrule] at hexec
  refine ⟨fun hkind => ?_, fun hkind => ?_, fun hkind => ?_, fun hkind => ?_⟩
  · exact hexec.trans (by rw [optionApply_revoke hkind]; rfl)
  · exact hexec.trans (by rw [optionApply_floor hkind]; rfl)
  · exact hexec.trans (by rw [optionApply_lock hkind]; rfl)
  · exact hexec.trans (by rw [optionApply_unlock hkind]; rfl)

/-- Settles O26: the floor, the option commands in the order of their checks, and the attestation. -/
theorem securityWrites : Obligations.SecurityWrites := by
  refine ⟨fun tag s h hruns => ⟨fun v hfloor hmapped => ?raises, fun v hbelow => ?below,
      fun c i hi => ⟨fun r hform => ?form, fun hform => ?checked⟩⟩,
    fun node tid service c s h hruns => live_write_option_field h hruns _,
    fun p nonce s h hruns => ⟨fun hfree => ?begins, fun hbusy => ?busy⟩, fun s hrun hruns hattest => ?ready⟩
  case raises => exact (live_write_floor h v).trans (by rw [floorRaise_raises hfloor hmapped])
  case below => exact (live_write_floor h v).trans (by rw [floorRaise_below hbelow])
  case form => rw [exec_option hi, live_write_option h hruns c, optionCommand_form hform]; rfl
  case checked =>
    have hexec := (exec_option (s := s) hi).trans (live_write_option h hruns c)
    cases hsigned : s.optionSigned c.toNat with
    | false =>
      rw [optionCommand_unsigned hform hsigned] at hexec
      exact ⟨_, s.optionRecord 4, hexec, rfl, rfl, fun _ => rfl, fun h => Bool.noConfusion h, rfl⟩
    | true =>
      cases hrule : s.optionRule c.toNat with
      | some r =>
        rw [optionCommand_rule hform hsigned hrule] at hexec
        exact ⟨_, s.optionRecord r, hexec, rfl, rfl, fun _ => rfl, fun _ h => absurd h (Option.some_ne_none r), rfl⟩
      | none =>
        rw [optionCommand_applied hform hsigned hrule] at hexec
        refine ⟨_, (s.optionApply c.toNat).optionRecord 0, hexec, rfl, rfl, fun h => ?_, fun _ _ => ⟨fun hkind => ?_,
          fun hkind => ?_, fun hkind => ?_, fun hkind => ?_⟩, ?_⟩
        · exact h.elim (fun h => Bool.noConfusion h) (fun h => Bool.noConfusion h)
        · rw [optionApply_revoke hkind]; exact ⟨rfl, rfl, rfl⟩
        · rw [optionApply_floor hkind]; exact ⟨rfl, rfl, rfl⟩
        · rw [optionApply_lock hkind]; exact ⟨rfl, rfl⟩
        · rw [optionApply_unlock hkind]; exact ⟨rfl, rfl⟩
        · rw [optionApply_frame]; rfl
  case begins => exact (live_write_attest h nonce).trans (by rw [attestWrite_begins hfree hruns])
  case busy => exact (live_write_attest h nonce).trans (by rw [attestWrite_busy hbusy])
  case ready => exact (live_running hrun).trans (by rw [attestReady_signs hattest hruns])

end Sys2Proof.Machine
end

section
/-! SUPPORT. The link layer of the host link, event delivery, resume doorbells, reset messages and the arithmetic of planes and digits,
and the statements about them (11 R397 to R410, R420 to R422, R427, R429, 02 R30 to R33). -/

set_option Elab.async false

namespace Sys2Proof.Machine

/-- What an operation of a running device comes to is what its instruction does. -/
theorem live_next {s t u : State} (hrun : Running s) (h : t = u) : s.live t = .next u := by rw [live_running hrun, h]

/-! ### Lanes and the link's state (11 R397, R398) -/

section
variable {lanes : BitVec 4} {lane : Fin 4}

theorem bit_lanes : bit lanes.toNat lane = lanes.getLsbD lane := by revert lanes lane; decide

/-- Nothing is left of the locked lanes without one of them, exactly where it is the only one. -/
theorem lanes_without_eq_zero (hlocked : lanes.getLsbD lane = true) :
    lanes &&& ~~~(BitVec.ofNat 4 (2 ^ (lane : Nat))) = 0 ↔ lanes = BitVec.ofNat 4 (2 ^ (lane : Nat)) := by
  revert lanes lane; decide

end

/-- Settles O30: each event of a lane or of the link, by the branches of its operation. -/
theorem linkComesUpAndGoesDown : Obligations.LinkComesUpAndGoesDown := by
  intro s hrun
  refine ⟨fun lane hstep hstate => ?lock, fun hstate hlanes hseen => ?up, fun hlanes => ?missing,
    fun lane hlocked => ⟨fun hend => ?down, fun hstate hothers => ?unlocked⟩, fun lane hlocked => ?other⟩
  case lock =>
    have hstarted : s.linkStarted = true := by simp [State.linkStarted, hstep]
    show s.live (s.codewordLock lane) = _
    simp [live_running hrun, State.codewordLock, hstarted, hstate]
  case up =>
    show s.live s.linkUp = _
    simp [live_running hrun, State.linkUp, hstate, hlanes, hseen, satAdd]
  case missing =>
    show s.live s.linkUp = _
    rw [live_running hrun, State.linkUp, if_pos (.inr (.inl hlanes))]
  case down =>
    show s.live (s.laneLockLoss lane) = _
    have hrest := hend.imp_right (lanes_without_eq_zero hlocked).mpr
    simp only [live_running hrun, State.laneLockLoss, bit_lanes, hlocked, not_true_eq_false, if_false, if_pos hrest]
  case unlocked =>
    show s.live (s.laneLockLoss lane) = _
    have hrest := not_or.mpr ⟨hstate, (lanes_without_eq_zero hlocked).not.mpr hothers⟩
    simp only [live_running hrun, State.laneLockLoss, bit_lanes, hlocked, not_true_eq_false, if_false, if_neg hrest]
  case other =>
    show s.live (s.laneLockLoss lane) = _
    simp only [live_running hrun, State.laneLockLoss, bit_lanes, hlocked, Bool.false_eq_true, not_false_eq_true, if_true]

/-! ### Frames (11 R407 to R410) -/

/-- What a control word acknowledges: the frames that leave the replay buffer; the moment and the replays start again with any. -/
theorem covered_eq (s : State) (aseq : Nat) :
    let n := (aseq + 1 + 4096 - (s.hl.txNext + 4096 - s.hl.uncovered) % 4096) % 4096
    ∃ moment replays, s.covered aseq = { s with hl := { s.hl with
      uncovered := if 0 < n ∧ n ≤ s.hl.uncovered then s.hl.uncovered - n else s.hl.uncovered
      lastCover := moment, replays := replays } } := by
  intro n
  by_cases h : 0 < n ∧ n ≤ s.hl.uncovered
  · exact ⟨s.time, 0, by simp only [State.covered, n, if_pos h]⟩
  · exact ⟨s.hl.lastCover, s.hl.replays, by simp only [State.covered, n, if_neg h]⟩

section
variable {s : State} {ctl req rsp : Nat} (hup : s.hl.state = .up)
include hup

theorem linkFrame_bad : s.linkFrame false ctl req rsp =
    if s.hl.gap then s else { s with hl := { s.hl with gap := true, nakDue := true } } := by
  simp [State.linkFrame, hup]

/-- A frame in order: counters, credits and the reset message, then what its control word says. -/
theorem linkFrame_next (hreserved : bits ctl 34 6 = 0) (hnext : bits ctl 0 12 = s.hl.rxNext) (hnak : bit ctl 24 = false) :
    s.linkFrame true ctl req rsp = ({ s with hl := { s.hl with
      rxNext := (s.hl.rxNext + 1) % 4096, gap := false
      reqGranted := (s.hl.reqGranted + req) % 4096, rspGranted := (s.hl.rspGranted + rsp) % 4096
      streak := streakOf s.hl.streak (bits ctl 32 2) (bits ctl 25 7)
      peerReq := bits ctl 40 12, peerRsp := bits ctl 52 12 } } : State).covered (bits ctl 12 12) := by
  have hlt : s.hl.rxNext < 4096 := hnext ▸ Nat.mod_lt _ (by norm_num)
  have hrepeat : (s.hl.rxNext + 1) % 4096 ≠ s.hl.rxNext := by omega
  simp [State.linkFrame, hup, hreserved, hnext, hnak, hrepeat]

theorem linkFrame_outOfOrder (hreserved : bits ctl 34 6 = 0) (hother : bits ctl 0 12 ≠ s.hl.rxNext)
    (hnot : (bits ctl 0 12 + 1) % 4096 ≠ s.hl.rxNext) (hgap : s.hl.gap = false) :
    s.linkFrame true ctl req rsp = { s with hl := { s.hl with gap := true, nakDue := true } } := by
  simp [State.linkFrame, hup, hreserved, hother, hnot, hgap]

end

/-- A replay due: it is counted, and with the eighth without an advance the link goes Down. -/
theorem linkReplayTimeout_due {s : State} (hup : s.hl.state = .up) (hframes : 0 < s.hl.uncovered) (hdue : s.hl.lastCover + 4800 ≤ s.time) :
    ∃ ctl, let u : State := { s.count 0x2B with hl := { s.hl with
        lastCtl := ctl, nakDue := false, replays := s.hl.replays + 1, lastCover := s.time } }
      s.linkReplayTimeout = if 8 ≤ s.hl.replays + 1 then u.linkDown else u :=
  ⟨(s.count 0x2B).frameControl ((s.hl.txNext + 4096 - s.hl.uncovered) % 4096), by
    rw [State.linkReplayTimeout, if_pos ⟨hup, hframes, hdue⟩]; rfl⟩

/-- Settles O31: a frame in order through `covered_eq`, one in error or out of order through the gap it opens, and the replay
timer by the count of replays. -/
theorem framesAreAcceptedInOrder : Obligations.FramesAreAcceptedInOrder := by
  intro s hrun hup
  refine ⟨fun ctl req rsp hreserved hnext hnak => ?accepted, fun ctl req rsp hgap => ?gap, fun ctl req rsp hgap => ?again,
    fun ctl req rsp hreserved hother hnot hgap => ?order, fun hframes hdue => ⟨fun hfew => ?replay, fun hseven => ?down⟩⟩
  case accepted =>
    obtain ⟨moment, replays, heq⟩ := covered_eq ({ s with hl := { s.hl with
      rxNext := (s.hl.rxNext + 1) % 4096, gap := false
      reqGranted := (s.hl.reqGranted + req) % 4096, rspGranted := (s.hl.rspGranted + rsp) % 4096
      streak := streakOf s.hl.streak (bits ctl.toNat 32 2) (bits ctl.toNat 25 7)
      peerReq := bits ctl.toNat 40 12, peerRsp := bits ctl.toNat 52 12 } } : State) (bits ctl.toNat 12 12)
    have hexec := live_next hrun ((linkFrame_next (req := req) (rsp := rsp) hup hreserved hnext hnak).trans heq)
    exact ⟨_, hexec, rfl, rfl, rfl, rfl, rfl, rfl, rfl, rfl, rfl⟩
  case gap => exact live_next hrun ((linkFrame_bad hup).trans (by simp [hgap]))
  case again => exact live_next hrun ((linkFrame_bad hup).trans (by simp [hgap]))
  case order => exact live_next hrun (linkFrame_outOfOrder hup hreserved hother hnot hgap)
  case replay =>
    obtain ⟨ctl, heq⟩ := linkReplayTimeout_due hup hframes hdue
    exact ⟨_, live_next hrun (heq.trans (if_neg (by omega))), rfl⟩
  case down =>
    obtain ⟨ctl, heq⟩ := linkReplayTimeout_due hup hframes hdue
    exact ⟨_, live_next hrun (heq.trans (if_pos (by omega))), by simp only [hseven]⟩

/-! ### Event records (11 R420 to R422) -/

theorem exec_evtHead {s : State} (hrun : Running s) (hup : s.hl.state = .up) (hheld : s.hl.held = []) (tag : BitVec 12) (v : BitVec 64) :
    exec (.evtHead tag v) s = .next ((s.writeEvtHead v.toNat).1.answer (.host tag.toNat) 0 0 (s.writeEvtHead v.toNat).2) := by
  have hwindow : emulatedOff 0x1400 = false := by decide
  show s.live (s.hostCommand (hostHeader 4 tag.toNat 8 0x1400 3) (leBytes 8 v.toNat)) = _
  rw [live_running hrun, hostCommand_window tag.isLt (by norm_num) hup hheld (by decide)]
  simp [State.windowWrite, hwindow]

/-- Settles O32: a record goes out where no guard of EVT bars it, and EVT_HEAD by the three answers of its write. -/
theorem eventRecordsReachTheHost : Obligations.EventRecordsReachTheHost := by
  intro s hrun hup
  refine ⟨fun e rest hqueue hopen hmwr hsize hroom hleft hpeer => ?sent, fun hclosed => ?closed,
    fun tag v hheld => ⟨fun hlow hfits => ?moved, fun hlow hover => ?malformed, fun hhigh => ?value⟩⟩
  case sent =>
    show s.live s.deliverEvt = _
    simp only [live_running hrun, State.deliverEvt, hqueue, hup, hopen, hmwr, hsize, hleft, Nat.not_le.mpr hroom, Nat.not_lt.mpr hpeer,
      ne_eq, not_true_eq_false, false_and, or_self, if_false]
  case closed =>
    show s.live s.deliverEvt = _
    rw [live_running hrun, State.deliverEvt]
    split
    · rfl
    · simp [hclosed]
  case moved => rw [exec_evtHead hrun hup hheld, State.writeEvtHead, if_neg (by omega), if_neg (by omega)]
  case malformed => rw [exec_evtHead hrun hup hheld, State.writeEvtHead, if_neg (by omega), if_pos hover]
  case value => rw [exec_evtHead hrun hup hheld, State.writeEvtHead, if_pos hhigh]

/-! ### Resume doorbells (11 R427, 06 R252) and reset messages (11 R429) -/

/-- Offset 0x1100 + 8 c of the window is the resume doorbell of context c. -/
theorem bell_resume (s : State) (c : Fin 64) (v : Nat) : s.bell (0x1100 + 8 * c) v = s.resumeBell c v := by
  have hoff : doorbellOff (0x1100 + 8 * c) = true := by revert c; decide
  have hindex : (0x1100 + 8 * (c : Nat) - 0x1100) / 8 = c := by omega
  rw [State.bell, if_neg (not_not.mpr hoff), if_neg (by omega), hindex]

theorem exec_resumeDb {s : State} (hrun : Running s) (hup : s.hl.state = .up) (hheld : s.hl.held = []) (tag : BitVec 12)
    (c : Fin 64) (v : BitVec 64) : exec (.resumeDb tag c v) s =
      .next ((s.resumeBell c v.toNat).1.answer (.host tag.toNat) 0 0 (s.resumeBell c v.toNat).2) := by
  have hoff : 0x1100 + 8 * (c : Nat) < 2 ^ 16 := by omega
  show s.live (s.hostCommand (hostHeader 5 tag.toNat 0 (0x1100 + 8 * c) 0 v.toNat)) = _
  rw [live_running hrun, hostCommand_doorbell tag.isLt hoff v.isLt hup hheld, bell_resume]

/-- A halted context whose page translates is armed again, without the cached leaf of that page. -/
theorem resume_translates {s : State} {c v : Nat} {run : Run} {a : Place} (hrunning : (s.ctx c).run = some run)
    (hhalted : (s.ctx c).st = .halted) (hv : v = (s.ctx c).faultSeq)
    (hpage : s.translateFresh run.write ((s.ctx c).addr run run.issued) = .ok a) :
    s.resume c v = ((s.uncache ((s.ctx c).addr run run.issued).toNat).modCtx c (fun x => { x with st := .armed }), true) := by
  simp [State.resume, hrunning, hhalted, hv, hpage]

/-- Another context, or another fault number, is counted and ignored. -/
theorem resume_other {s : State} {c v : Nat} (h : (s.ctx c).st ≠ .halted ∨ v ≠ (s.ctx c).faultSeq) :
    s.resume c v = (s.count 0x11, false) := by
  cases hrun : (s.ctx c).run with
  | none => simp only [State.resume, hrun]
  | some run => simp only [State.resume, hrun, if_pos h]

/-- A resume doorbell that arms its context again is answered OK, the streams served. -/
theorem exec_resumeDb_armed {s t : State} (hrun : Running s) (hup : s.hl.state = .up) (hheld : s.hl.held = []) (tag : BitVec 12)
    (c : Fin 64) (v : BitVec 64) (hv : v.toNat < 2 ^ 16) (h : s.resume c v.toNat = (t, true)) :
    exec (.resumeDb tag c v) s = .next (t.settle.answer (.host tag.toNat) 0 0 (.ok [])) := by
  rw [exec_resumeDb hrun hup hheld, State.resumeBell, if_neg (Nat.not_le.mpr hv), h]

/-- Settles O34: the resume doorbell through `State.resume`, the reset messages by the streak of frames. -/
theorem resumesAndResetMessages : Obligations.ResumesAndResetMessages := by
  refine ⟨fun tag c v s hrun hup hheld hv => ⟨fun run a hctx hhalted hseq hpage => ?resumed, fun hother => ?ignored⟩,
    fun s hrun => ⟨fun hkind hcount => ?device, fun hfew => ⟨?fewDevice, ?fewProc⟩, fun hkind hcount => ⟨fun hproc => ?proc, fun hproc => ?none⟩⟩⟩
  case resumed =>
    exact ⟨_, exec_resumeDb_armed hrun hup hheld tag c v hv (resume_translates hctx hhalted hseq hpage), rfl⟩
  case ignored => rw [exec_resumeDb hrun hup hheld, State.resumeBell, if_neg (by omega), resume_other hother]
  case device =>
    exact ⟨_, live_next hrun (by rw [State.deviceReset, if_pos ⟨hkind, hcount⟩]), rfl⟩
  case fewDevice =>
    exact live_next hrun (by rw [State.deviceReset, if_neg fun h => Nat.not_lt.mpr h.2 hfew])
  case fewProc =>
    exact live_next hrun (by simp only [State.processorReset]; rw [if_neg fun h => Nat.not_lt.mpr h.2 hfew])
  case proc =>
    exact live_next hrun (by simp only [State.processorReset]; rw [if_pos ⟨hkind, hcount⟩, if_pos hproc])
  case none =>
    exact live_next hrun (by simp only [State.processorReset]; rw [if_pos ⟨hkind, hcount⟩, if_neg (Nat.not_lt.mpr hproc)])

/-! ### Planes and digits (02 R30 to R33) -/

/-- The bits of a natural number below 2^n, with their weights, sum to it. -/
theorem sum_testBit (n m : Nat) (hm : m < 2 ^ n) :
    ((List.range n).map (fun p => if m.testBit p then (2 : Int) ^ p else 0)).sum = m := by
  induction n generalizing m with
  | zero => have : m = 0 := by simpa using hm
            simp [this]
  | succ n ih =>
    have hlow := ih (m % 2 ^ n) (Nat.mod_lt _ (by positivity))
    have hsame : (List.range n).map (fun p => if m.testBit p then (2 : Int) ^ p else 0)
        = (List.range n).map (fun p => if (m % 2 ^ n).testBit p then (2 : Int) ^ p else 0) :=
      List.map_congr_left fun p hp => by simp [Nat.testBit_mod_two_pow, List.mem_range.mp hp]
    have htop : m / 2 ^ n < 2 := Nat.div_lt_of_lt_mul (by rw [← pow_succ]; exact hm)
    have hsplit : ((m : Nat) : Int) = (m % 2 ^ n : Nat) + 2 ^ n * (m / 2 ^ n : Nat) := by
      exact_mod_cast (Nat.mod_add_div m (2 ^ n)).symm
    rw [List.range_succ, List.map_append, List.sum_append, hsame, hlow, hsplit]
    simp only [List.map_cons, List.map_nil, List.sum_cons, List.sum_nil, add_zero, Nat.testBit_eq_decide_div_mod_eq]
    obtain h0 | h1 : m / 2 ^ n = 0 ∨ m / 2 ^ n = 1 := by generalize m / 2 ^ n = d at htop; omega
    · simp [h0]
    · simp [h1]

/-- The highest bit of a number of n + 1 bits that is at least 2^n is set. -/
theorem testBit_of_high {m n : Nat} (hhigh : 2 ^ n ≤ m) (hlt : m < 2 ^ (n + 1)) : m.testBit n = true := by
  have hdiv : m / 2 ^ n = 1 := by
    rw [Nat.div_eq_iff (by positivity)]
    omega
  rw [Nat.testBit_eq_decide_div_mod_eq, hdiv]
  rfl

/-- The weighted planes of an element of n + 1 bits sum to it: the bits of its two's complement, the highest with a negative weight. -/
theorem planes_sum (n : Nat) (x : Int) (hlow : -(2 ^ n : Int) ≤ x) (hhigh : x < (2 ^ n : Int)) :
    ((List.range (n + 1)).map (fun p => if (toU (n + 1) x).testBit p then planeWeight (n + 1) p else 0)).sum = x := by
  have hplane (p : Nat) (hp : p < n) : planeWeight (n + 1) p = (2 : Int) ^ p := by
    rw [planeWeight, if_neg (by omega)]; norm_cast
  have hsign : planeWeight (n + 1) n = -(2 : Int) ^ n := by rw [planeWeight, if_pos rfl]; norm_cast
  have hsame : (List.range n).map (fun p => if (toU (n + 1) x).testBit p then planeWeight (n + 1) p else 0)
      = (List.range n).map (fun p => if (toU (n + 1) x).testBit p then (2 : Int) ^ p else 0) :=
    List.map_congr_left fun p hp => by rw [hplane p (List.mem_range.mp hp)]
  have hpow : ((2 ^ (n + 1) : Nat) : Int) = 2 ^ n + 2 ^ n := by push_cast; ring
  have hpos : (0 : Int) < 2 ^ n := by positivity
  have hlt : toU (n + 1) x < 2 ^ (n + 1) := (Int.toNat_lt (Int.emod_nonneg _ (by positivity))).mpr (Int.emod_lt_of_pos _ (by positivity))
  have hall := sum_testBit (n + 1) (toU (n + 1) x) hlt
  rw [List.range_succ, List.map_append, List.sum_append] at hall ⊢
  rw [hsame, eq_sub_of_add_eq hall]
  simp only [List.map_cons, List.map_nil, List.sum_cons, List.sum_nil, hsign, add_zero]
  obtain hneg | hnonneg := lt_or_ge x 0
  · have hval : (toU (n + 1) x : Int) = x + (2 ^ n + 2 ^ n) := by
      simp only [toU, hpow]
      rw [← Int.add_emod_right, Int.emod_eq_of_lt (by omega) (by omega), Int.toNat_of_nonneg (by omega)]
    have hbit : (toU (n + 1) x).testBit n = true := testBit_of_high (by zify; omega) hlt
    rw [hbit, hval]
    simp only [if_true]
    ring
  · have hval : (toU (n + 1) x : Int) = x := by
      simp only [toU, hpow]
      rw [Int.emod_eq_of_lt (by omega) (by omega), Int.toNat_of_nonneg (by omega)]
    have hbit : (toU (n + 1) x).testBit n = false := Nat.testBit_lt_two_pow (by zify; omega)
    rw [hbit, hval]
    simp

/-- The value of a digit of 4 bits, by its sign. -/
theorem digitVal_toU_high (w : Int) (hlow : -8 ≤ w) (hhigh : w ≤ 7) : digitVal true (toU 4 w) = w := by
  interval_cases w <;> rfl

theorem digitVal_toU_low (w : Int) (hlow : 0 ≤ w) (hhigh : w ≤ 15) : digitVal false (toU 4 w) = w := by
  interval_cases w <;> rfl

/-- Settles O40: the planes by the weights of the bits of a number, the digits by division by 16 and 256. -/
theorem planesAndDigitsRecombine : Obligations.PlanesAndDigitsRecombine := by
  refine ⟨fun b x hb hlow hhigh => ?planes, fun w hlow hhigh => ?four, fun w hlow hhigh => ?eight, fun w hlow hhigh => ?twelve⟩
  case planes =>
    obtain ⟨n, rfl⟩ := Nat.exists_eq_add_of_le' hb
    exact planes_sum n x hlow hhigh
  case four => exact ⟨_, rfl, digitVal_toU_high w hlow hhigh⟩
  case eight =>
    refine ⟨_, _, rfl, ?_⟩
    rw [digitVal_toU_high (w / 16) (by omega) (by omega), digitVal_toU_low (w % 16) (by omega) (by omega)]
    omega
  case twelve =>
    refine ⟨_, _, _, rfl, ?_⟩
    rw [digitVal_toU_high (w / 256) (by omega) (by omega), digitVal_toU_low (w % 256 / 16) (by omega) (by omega),
      digitVal_toU_low (w % 16) (by omega) (by omega)]
    omega

end Sys2Proof.Machine

end

section
/-! SUPPORT. Transactions of the host: how a PRD, PWR, MRD, MWR or CPL comes to what it does, and the statements about them
(11 R412 to R419). -/

set_option Elab.async false

namespace Sys2Proof.Machine

/-! ### The way of a transaction (11 R413, R417) -/

theorem payloadOf_self {len : Nat} {data : List Byte} (hlen : data.length = len) : payloadOf len data = data := by
  simp [payloadOf, hlen]

/-- A field of a field is a field. -/
theorem bits_bits {n lo w lo' w' : Nat} (h : lo' + w' ≤ w) : bits (bits n lo w) lo' w' = bits n (lo + lo') w' := by
  simp only [bits, Nat.shiftRight_eq_div_pow]
  obtain ⟨k, rfl⟩ := Nat.exists_eq_add_of_le h
  rw [show lo' + w' + k = lo' + (w' + k) by omega, pow_add 2 lo' (w' + k), Nat.mod_mul_right_div_self, Nat.div_div_eq_div_mul,
    ← pow_add, pow_add 2 w' k, Nat.mod_mul_right_mod]

section
variable {s : State} {h : Nat} {data : List Byte}

/-- A transaction whose tcrc holds, by its type. -/
theorem transaction_request (hup : s.hl.state = .up) (hdata : payloadOf (if bits h 0 8 = 1 then 0 else bits h 32 13) data = data)
    (htcrc : tcrcOk h data = true) (htype : bits h 0 8 ∈ [1, 2, 3, 4]) : s.transaction h data = s.hostOrder h data := by
  simp only [State.transaction, State.hostOpen, hup, hdata, htcrc, decide_true, not_true_eq_false, if_false]
  obtain ht | ht | ht | ht : bits h 0 8 = 1 ∨ bits h 0 8 = 2 ∨ bits h 0 8 = 3 ∨ bits h 0 8 = 4 := by simpa using htype
  all_goals simp only [ht]

theorem transaction_cpl (hup : s.hl.state = .up) (hdata : payloadOf (if bits h 0 8 = 1 then 0 else bits h 32 13) data = data)
    (htcrc : tcrcOk h data = true) (htype : bits h 0 8 = 7) (hgood : badCpl h = false) :
    s.transaction h data = s.onCpl (bits h 12 12) (bits h 24 8) data := by
  simp only [State.transaction, State.hostOpen, hup, hdata, htcrc, decide_true, not_true_eq_false, if_false]
  simp only [htype, hgood, Bool.false_eq_true, if_false]

theorem transaction_tcrc (hup : s.hl.state = .up) (hdata : payloadOf (if bits h 0 8 = 1 then 0 else bits h 32 13) data = data)
    (htcrc : tcrcOk h data = false) : s.transaction h data = s.frameFails := by
  simp only [State.transaction, State.hostOpen, hup, hdata, htcrc, decide_true, not_true_eq_false, Bool.false_eq_true,
    not_false_eq_true, if_true, if_false]

/-- With none before it, a request that need not wait is served. -/
theorem hostOrder_serve (hheld : s.hl.held = []) (hwait : s.hostWaits h data = false) : s.hostOrder h data = s.serveHost h data := by
  simp only [State.hostOrder, hheld, hwait, ne_eq, not_true_eq_false, Bool.false_eq_true, or_self, if_false]

theorem hostWaits_object (htype : bits h 0 8 = 1 ∨ bits h 0 8 = 2) : s.hostWaits h data = false := by
  rcases htype with ht | ht <;> simp [State.hostWaits, ht]

theorem hostWaits_bad (hbad : badHeader h = true) : s.hostWaits h data = false := by simp [State.hostWaits, hbad]

theorem serveHost_bad (hbad : badHeader h = true) :
    s.serveHost h data = s.answer (.host (bits h 12 12)) 0 0 (.err errMalformed 0) := by
  simp only [State.serveHost, hbad, if_true]

theorem serveHost_prd (hgood : badHeader h = false) (htype : bits h 0 8 = 1) : s.serveHost h data =
    s.dictRead (.host (bits h 12 12)) (bits h 64 16) (bits h 80 8) (bits h 88 24) (bits h 32 13) := by
  simp only [State.serveHost, hgood, htype, Bool.false_eq_true, if_false, bits_bits (by norm_num : 0 + 16 ≤ 64),
    bits_bits (by norm_num : 16 + 8 ≤ 64), bits_bits (by norm_num : 24 + 24 ≤ 64), Nat.reduceAdd]

theorem serveHost_pwr (hgood : badHeader h = false) (htype : bits h 0 8 = 2) : s.serveHost h data =
    s.dictWrite (.host (bits h 12 12)) (bits h 64 16) (bits h 80 8) data (bits h 88 24) := by
  simp only [State.serveHost, hgood, htype, Bool.false_eq_true, if_false, bits_bits (by norm_num : 0 + 16 ≤ 64),
    bits_bits (by norm_num : 16 + 8 ≤ 64), bits_bits (by norm_num : 24 + 24 ≤ 64), Nat.reduceAdd]

end

/-! ### Objects (11 R418, 12 R432) -/

section
variable {s : State} {tag : Nat} (hreach : Reaches (.host tag) s) (index sub : Nat)
include hreach

/-- A PRD that the Barker serves reads the part it names. -/
theorem dictRead_of_reaches (off len : Nat) : s.dictRead (.host tag) index sub off len = s.readNow (.host tag) index sub off len := by
  obtain ⟨⟨hlive, hpower⟩, hbarker, -, hup, -⟩ := hreach
  simp [State.dictRead, State.stopped, State.portOpen, State.barker, State.answerRoom, isField, hlive, hpower, hbarker, hup]

theorem portWrite_host (data : List Byte) : s.portWrite (.host tag) index sub data = s.dictWrite (.host tag) index sub data := by
  obtain ⟨-, -, -, -, hheld⟩ := hreach
  simp [State.portWrite, hheld]

theorem readNow_value (off len : Nat) (hwait : s.mustWait index sub = none) {b : List Byte} (hobj : s.readObj index sub = (s, .ok b)) :
    s.readNow (.host tag) index sub off len = s.answer (.host tag) index sub (.ok ((b.drop off).take len)) := by
  simp only [State.readNow, servedIndex_of_reaches hreach, hwait, hobj, isField, not_true_eq_false, Bool.false_eq_true, if_false]

theorem readNow_missing (off len : Nat) (hwait : s.mustWait index sub = none) (hnone : objExists index sub = false) :
    s.readNow (.host tag) index sub off len = s.answer (.host tag) index sub (.err errNoObject 0) := by
  simp only [State.readNow, servedIndex_of_reaches hreach, hwait, State.readObj, hnone, Bool.false_eq_true, not_true_eq_false,
    not_false_eq_true, if_true, if_false]

end

/-- A read of an object that is no cursor's entry changes nothing. -/
theorem readObj_plain {s : State} {index sub : Nat} {b : List Byte} (hobj : objExists index sub = true)
    (hacc : (objRow index sub).map (·.1.acc) ≠ some 2) (hdir : ¬ (index = 0 ∧ sub = 3)) (hlog : ¬ (index = 0x7800 ∧ sub = 3))
    (hval : s.value index sub = some b) : s.readObj index sub = (s, .ok b) := by
  simp only [State.readObj, hobj, not_true_eq_false, if_false, if_neg hacc, if_neg hdir, if_neg hlog, hval]

/-- Settles O27: each transaction by its way to the Barker, then the rule of the object. -/
theorem hostReadsAndWritesObjects : Obligations.HostReadsAndWritesObjects := by
  intro h data s hreach i k
  have hrun := reaches_running hreach
  obtain ⟨-, -, -, hup, hheld⟩ := id hreach
  have hempty {n : Nat} (htype : bits h.toNat 0 8 = 1) : payloadOf (if bits h.toNat 0 8 = 1 then 0 else n) [] = [] := by
    rw [if_pos htype]; rfl
  have hserve (htype : bits h.toNat 0 8 = 1) (htcrc : tcrcOk h.toNat [] = true) :
      exec (.prd h) s = .next (s.serveHost h.toNat []) :=
    live_next hrun ((transaction_request hup (hempty htype) htcrc (by simp [htype])).trans
      (hostOrder_serve hheld (hostWaits_object (.inl htype))))
  refine ⟨fun htype hgood htcrc hobj hacc hdir hlog hwait b hval => ?read, fun htype hgood htcrc hnone hwait => ?missing,
    fun htype hgood htcrc hlen hoff => ?write, fun htype htcrc => ?tcrc, fun htype hbad htcrc => ?bad⟩
  case read =>
    rw [hserve htype htcrc, serveHost_prd hgood htype, dictRead_of_reaches hreach,
      readNow_value hreach i k _ _ hwait (readObj_plain hobj hacc hdir hlog hval)]
  case missing =>
    rw [hserve htype htcrc, serveHost_prd hgood htype, dictRead_of_reaches hreach, readNow_missing hreach i k _ _ hwait hnone]
  case write =>
    have hwhole : payloadOf (if bits h.toNat 0 8 = 1 then 0 else bits h.toNat 32 13) data = data := by
      rw [if_neg (by omega)]; exact payloadOf_self hlen
    have hpwr : exec (.pwr h data) s = .next (s.portWrite (.host (bits h.toNat 12 12)) i k data) := by
      refine live_next hrun ((transaction_request hup hwhole htcrc (by simp [htype])).trans ?_)
      rw [hostOrder_serve hheld (hostWaits_object (.inr htype)), serveHost_pwr hgood htype, hoff, portWrite_host hreach]
    have hi : (BitVec.ofNat 16 i).toNat = i := Nat.mod_eq_of_lt (Nat.mod_lt _ (by norm_num))
    have hk : (BitVec.ofNat 8 k).toNat = k := Nat.mod_eq_of_lt (Nat.mod_lt _ (by norm_num))
    exact ⟨hpwr, hpwr.trans (live_next hrun (by rw [hi, hk])).symm⟩
  case tcrc => exact live_next hrun (transaction_tcrc hup (hempty htype) htcrc)
  case bad => rw [hserve htype htcrc, serveHost_bad hbad]

/-! ### Memory (11 R416) -/

section
variable {s : State} {h : Nat} {data : List Byte} (hgood : badHeader h = false) (hspace : bits h 8 2 = 1)
include hgood hspace

theorem serveHost_mrd (htype : bits h 0 8 = 3) (hspan : badSpan 1 (bits h 64 64) (bits h 192 13) = false) :
    s.serveHost h data = (s.hostRead 1 (bits h 64 64) (bits h 192 13)).1.answer (.host (bits h 12 12)) 0 0
      (s.hostRead 1 (bits h 64 64) (bits h 192 13)).2 := by
  simp [State.serveHost, hgood, htype, hspace, hspan]

theorem serveHost_mwr (htype : bits h 0 8 = 4) (hspan : badSpan 1 (bits h 64 64) data.length = false) :
    s.serveHost h data = (s.hostWrite 1 (bits h 64 64) data).1.answer (.host (bits h 12 12)) 0 0 (s.hostWrite 1 (bits h 64 64) data).2 := by
  simp [State.serveHost, hgood, htype, hspace, hspan]

end

section
variable {s : State} {a n : Nat} {data : List Byte} {write : Bool}

theorem hostPlace_physical (hfirst : physOk a = true) (hlast : physOk (a + n - 1) = true) : s.hostPlace write 1 a n = .ok a := by
  simp [State.hostPlace, hfirst, hlast]

theorem hostPlace_nothing (hfirst : physOk a = false) : s.hostPlace write 1 a n = .error (.err errNoAddr 0) := by
  simp [State.hostPlace, hfirst]

theorem hostRead_physical (hfirst : physOk a = true) (hlast : physOk (a + n - 1) = true) (hclean : s.mem.errs a n = false) :
    s.hostRead 1 a n = (s, .ok (s.mem.readN a n)) := by
  simp [State.hostRead, hostPlace_physical hfirst hlast, State.hostCached, hclean]

theorem hostRead_nothing (hfirst : physOk a = false) : s.hostRead 1 a n = (s, .err errNoAddr 0) := by
  simp [State.hostRead, hostPlace_nothing hfirst]

theorem hostWrite_physical (hfirst : physOk a = true) (hlast : physOk (a + data.length - 1) = true)
    (hclean : s.mem.storeErrs a data.length = false) : s.hostWrite 1 a data = (s.store a data, .ok []) := by
  simp [State.hostWrite, hostPlace_physical hfirst hlast, State.hostCached, hclean]

theorem hostWrite_nothing (hfirst : physOk a = false) : s.hostWrite 1 a data = (s, .err errNoAddr 0) := by
  simp [State.hostWrite, hostPlace_nothing hfirst]

end

/-- A sound MRD carries no data. -/
theorem badHeader_mrd_length {h : Nat} (hgood : badHeader h = false) (htype : bits h 0 8 = 3) : bits h 32 13 = 0 := by
  by_contra hlen
  simp [badHeader, htype, hlen] at hgood

/-- Settles O28: the place of the bytes is the address itself, and what is read or stored there follows the laws of memory. -/
theorem hostReadsAndWritesMemory : Obligations.HostReadsAndWritesMemory := by
  intro h data s hrun hup hheld hgood hspace tag a n
  refine ⟨fun htype htcrc hspan hwait => ?reads, fun htype htcrc hlen hspan hwait => ?writes⟩
  case reads =>
    have hlen : bits h.toNat 32 13 = 0 := badHeader_mrd_length hgood htype
    have hexec : exec (.mrd h) s = .next ((s.hostRead 1 a n).1.answer (.host tag) 0 0 (s.hostRead 1 a n).2) :=
      live_next hrun ((transaction_request hup (by rw [if_neg (by omega), hlen]; rfl) htcrc (by simp [htype])).trans
        ((hostOrder_serve hheld hwait).trans (serveHost_mrd hgood hspace htype hspan)))
    exact ⟨fun hfirst hlast hclean => by rw [hexec, hostRead_physical hfirst hlast hclean],
      fun hfirst => by rw [hexec, hostRead_nothing hfirst]⟩
  case writes =>
    have hexec : exec (.mwr h data) s = .next ((s.hostWrite 1 a data).1.answer (.host tag) 0 0 (s.hostWrite 1 a data).2) :=
      live_next hrun ((transaction_request hup (by rw [if_neg (by omega)]; exact payloadOf_self hlen) htcrc (by simp [htype])).trans
        ((hostOrder_serve hheld hwait).trans (serveHost_mwr hgood hspace htype hspan)))
    refine ⟨fun hfirst hlast hclean => ⟨by rw [hexec, hostWrite_physical hfirst hlast hclean], fun x hx => ?_, fun hwf j hj => ?_⟩,
      fun hfirst => by rw [hexec, hostWrite_nothing hfirst]⟩
    · exact State.read_store_other s a x data hx
    · exact State.read_store_inside a data hwf j hj

/-! ### Completions (11 R414, R415, R419) -/

section
variable {s : State} {r : Req} {data : List Byte} {failed : Bool}

theorem endHostReq_stream (hctx : r.ctx ≠ 64) : s.endHostReq r data failed =
    ({ s with hl := { s.hl with mwrOut := s.hl.mwrOut.filter (· ≠ r.tag) } }).arrive r data (if failed then some 0 else none) := by
  simp only [State.endHostReq, if_neg hctx]

theorem endHostReq_epoch (hctx : r.ctx = 64) : s.endHostReq r data failed =
    ({ s with hl := { s.hl with mwrOut := s.hl.mwrOut.filter (· ≠ r.tag) } }).epochHostWrite r.tag failed := by
  simp only [State.endHostReq, if_pos hctx]

variable {tag status : Nat} (hreq : s.hostReq tag = some r)
include hreq

theorem onCpl_ok (hok : status = 0) (hread : r.write = false) (hlen : data.length = r.len) :
    s.onCpl tag status data = s.endHostReq r data false := by
  simp [State.onCpl, hreq, hok, hread, hlen]

theorem onCpl_error (herr : status ≠ 0) : s.onCpl tag status data = s.endHostReq r [] true := by
  simp [State.onCpl, hreq, herr]

theorem onCpl_write (hwrite : r.write = true) : s.onCpl tag status data = s.endHostReq r [] (decide (status ≠ 0)) := by
  by_cases hok : status = 0 <;> simp [State.onCpl, hreq, hok, hwrite]

end

/-- Settles O29: a completion by the request whose tag it carries, a timeout by its moment. -/
theorem deviceRequestsEndOnCompletions : Obligations.DeviceRequestsEndOnCompletions := by
  refine ⟨fun h data s hrun hup htype hgood htcrc hlen => ?cpl, fun tag r s hrun hreq hctx => ⟨fun hdue => ?timeout, fun hearly => ?early⟩⟩
  case cpl =>
    have hexec : exec (.cpl h data) s = .next (s.onCpl (bits h.toNat 12 12) (bits h.toNat 24 8) data) :=
      live_next hrun (transaction_cpl hup (by rw [if_neg (by omega)]; exact payloadOf_self hlen) htcrc htype hgood)
    refine ⟨fun r hreq hctx => ⟨fun hok hread hwhole => ?_, fun herr => ?_⟩, fun r hreq hctx hwrite => ?_, fun hnone => ?_⟩
    · exact ⟨_, by rw [hexec, onCpl_ok hreq hok hread hwhole, endHostReq_stream hctx]; rfl, rfl⟩
    · exact ⟨_, by rw [hexec, onCpl_error hreq herr, endHostReq_stream hctx]; rfl, rfl⟩
    · exact ⟨_, by rw [hexec, onCpl_write hreq hwrite, endHostReq_epoch hctx], rfl⟩
    · exact ⟨_, by rw [hexec, State.onCpl, hnone], rfl⟩
  case timeout =>
    refine ⟨_, live_next hrun ?_, rfl⟩
    simp only [State.cplTimeout, hreq]
    rw [if_neg (by omega), endHostReq_stream hctx]
    rfl
  case early =>
    refine live_next hrun ?_
    simp only [State.cplTimeout, hreq]
    rw [if_pos hearly]

end Sys2Proof.Machine

end

section
/-! SUPPORT. The session and the field port's frames, transmission and faults, and the statements about them (11 R424, 12 R449 to
R462). -/

set_option Elab.async false

namespace Sys2Proof.Machine

/-! ### The session ends with the link (11 R424) -/

/-- The requests under way end after the session and the state are those of a link that is Down. -/
theorem linkDown_hl (s : State) :
    s.linkDown.hl.session = false ∧ s.linkDown.hl.state = .down ∧ ∀ e ∈ s.hl.evtQueue, e ∈ s.linkDown.hl.evtQueue := by
  unfold State.linkDown
  extract_lets _ _ _ s₁
  split
  · exact (Calm.foldl (fun _ _ h => Calm.ite h.endHostReq h) (Calm.refl s₁)).2.2
  · exact (Calm.refl s₁).2.2

/-- Settles O22: the link through `linkDown_hl`, the resets through what they leave of the host link. -/
theorem sessionEndsWithLinkAndResets : Obligations.SessionEndsWithLinkAndResets :=
  ⟨linkDown_hl, fun s level cause hlive => by rw [assertReset_hl hlive]⟩

/-! ### Frames for this node (12 R449, R450, R456) -/

/-- Whether a frame is for this node, from another node, and of a service that a master sends. -/
def State.fpMeant (s : State) (id : Nat) : Prop :=
  bits id 0 8 = s.obj 0x0500 4 ∧ bits id 8 8 ≠ 0 ∧ bits id 8 8 ≠ 0xFF ∧ bits id 8 8 ≠ s.obj 0x0500 4 ∧ masterService (bits id 16 8) = true

section
variable {s : State} {id : Nat} {d : List Byte}

theorem fpFrame_other (h : ¬ s.fpMeant id) : s.fpFrame id d = s := by
  refine if_pos ?_
  by_contra hmeant
  simp only [not_or, not_not] at hmeant
  exact h hmeant

theorem fpFrame_meant (h : s.fpMeant id) : s.fpFrame id d =
    if s.fp.state ≠ .active then s.count 0x2E
    else if ¬ s.barker then s.holdFrame { id := id, service := bits id 16 8, node := bits id 8 8, bytes := d }
    else s.fpServe (bits id 16 8) (bits id 8 8) (s.obj 0x0500 4) d s.winh := by
  obtain ⟨hown, hzero, hall, hself, hservice⟩ := h
  simp only [State.fpFrame]
  refine if_neg ?_
  simp only [not_or, not_not]
  exact ⟨hown, hzero, hall, hself, hservice⟩

end

/-- Settles O36: a frame that is not meant does nothing, one that is meets a port that is not Active. -/
theorem fieldPortDiscardsWhenNotActive : Obligations.FieldPortDiscardsWhenNotActive := by
  intro id d s i hrun hi
  have hexec : exec i s = .next (s.fpFrame id.toNat d) := by
    rcases hi with rfl | rfl | rfl | rfl | rfl | rfl | rfl <;> exact live_running hrun
  refine ⟨fun hother => ?_, fun hstate => ?_⟩
  · rw [hexec, fpFrame_other]
    rintro ⟨hown, hzero, hall, hself, -⟩
    rcases hother with h | h | h | h
    exacts [h hown, hzero h, hall h, hself h]
  · by_cases hmeant : s.fpMeant id.toNat
    · exact .inr (by rw [hexec, fpFrame_meant hmeant, if_pos hstate])
    · exact .inl (by rw [hexec, fpFrame_other hmeant])

/-! ### Requests served (12 R460 to R462) -/

section
variable {s : State} {node own : Nat} {d : List Byte} {refuse : Bool} {index sub : Nat}

theorem fpRespond_of_room {f : FpFrame} (h : s.fp.rsp.length < 32) :
    s.fpRespond f = { s with fp := { s.fp with rsp := s.fp.rsp ++ [f] } } := if_pos h

theorem fpWrite_whole (hshort : pByte d 5 ≤ 56) (hlen : 8 + pByte d 5 ≤ d.length) : s.fpWrite node d index sub =
    s.writeNow (.field node (pByte d 0) 4) index sub ((d.drop 8).take (pByte d 5)) 0 := by
  simp only [State.fpWrite]
  rw [if_neg (by omega)]

theorem fpSegInit_write (hroom : s.fp.rsp.length < 32) (hmode : pByte d 6 % 2 = 1) (hnone : s.fp.seg = none) (hlen : 12 ≤ d.length)
    (hpos : 0 < leAt d 8 4) (hmax : leAt d 8 4 ≤ 65535) : s.fpSegInit node d index sub = { s with fp := { s.fp with
      seg := some { node := node, tid := pByte d 0, write := true, index := index, sub := sub, total := leAt d 8 4, last := s.time }
      rsp := s.fp.rsp ++ [{ service := 6, node := node, bytes := fpHeader (pByte d 0) 0 index sub 4 0 ++ leBytes 4 (leAt d 8 4) }] } } := by
  have htotal : leAt (d ++ List.replicate 12 0) 8 4 = leAt d 8 4 := by
    simp only [leAt]
    rw [List.drop_append_of_le_length (by omega), List.take_append_of_le_length (by rw [List.length_drop]; omega)]
  simp only [State.fpSegInit, htotal, State.openSeg, hnone, Option.filter_none, Option.any_none, Bool.false_eq_true, if_false]
  rw [if_neg (by omega), if_neg (by omega)]
  exact fpRespond_of_room hroom

variable {g : Seg} (hseg : s.fp.seg = some g) (hopen : g.done = false)
include hseg hopen

theorem openSeg_of_open : s.openSeg = some g := by simp [State.openSeg, hseg, hopen]

theorem fpSegment_next (hroom : s.fp.rsp.length < 32) (hwrite : g.write = true) (hnode : g.node = node) (htid : g.tid = pByte d 0)
    (hn : pByte d 2 = g.next % 256) (hlen : d.length = 64) (hleft : 60 < g.total - g.data.length) (hmark : pByte d 3 % 2 = 0) :
    s.fpSegment node d false = { s with fp := { s.fp with
      seg := some { g with data := g.data ++ d.drop 4, next := g.next + 1, last := s.time, done := false, status := 0 }
      rsp := s.fp.rsp ++ [{ service := 8, node := node, bytes := [BitVec.ofNat 8 g.tid, 0, BitVec.ofNat 8 (pByte d 2), 0] }] } } := by
  have hlast : decide (g.total - g.data.length ≤ 60) = false := decide_eq_false (by omega)
  have hdata : (d.drop 4 ++ List.replicate 60 0).take (min 60 (g.total - g.data.length)) = d.drop 4 := by
    have hdrop : (d.drop 4).length = 60 := by rw [List.length_drop, hlen]
    rw [min_eq_left hleft.le, ← hdrop, List.take_left]
  have hrepeat : ¬ (0 < g.next ∧ pByte d 2 = (g.next - 1) % 256) := by omega
  simp only [State.fpSegment, hseg]
  rw [if_neg (by simp [hwrite, hnode, htid]), if_neg hrepeat]
  simp only [hopen, hlast, hdata, hn, hmark, Bool.false_eq_true, if_false, ne_eq, not_true_eq_false, zero_ne_one, decide_false, or_self]
  rw [fpRespond_of_room, ← hnode]
  · rfl
  · exact hroom

theorem fpSegAck_sent (hread : g.write = false) (hnode : g.node = node) (htid : g.tid = pByte d 0) (hn : pByte d 2 = (g.next - 1) % 256) :
    s.fpSegAck node d = if g.total ≤ 60 * g.next then { s with fp := { s.fp with seg := none } }
      else ({ s with fp := { s.fp with seg := some { g with next := g.next + 1, last := s.time } } }).fpRespond (g.frame g.next) := by
  simp only [State.fpSegAck, openSeg_of_open hseg hopen]
  rw [if_neg (by simp [hread, hnode, htid]), if_pos hn]

theorem fpAbort_open (hnode : g.node = node) (htid : g.tid = pByte d 0) :
    s.fpAbort node d = { s with fp := { s.fp with seg := none } } := by
  simp only [State.fpAbort, openSeg_of_open hseg hopen, hnode, htid, and_self, if_true]

end

section
variable {s : State} {node own : Nat} {d : List Byte} {refuse : Bool}

theorem fpServe_of_room (service : Nat) (hroom : s.fp.rsp.length < 32) :
    ¬ (service ≠ 9 ∧ ¬ s.answerRoom (.field node 0 0) = true) := by
  simp [State.answerRoom, fpRspDepth, hroom]

theorem fpReset_taken {index sub : Nat} (hoption : bit s.rst.options 24 = true) (hown : pByte d 8 = own) (hnot : pByte d 9 = own ^^^ 0xFF) :
    s.fpReset node own d false index sub = { s with fp := { s.fp with
      rsp := { service := 0x0C, node := node, bytes := fpHeader (pByte d 0) 0 index sub 0 0 } :: s.fp.rsp
      resetAt := some (s.fp.resetAt.getD s.time) } } := by
  simp [State.fpReset, hoption, hown, hnot, fpReply]

end

/-- Settles O35: a frame that is meant reaches the Barker, which serves it by its service. -/
theorem fieldPortFramesAreServed : Obligations.FieldPortFramesAreServed := by
  intro id d s hrun hstate hbarker hroom hown hzero hall hself node index
  have hserved : s.barker = true := hbarker
  have hserve (hservice : masterService (bits id.toNat 16 8) = true) :
      s.live (s.fpFrame id.toNat d) = .next (s.fpServe (bits id.toNat 16 8) node (s.obj 0x0500 4) d s.winh) := by
    rw [live_running hrun, fpFrame_meant ⟨hown, hzero, hall, hself, hservice⟩, if_neg (not_not.mpr hstate), if_neg (not_not.mpr hserved)]
  have hroomy (service : Nat) := fpServe_of_room (node := node) service hroom
  refine ⟨fun hservice => ?read, fun hservice hwinh hshort hlen => ?write, fun hservice hwinh => ?inhibited,
    fun hservice hwinh hmode hnone hlen hpos hmax => ?init, fun g hseg hservice hwinh hwrite hopen hnode htid hn hlen hleft hmark => ?segment,
    fun g hseg hservice hread hopen hnode htid hn => ?ack, fun g hseg hservice hopen hnode htid => ?abort,
    fun hservice hoption hwinh hid hnot => ?reset⟩
  case read =>
    refine (hserve (by rw [hservice]; rfl)).trans ?_
    simp only [State.fpServe, if_neg (hroomy _), hservice]
    rfl
  case write =>
    refine (hserve (by rw [hservice]; rfl)).trans ?_
    simp only [State.fpServe, if_neg (hroomy _), hservice, hwinh, Bool.false_eq_true, if_false, fpWrite_whole hshort hlen]
    rfl
  case inhibited =>
    refine (hserve (by rw [hservice]; rfl)).trans ?_
    simp only [State.fpServe, if_neg (hroomy _), hservice, hwinh, if_true]
    rfl
  case init =>
    refine (hserve (by rw [hservice]; rfl)).trans ?_
    simp only [State.fpServe, if_neg (hroomy _), hservice, hwinh, Bool.false_eq_true, false_and, if_false]
    rw [fpSegInit_write hroom hmode hnone hlen hpos hmax]
  case segment =>
    refine (hserve (by rw [hservice]; rfl)).trans ?_
    simp only [State.fpServe, if_neg (hroomy _), hservice, hwinh]
    rw [fpSegment_next hseg hopen hroom hwrite hnode htid hn hlen hleft hmark]
  case ack =>
    have hack : exec (.segAck id d) s = .next (s.fpSegAck node d) := by
      refine (hserve (by rw [hservice]; rfl)).trans ?_
      simp only [State.fpServe, if_neg (hroomy _), hservice]
    rw [hack, fpSegAck_sent hseg hopen hread hnode htid hn]
    refine ⟨fun hmore => ?_, fun hend => by rw [if_pos hend]⟩
    rw [if_neg (by omega), fpRespond_of_room]
    exact hroom
  case abort =>
    refine (hserve (by rw [hservice]; rfl)).trans ?_
    simp only [State.fpServe, if_neg (hroomy _), hservice]
    rw [fpAbort_open hseg hopen hnode htid]
  case reset =>
    refine (hserve (by rw [hservice]; rfl)).trans ?_
    simp only [State.fpServe, if_neg (hroomy _), hservice, hwinh]
    rw [fpReset_taken hoption hid hnot]

/-! ### A port that enters another state (12 R450, R452, R455) -/

section
variable (s : State) (st : FpSt) (code n : Nat)

/-- Of the port, entering a state changes the state, the open transfer, the wait for recessive bits and the events that wait. -/
theorem fpEnter_fp : ∃ seg wait evt late, (s.fpEnter st).fp =
    { s.fp with state := st, seg := seg, pinnedWait := wait, evt := evt, late := late } := by
  by_cases h : s.fp.state = st
  · exact ⟨s.fp.seg, s.fp.pinnedWait, s.fp.evt, s.fp.late, by rw [fpEnter_same h, ← h]⟩
  · rw [fpEnter_other h, event_fp]
    exact ⟨_, _, _, _, rfl⟩

theorem fpEnter_objs : (s.fpEnter st).dict.objs = s.dict.objs := by
  by_cases h : s.fp.state = st
  · rw [fpEnter_same h]
  · obtain ⟨seq, log, hdict⟩ := event_dict (s.fpIn st) 4 0 4 st.code
    rw [fpEnter_other h, hdict]
    rfl

theorem setObj_enable : s.setObj 0x0500 2 0 = { s with dict := { s.dict with objs := mset 0 s.dict.objs 0x50002 0 } } := by
  rfl

/-- A port that stops transmitting by itself: its state, and what else changes of it. -/
theorem fpFail_fp : ∃ seg wait evt late, (s.fpFail st code n).fp =
    { s.fp with state := st, seg := seg, pinnedWait := wait, evt := evt, late := late } := by
  obtain ⟨seg, wait, evt, late, hfp⟩ := fpEnter_fp (s.setObj 0x0500 2 0) st
  rw [setObj_enable] at hfp
  rw [State.fpFail, event_fp, setObj_enable, hfp]
  exact ⟨seg, wait, _, _, rfl⟩

theorem fpFail_objs : (s.fpFail st code n).dict.objs = mset 0 s.dict.objs 0x50002 0 := by
  obtain ⟨seq, log, hdict⟩ := event_dict ((s.setObj 0x0500 2 0).fpEnter st) 4 1 code (field 0 8 (min n 255))
  rw [State.fpFail, hdict]
  exact (fpEnter_objs _ st).trans (by rw [setObj_enable])

/-- What is entered with no transfer open. -/
theorem fpEnter_fields {st : FpSt} (h : s.fp.state ≠ st) : (s.fpEnter st).fp.pinnedWait = false ∧
    (s.fpEnter st).fp.seg = if st = .active then s.fp.seg else none := by
  rw [fpEnter_other h, event_fp]
  exact ⟨rfl, rfl⟩

/-- Of the port, error flags sent change at most what stopping it changes, and the flags kept. -/
theorem errorFlags_fp : ∃ st seg wait evt late flags, (s.errorFlags n).fp =
    { s.fp with state := st, seg := seg, pinnedWait := wait, evt := evt, late := late, errFlags := flags } := by
  unfold State.errorFlags
  extract_lets kept _ s₁
  split
  · obtain ⟨seg, wait, evt, late, hfp⟩ := fpFail_fp s₁ .flagLimit 3 kept.length
    exact ⟨_, seg, wait, evt, late, kept, hfp⟩
  · exact ⟨_, _, _, _, _, kept, rfl⟩

end

/-! ### Transmission (12 R453, R454, R457) -/

section
variable {s : State} (hstate : s.fp.state = .active) (hpin : s.fp.silentPin = false) (herr : s.fp.txErr ≤ 255) (htoken : 0 < s.fp.tokens)

include hstate hpin herr htoken in
theorem mayStart_of_active : s.mayStart = true := by simp [State.mayStart, hstate, hpin, herr, htoken]

theorem mayStart_no_token (h : s.fp.tokens = 0) : s.mayStart = false := by simp [State.mayStart, h]

theorem nextFrame_response {f : FpFrame} {rest : List FpFrame} (h : s.fp.rsp = f :: rest) :
    s.nextFrame = some (f, { s with fp := { s.fp with rsp := rest } }) := by simp only [State.nextFrame, h]

theorem nextFrame_event {e : EventRec} {rest : List EventRec} (hrsp : s.fp.rsp = []) (h : s.fp.evt = e :: rest) :
    s.nextFrame = some (s.eventFrame e, { s with fp := { s.fp with evt := rest } }) := by simp only [State.nextFrame, hrsp, h]

theorem nextFrame_none (hrsp : s.fp.rsp = []) (hevt : s.fp.evt = []) : s.nextFrame = none := by simp only [State.nextFrame, hrsp, hevt]

variable {f : FpFrame} {t : State} (hstart : s.mayStart = true) (hnext : s.nextFrame = some (f, t))
include hstart hnext

theorem frameTransmit_lost : s.frameTransmit .lost = s.takeToken := by
  simp only [State.frameTransmit, hstart, hnext, not_true_eq_false, if_false]

theorem frameTransmit_sent : ∃ reset, s.frameTransmit .sent = { t.takeToken with fp := { t.takeToken.fp with
    sent := t.fp.sent ++ [t.onBus f], txErr := t.fp.txErr - 1, resetSent := reset } } := by
  simp only [State.frameTransmit, hstart, hnext, not_true_eq_false, if_false]
  exact ⟨t.fp.resetSent || (t.fp.resetAt.isSome && decide (f.service = 0x0C) && decide (pByte f.bytes 1 = 0)), rfl⟩

/-- A frame spoiled by an error takes its token, raises the count, and leaves the responses. -/
theorem frameTransmit_error : (s.frameTransmit .error).fp.rsp = s.fp.rsp ∧
    (s.frameTransmit .error).fp.txErr = min (s.fp.txErr + 8) 65535 ∧ (s.frameTransmit .error).fp.tokens = s.fp.tokens - 1 := by
  simp only [State.frameTransmit, hstart, hnext, not_true_eq_false, if_false]
  split
  · obtain ⟨st, seg, wait, evt, late, flags, hfp⟩ := errorFlags_fp
      { s.takeToken with fp := { s.takeToken.fp with txErr := min (s.takeToken.fp.txErr + 8) 65535 } } 1
    rw [hfp]
    exact ⟨rfl, rfl, rfl⟩
  · exact ⟨rfl, rfl, rfl⟩

end

theorem tokenRefill_due {s : State} {w : Nat} (hw : s.fp.refillAt = some w) (hdue : w ≤ s.time) (hroom : s.fp.tokens < s.obj 0x0500 9) :
    s.tokenRefill = { s with fp := { s.fp with
      tokens := s.fp.tokens + 1, refillAt := if s.fp.tokens + 1 < s.obj 0x0500 9 then some (w + s.tokenPeriod) else none } } := by
  simp only [State.tokenRefill, hw]
  exact if_neg (by omega)

/-- Settles O37: whether a frame may start, which is next, and what becomes of it. -/
theorem fieldPortTransmitsUnderTheTokenBucket : Obligations.FieldPortTransmitsUnderTheTokenBucket := by
  intro s hrun
  refine ⟨fun hstate hpin herr htoken => ?starts, fun hnone o => ?noToken, fun hrsp hevt o => ?noFrame,
    fun w hw => ⟨fun hdue hroom => ?refill, fun hearly => ?early⟩⟩
  case starts =>
    have hstart := mayStart_of_active hstate hpin herr htoken
    refine ⟨fun f rest h => ?_, fun e rest hrsp h => ?_, fun f rest h => ?_, fun f rest h => ?_⟩
    · obtain ⟨reset, hsent⟩ := frameTransmit_sent hstart (nextFrame_response h)
      exact ⟨_, live_next hrun hsent, rfl, rfl, rfl, rfl, rfl, rfl⟩
    · obtain ⟨reset, hsent⟩ := frameTransmit_sent hstart (nextFrame_event hrsp h)
      exact ⟨_, live_next hrun hsent, rfl, hrsp, rfl, rfl⟩
    · refine live_next hrun ((frameTransmit_lost hstart (nextFrame_response h)).trans ?_)
      simp only [State.takeToken, decide_eq_true_eq, State.tokenPeriod]
    · exact ⟨_, live_running hrun, frameTransmit_error hstart (nextFrame_response h)⟩
  case noToken =>
    exact live_next hrun (if_pos (by rw [mayStart_no_token hnone]; exact Bool.false_ne_true))
  case noFrame =>
    refine live_next hrun ?_
    simp only [State.frameTransmit, nextFrame_none hrsp hevt, ite_self]
  case refill =>
    exact ⟨_, live_next hrun (tokenRefill_due hw hdue hroom), rfl, rfl⟩
  case early =>
    refine live_next hrun ?_
    simp only [State.tokenRefill, hw]
    exact if_pos (.inl hearly)

/-! ### Faults of the port (12 R451, R452, R455, R461, R462) -/

theorem flagLimit_active {s : State} (hstate : s.fp.state = .active) (n : Nat) : s.flagLimit n =
    ({ s with fp := { s.fp with rxErr := min (s.fp.rxErr + n) 255 } }).errorFlags
      (if s.fp.txErr ≤ 127 then min n (128 - s.fp.rxErr) else 0) := by
  simp only [State.flagLimit, if_neg (not_not.mpr hstate)]

/-- Settles O38: each event of the port through the state it makes the port enter. -/
theorem fieldPortFaultConfinement : Obligations.FieldPortFaultConfinement := by
  refine ⟨fun s hrun => ⟨fun herr hstate => ?busOff, fun herr => ?fewErrors, fun hrec hstate => ?recovery, fun hstate n => ?flags,
    fun hwait hstate => ?idle, fun hwait => ?notIdle, fun g hseg hearly => ?segEarly, fun g hseg hdue => ?segDue,
    fun w hw => ⟨fun hdue => ?reset, fun hsent hearly => ?resetEarly⟩⟩, fun s => ⟨?assert, rfl⟩⟩
  case busOff =>
    have hoff : s.busOff = s.fpFail .busOff 2 (s.fp.txErr - 8) := if_neg (by simp [hstate, herr])
    obtain ⟨seg, wait, evt, late, hfp⟩ := fpFail_fp s .busOff 2 (s.fp.txErr - 8)
    refine ⟨_, live_next hrun hoff, by rw [hfp], fpFail_objs .., ?_, rfl⟩
    have hother : (s.setObj 0x0500 2 0).fp.state ≠ .busOff := by rw [setObj_enable, hstate]; decide
    rw [State.fpFail, event_fp]
    exact (fpEnter_fields _ hother).2
  case fewErrors => exact live_next hrun (if_pos (.inl herr))
  case recovery =>
    obtain ⟨seg, wait, evt, late, hfp⟩ := fpEnter_fp { s with fp := { s.fp with recovering := false, txErr := 0, rxErr := 0 } }
      (if s.fp.silentPin then .pinned else .active)
    refine ⟨_, live_next hrun (if_neg (not_not.mpr hrec)), ?_⟩
    rw [hfp]
    exact ⟨rfl, rfl, rfl, rfl⟩
  case flags =>
    intro kept
    have hexec := live_next hrun (flagLimit_active hstate n)
    refine ⟨fun hfew => ?_, fun hmany => ⟨_, hexec.trans (congrArg _ (if_pos ⟨hstate, hmany⟩)), ?_, fpFail_objs ..⟩⟩
    · exact hexec.trans (congrArg _ (if_neg fun h => Nat.not_lt.mpr hfew h.2))
    · obtain ⟨seg, wait, evt, late, hfp⟩ := fpFail_fp { s with fp := { s.fp with rxErr := min (s.fp.rxErr + n) 255, errFlags := kept } }
        .flagLimit 3 kept.length
      exact congrArg Fp.state hfp
  case idle =>
    have hother : s.fp.state ≠ .active := by rw [hstate]; decide
    obtain ⟨seg, wait, evt, late, hfp⟩ := fpEnter_fp s .active
    exact ⟨_, live_next hrun (if_pos ⟨hwait, hstate⟩), by rw [hfp], (fpEnter_fields s hother).1⟩
  case notIdle => exact live_next hrun (if_neg (by simp [hwait]))
  case segEarly =>
    refine live_next hrun ?_
    simp only [State.segTimeout, hseg, if_pos hearly]
  case segDue =>
    have hend : s.segTimeout = s.abortSeg := by
      simp only [State.segTimeout, hseg]
      exact if_neg (by omega)
    refine ⟨_, live_next hrun hend, ?_⟩
    simp only [State.abortSeg, hseg]
    cases hdone : g.done
    · refine ⟨?_, fun _ hroom => ?_⟩
      · simp only [Bool.false_eq_true, if_false, State.fpRespond]
        split <;> rfl
      · rw [if_neg Bool.false_ne_true, fpRespond_of_room]
        exact hroom
    · exact ⟨rfl, fun h => absurd h (by decide)⟩
  case reset =>
    refine ⟨_, live_next hrun ?_, assertReset_dark hrun.1, rfl⟩
    simp only [State.fpResetExecute, hw, if_pos hdue]
  case resetEarly =>
    refine live_next hrun ?_
    simp only [State.fpResetExecute, hw, hsent]
    exact if_neg (by simp; omega)
  case assert =>
    refine ⟨_, rfl, ?_⟩
    simp only [State.silentHigh]
    by_cases hstate : s.fp.state = .active
    · rw [if_pos hstate, if_pos hstate]
      let s₁ : State := { s with fp := { s.fp with silentPin := true, pinnedWait := false } }
      have hother : s₁.fp.state ≠ .pinned := fun h => absurd (hstate.symm.trans h) (by decide)
      obtain ⟨seg, wait, evt, late, hfp⟩ := fpEnter_fp s₁ .pinned
      exact ⟨by rw [hfp], (fpEnter_fields s₁ hother).1, by rw [hfp]⟩
    · rw [if_neg hstate, if_neg hstate]
      exact ⟨rfl, rfl, rfl⟩

end Sys2Proof.Machine

end

section
/-! SUPPORT. Ops of the queues: what finishing an op leaves as it was, admission of descriptors, and what becomes of an op whose
dependencies have completed, and the statements about them (05 R168 to R178, R194, R205, R595, 06 R228). -/

set_option Elab.async false

namespace Sys2Proof.Machine

/-! ### An op by its queue and number -/

section
variable {s : State} {q seq : Nat} {o : Op}

/-- An update of an op that keeps its queue and its number is found under them. -/
theorem op_modOp {f : Op → Op} (hf : ∀ x, (f x).queue = x.queue ∧ (f x).seq = x.seq) :
    (s.modOp q seq f).op q seq = (s.op q seq).map f := by
  simp only [State.op, State.modOp]
  induction s.ops with
  | nil => rfl
  | cons x xs ih =>
    by_cases hx : x.queue = q ∧ x.seq = seq
    · obtain ⟨hqueue, hseq⟩ := hf x
      simp [hx.1, hx.2, hqueue, hseq]
    · have hnot : (decide (x.queue = q) && decide (x.seq = seq)) = false := by simpa using hx
      rw [List.map_cons, if_neg hx, List.find?_cons, List.find?_cons, hnot]
      exact ih

theorem op_append (hnone : ∀ x ∈ s.ops, ¬ (x.queue = q ∧ x.seq = seq)) (hq : o.queue = q) (hseq : o.seq = seq) {ops : List Op}
    (hops : ops = s.ops ++ [o]) : (ops.find? fun x => decide (x.queue = q) && decide (x.seq = seq)) = some o := by
  rw [hops, List.find?_append, List.find?_eq_none.mpr fun x hx => by simpa using hnone x hx]
  simp [hq, hseq]

end

/-! ### What ending a run or an op leaves as it was -/

theorem landWrites_frame (s : State) (c : Nat) : ∃ mem flt, s.landWrites c = { s with mem := mem, flt := flt } := by
  unfold State.landWrites
  generalize s.reqs.filter _ = reqs
  induction reqs generalizing s with
  | nil => exact ⟨s.mem, s.flt, rfl⟩
  | cons r reqs ih =>
    rw [List.foldl_cons]
    split
    · split
      · unfold State.meetBad
        split
        · obtain ⟨mem, flt, heq⟩ := ih (s.count 0x13 _)
          exact ⟨mem, flt, heq⟩
        · exact ih s
      · obtain ⟨mem, flt, heq⟩ := ih (s.store r.addr _)
        exact ⟨mem, flt, heq⟩
    · exact ih s

theorem endRun_frame (s : State) (c : Nat) (counted : Bool) : ∃ mem flt reqs ctxs moment, s.endRun c counted =
    { s with mem := mem, flt := flt, reqs := reqs, ctxs := ctxs, poolProgress := moment } := by
  obtain ⟨mem, flt, heq⟩ := landWrites_frame s c
  unfold State.endRun
  rw [heq]
  exact ⟨_, _, _, _, _, rfl⟩

theorem endRuns_frame (s : State) (o : Op) : ∃ mem flt reqs ctxs moment, s.endRuns o =
    { s with mem := mem, flt := flt, reqs := reqs, ctxs := ctxs, poolProgress := moment } := by
  have hends (l : List Nat) (t : State) : ∃ mem flt reqs ctxs moment, l.foldl (fun s c => s.endRun c true) t =
      { t with mem := mem, flt := flt, reqs := reqs, ctxs := ctxs, poolProgress := moment } := by
    induction l generalizing t with
    | nil => exact ⟨_, _, _, _, _, rfl⟩
    | cons c l ih =>
      obtain ⟨mem, flt, reqs, ctxs, moment, heq⟩ := endRun_frame t c true
      obtain ⟨mem', flt', reqs', ctxs', moment', heq'⟩ := ih (t.endRun c true)
      exact ⟨mem', flt', reqs', ctxs', moment', by rw [List.foldl_cons, heq', heq]⟩
  have hcounts (l : List Nat) (t : State) : ∃ ctxs,
      l.foldl (fun s c => s.modCtx c (fun x => { x with runs := (x.runs + 1) % 2 ^ 32 })) t = { t with ctxs := ctxs } := by
    induction l generalizing t with
    | nil => exact ⟨t.ctxs, rfl⟩
    | cons c l ih =>
      obtain ⟨ctxs, heq⟩ := ih (t.modCtx c (fun x => { x with runs := (x.runs + 1) % 2 ^ 32 }))
      exact ⟨ctxs, heq⟩
  obtain ⟨mem, flt, reqs, ctxs, moment, heq⟩ := hends o.armed s
  obtain ⟨ctxs', heq'⟩ := hcounts (o.used.filter (· ∉ o.armed)) (o.armed.foldl (fun s c => s.endRun c true) s)
  exact ⟨mem, flt, reqs, ctxs', moment, by rw [State.endRuns, heq', heq]⟩

/-- An op completed with a status and a detail. -/
def Op.ended (o : Op) (status detail time : Nat) : Op :=
  { o with stage := .completed, status := status, detail := detail % 2 ^ 32, time := time, armed := [], used := [] }

section
variable {s : State} {q seq : Nat} {o : Op} (status detail : Nat)

/-- Finishing an op changes its runs, its place in the helper, the drains and the Basin, and the op. -/
theorem finish_frame : ∃ mem flt reqs ctxs moment helper busy order basin ops, s.finish q seq status detail =
    { s with mem := mem, flt := flt, reqs := reqs, ctxs := ctxs, poolProgress := moment, helper := helper, drainBusy := busy
             drainOrder := order, basin := basin, ops := ops } := by
  cases hop : s.op q seq with
  | none =>
    refine ⟨s.mem, s.flt, s.reqs, s.ctxs, s.poolProgress, s.helper, s.drainBusy, s.drainOrder, s.basin, s.ops, ?_⟩
    simp only [State.finish, hop]
  | some o =>
    obtain ⟨mem, flt, reqs, ctxs, moment, heq⟩ := endRuns_frame s o
    simp only [State.finish, hop, heq]
    exact ⟨_, _, _, _, _, _, _, _, _, _, rfl⟩

theorem finish_op (hop : s.op q seq = some o) : (s.finish q seq status detail).op q seq = some (o.ended status detail s.time) := by
  obtain ⟨mem, flt, reqs, ctxs, moment, heq⟩ := endRuns_frame s o
  simp only [State.finish, hop, heq]
  exact (op_modOp (f := fun x => x.ended status detail s.time) fun _ => ⟨rfl, rfl⟩).trans (congrArg _ hop)

/-- An op outside epochs completes, and no epoch is touched. -/
theorem complete_outside (hop : s.op q seq = some o) (hepoch : o.epoch = none) :
    s.complete q seq status detail = s.finish q seq status detail := by
  simp only [State.complete, hop, hepoch, Option.bind_none]

/-- An op that is not as it was admitted, or may not be scheduled, is not considered. -/
theorem consider_barred (hop : s.op q seq = some o) (hbar : o.stage ≠ .admitted ∨ s.canSchedule = false ∨ s.depsDone o = false) :
    s.consider q seq = s := by
  simp only [State.consider, hop]
  refine if_pos ?_
  simpa only [Bool.not_eq_true] using hbar

end

/-! ### Admission (05 R168, R171, R175) -/

/-- The op that the next descriptor of a queue is admitted as. -/
def State.newOp (s : State) (q : Nat) : Op :=
  { queue := q, seq := (s.queue q).admitted, desc := s.nextDesc q, kind := opKind (dOpcode (s.nextDesc q)), tag := dTag (s.nextDesc q)
    ordered := s.admissions }

theorem newOp_desc (s : State) (q : Nat) : (s.newOp q).desc = s.nextDesc q := by simp only [State.newOp]

theorem newOp_kind (s : State) (q : Nat) : (s.newOp q).kind = opKind (dOpcode (s.nextDesc q)) := by simp only [State.newOp]

theorem newOp_epoch (s : State) (q : Nat) : (s.newOp q).epoch = none := by simp only [State.newOp]

theorem newOp_stage (s : State) (q : Nat) : (s.newOp q).stage = .admitted := by simp only [State.newOp]

/-- A queue's next descriptor admitted. -/
def State.withNext (s : State) (q : Nat) : State :=
  { s with ops := s.ops ++ [s.newOp q], admissions := s.admissions + 1
           queues := mset {} s.queues q { s.queue q with admitted := (s.queue q).admitted + 1 } }

section
variable {s : State} {q : Nat} (hnew : ∀ x ∈ s.ops, ¬ (x.queue = q ∧ x.seq = (s.queue q).admitted))
  (hread : s.slotErrs q (s.queue q).admitted = false)

include hnew in
theorem withNext_op : (s.withNext q).op q (s.queue q).admitted = some (s.newOp q) := op_append hnew rfl rfl rfl

include hread in
theorem takeDesc_fault {b : Nat} (hfault : s.admitFault (s.nextDesc q) = some b) :
    s.takeDesc q = (s.withNext q).finish q (s.queue q).admitted 0x01 b := by
  have hfault' : (s.withNext q).admitFault (s.nextDesc q) = some b := hfault
  simp only [State.takeDesc, hread, Bool.false_eq_true, if_false]
  generalize hs : State.modQueue _ q _ = t
  obtain rfl : t = s.withNext q := hs.symm
  rw [hfault']

include hnew hread in
/-- A sound descriptor outside epochs that resumes nothing is admitted, and that is all. -/
theorem takeDesc_sound (hsound : s.admitFault (s.nextDesc q) = none) (hepoch : dInEpoch (s.nextDesc q) = false)
    (hresume : (s.newOp q).kind.passes = true → dResume (s.nextDesc q) = false) : s.takeDesc q = s.withNext q := by
  have hsound' : (s.withNext q).admitFault (s.nextDesc q) = none := hsound
  simp only [State.takeDesc, hread, Bool.false_eq_true, if_false]
  generalize hs : State.modQueue _ q _ = t
  obtain rfl : t = s.withNext q := hs.symm
  simp only [hsound', hepoch, Bool.false_eq_true, and_false, not_false_eq_true, Bool.true_eq_false, if_true, if_false,
    withNext_op hnew]
  have hfresh : ¬ ((s.newOp q).kind.passes = true ∧ dResume (s.nextDesc q) = true) := fun h =>
    absurd (hresume h.1) (by rw [h.2]; exact Bool.noConfusion)
  rw [if_neg hfresh]
  split
  next e _ hjoined => exact absurd (hjoined.symm.trans (newOp_epoch s q)) (Option.some_ne_none e)
  · rfl

end

section
variable {s : State} {q : Nat} {mine : Nat → Bool}

theorem admitAs_barred (h : s.canAdmit q = false) : s.admitAs q mine = s := by
  simp only [State.admitAs, h, Bool.false_eq_true, not_false_eq_true, if_true]

theorem admitAs_mine (h : s.canAdmit q = true) (hmine : mine (s.nextDesc q) = true) :
    s.admitAs q mine = (s.takeDesc q).consider q (s.queue q).admitted := by
  simp only [State.admitAs, h, hmine, not_true_eq_false, if_false, Bool.or_true, Bool.true_or, if_true]

end

/-- What OP_ENDED gives as the op of a faulty descriptor: completed with ERR_DESC. -/
theorem faulty_op {s : State} {q b : Nat} (hnew : ∀ x ∈ s.ops, ¬ (x.queue = q ∧ x.seq = (s.queue q).admitted)) :
    ((s.withNext q).finish q (s.queue q).admitted 0x01 b).op q (s.queue q).admitted = some ((s.newOp q).ended 0x01 b s.time) :=
  finish_op 0x01 b (withNext_op hnew)

/-- Settles O42: whichever command comes, `admitAs` takes the descriptor, `takeDesc` admits or ends it, and `consider` leaves an op
that may not go on. -/
theorem descriptorsAreAdmitted : Obligations.DescriptorsAreAdmitted := by
  intro q s hrun d n o u hnew hread
  have htakes (mine : Nat → Bool) (hadmit : s.canAdmit q = true) (hmine : mine d = true) :
      s.live (s.admitAs q mine) = .next ((s.takeDesc q).consider q n) := live_next hrun (admitAs_mine hadmit hmine)
  refine ⟨fun hadmit hsound hepoch => ?sound, fun hbar => ?barred, fun c mine hc hmine hadmit b hfault => ?faulty, fun hnot c hc => ?not⟩
  case sound =>
    have hplain (hkind : (opKind (dOpcode d)).passes = true → dResume d = false) (mine : Nat → Bool) (hmine : mine d = true) :
        s.live (s.admitAs q mine) = .next (u.consider q n) := by
      rw [htakes mine hadmit hmine, takeDesc_sound hnew hread hsound hepoch (by rw [newOp_kind]; exact hkind)]
      rfl
    have hother {kind : OpKind} (hkind : opKind (dOpcode d) = kind) (hpasses : kind.passes = false) := hplain fun h => by
      rw [hkind, hpasses] at h; exact absurd h Bool.false_ne_true
    refine ⟨fun hk hr => hplain (fun _ => hr) _ (decide_eq_true hk), fun hk hr => hplain (fun _ => hr) _ (decide_eq_true hk),
      fun hk hm => hother hk rfl _ ?_, fun hk hm => hother hk rfl _ ?_, fun hk => hother hk rfl _ (decide_eq_true hk),
      fun hk => hother hk rfl _ (decide_eq_true hk), fun hk => hother hk rfl _ (decide_eq_true hk), fun hk hm => hother hk rfl _ ?_,
      fun hk hm => hother hk rfl _ ?_, fun hk hm => hother hk rfl _ ?_, fun hk hm => hother hk rfl _ ?_,
      fun hk hm => hother hk rfl _ ?_, fun hk hm => hother hk rfl _ ?_, fun hk => hother hk rfl _ (decide_eq_true hk),
      fun hk => hother hk rfl _ (decide_eq_true hk), fun hk => hother hk rfl _ (decide_eq_true hk),
      fun hk => hother hk rfl _ (decide_eq_true hk), fun hk => hother hk rfl _ (decide_eq_true hk),
      fun hk => hother hk rfl _ (decide_eq_true hk)⟩
    all_goals simp only [hk, hm, decide_true, Bool.and_self, Bool.not_false]
  case barred =>
    exact consider_barred (withNext_op hnew) (.inr hbar)
  case faulty =>
    have hend (f : Nat → Bool) (hf : f d = true) : ∃ t : State, s.live (s.admitAs q f) = .next t ∧
        (t.op q n).map (fun x => (x.stage, x.status, x.detail, x.tag)) = some (.completed, 1, b % 2 ^ 32, dTag d) ∧
        t.queues = u.queues ∧ t.admissions = u.admissions := by
      have hop := faulty_op (b := b) hnew
      obtain ⟨mem, flt, reqs, ctxs, moment, helper, busy, order, basin, ops, heq⟩ :=
        finish_frame (s := s.withNext q) (q := q) (seq := n) 0x01 b
      refine ⟨(s.withNext q).finish q n 0x01 b, ?_, ?_, by rw [heq]; rfl, by rw [heq]; rfl⟩
      · rw [htakes f hadmit hf, takeDesc_fault hread hfault, consider_barred hop (.inl (by simp [Op.ended]))]
      · rw [hop]
        simp only [Op.ended, State.newOp, Option.map_some, d]
    simp only [List.mem_cons, List.not_mem_nil, or_false, Prod.mk.injEq] at hc
    rcases hc with ⟨rfl, rfl⟩ | ⟨rfl, rfl⟩ | ⟨rfl, rfl⟩ | ⟨rfl, rfl⟩ | ⟨rfl, rfl⟩ | ⟨rfl, rfl⟩ | ⟨rfl, rfl⟩ | ⟨rfl, rfl⟩ | ⟨rfl, rfl⟩ | ⟨rfl, rfl⟩ |
      ⟨rfl, rfl⟩ | ⟨rfl, rfl⟩ | ⟨rfl, rfl⟩ | ⟨rfl, rfl⟩ | ⟨rfl, rfl⟩ | ⟨rfl, rfl⟩ | ⟨rfl, rfl⟩ | ⟨rfl, rfl⟩ | ⟨rfl, rfl⟩
    all_goals exact hend _ (by simp [hmine])
  case not =>
    simp only [List.mem_cons, List.not_mem_nil, or_false] at hc
    have hsame (mine : Nat → Bool) : s.live (s.admitAs q mine) = .next s := live_next hrun (admitAs_barred hnot)
    rcases hc with rfl | rfl | rfl | rfl | rfl | rfl | rfl | rfl | rfl | rfl | rfl | rfl | rfl | rfl | rfl | rfl | rfl | rfl | rfl
    all_goals exact hsame _

/-! ### An op whose dependencies have completed (05 R177, R178, R194, R205, R595) -/

/-- An op whose dependencies completed well. -/
def Op.readied (o : Op) : Op := { o with ready := true }

section
variable {s : State} {q seq : Nat} {o : Op} (hop : s.op q seq = some o) (hstage : o.stage = .admitted) (hable : s.canSchedule = true)
  (hdeps : s.depsDone o = true)
include hop hstage hable hdeps

theorem consider_failed {f : Nat} (hfail : s.depFailed o = some f) : s.consider q seq = (s.complete q seq 0x21 f).settle := by
  simp [State.consider, hop, hstage, hable, hdeps, hfail]

theorem consider_ready (hfail : s.depFailed o = none) :
    s.consider q seq = ((s.modOp q seq Op.readied).start o.readied).settle := by
  simp only [State.consider, hop, hstage, hable, hdeps, hfail, ne_eq, not_true_eq_false, or_self, if_false]
  rfl

end

/-! #### What finishing leaves of epochs and tokens -/

section
variable (s : State) (q seq status detail : Nat)

theorem finish_epochs : (s.finish q seq status detail).epochs = s.epochs ∧ (s.finish q seq status detail).epochSerial = s.epochSerial ∧
    (s.finish q seq status detail).lastStamp = s.lastStamp ∧ (s.finish q seq status detail).tokens = s.tokens := by
  obtain ⟨mem, flt, reqs, ctxs, moment, helper, busy, order, basin, ops, heq⟩ := finish_frame (s := s) (q := q) (seq := seq) status detail
  rw [heq]
  exact ⟨rfl, rfl, rfl, rfl⟩

end

section
variable {s : State} {id k : Nat} {f : Epoch → Epoch}

theorem epoch_modEpoch_self (h : f (s.epoch id) ≠ {}) : (s.modEpoch id f).epoch id = f (s.epoch id) := mget_mset_ne _ _ _ _ h

theorem epoch_modEpoch_other (h : k ≠ id) : (s.modEpoch id f).epoch k = s.epoch k := mget_mset_other _ _ _ _ _ h

theorem epoch_congr {t u : State} (h : t.epochs = u.epochs) (k : Nat) : t.epoch k = u.epoch k := by rw [State.epoch, h]; rfl

/-- An epoch that is open or ending is not as after reset. -/
theorem ne_default_of_epoch {e : Epoch} (h : e.st ≠ .closed) : e ≠ {} := fun heq => h (by rw [heq])

end

/-! #### The starts of the ordering ops -/

section
variable {s : State} {o : Op}

/-- An SPB on a Closed identifier opens the next epoch there. -/
theorem startSpb_closed (hclosed : (s.epoch (dNamed o.desc)).st = .closed) :
    let id := dNamed o.desc
    let stamp := (s.epochSerial % 8192) * 8 + id
    let u := s.startSpb o
    u.epoch id = { st := .opened, stamp := stamp, serial := s.epochSerial + 1 } ∧ u.epochSerial = s.epochSerial + 1 ∧
      u.lastStamp = stamp ∧ ∀ k, k ≠ id → u.epoch k = s.epoch k := by
  intro id stamp u
  let s₁ : State := { s with epochSerial := s.epochSerial + 1, lastStamp := stamp }
  let s₂ := s₁.modEpoch id (fun _ => { st := .opened, stamp := stamp, serial := s.epochSerial + 1 })
  let s₃ := s₂.modOp o.queue o.seq (fun x => { x with stamp := stamp })
  have hu : u = s₃.finish o.queue o.seq 0 0 := if_neg (not_not.mpr hclosed)
  obtain ⟨hepochs, hserial, hlast, -⟩ := finish_epochs s₃ o.queue o.seq 0 0
  rw [← hu] at hepochs hserial hlast
  have hepoch (k : Nat) : u.epoch k = s₂.epoch k := epoch_congr hepochs k
  refine ⟨(hepoch id).trans (epoch_modEpoch_self (ne_default_of_epoch ?_)), hserial, hlast, fun k hk => ?_⟩
  · exact nofun
  · exact (hepoch k).trans (epoch_modEpoch_other hk)

/-- An SPC on an Open epoch that is not doomed makes it Committing. -/
theorem startSpc_opened (hopened : (s.epoch (dNamed o.desc)).st = .opened) (hsound : (s.epoch (dNamed o.desc)).doomed = false) :
    let id := dNamed o.desc
    let u := s.startSpc o
    u.epoch id = { s.epoch id with st := .committing, spc := some (o.queue, o.seq) } ∧ ∀ k, k ≠ id → u.epoch k = s.epoch k := by
  intro id u
  let s₁ := s.modOp o.queue o.seq (fun x => { x with stamp := (s.epoch id).stamp })
  let s₂ := s₁.modEpoch id (fun e => { e with st := .committing, spc := some (o.queue, o.seq) })
  have hepochs : u.epochs = s₂.epochs := by
    simp only [u, State.startSpc, hopened, hsound, Bool.false_eq_true, if_false]
    rfl
  have hne : ({ s.epoch id with st := .committing, spc := some (o.queue, o.seq) } : Epoch) ≠ {} :=
    ne_default_of_epoch (show EpochSt.committing ≠ .closed by decide)
  exact ⟨(epoch_congr hepochs id).trans (epoch_modEpoch_self (s := s₁) hne),
    fun k hk => (epoch_congr hepochs k).trans (epoch_modEpoch_other (s := s₁) hk)⟩

/-- A WTK outside epochs whose counter holds its count takes it from the counter. -/
theorem startWtk_held (hop : s.op o.queue o.seq = some o) (hepoch : o.epoch = none) (hheld : dCount o.desc ≤ s.token (dToken o.desc))
    (hcascade : ¬ (s.casc.state = .broken ∧ 0xF0 ≤ dToken o.desc)) (hwf : mwf 0 s.tokens = true)
    (hlt : s.token (dToken o.desc) < 2 ^ 32) :
    (s.startWtk o).token (dToken o.desc) = s.token (dToken o.desc) - dCount o.desc ∧
      ∀ k, k ≠ dToken o.desc → (s.startWtk o).token k = s.token k := by
  have hcount : dCount o.desc ≤ s.tokenHeld o.epoch (dToken o.desc) := hheld.trans (Nat.le_add_right _ _)
  let t := s.takeTokens o.epoch (dToken o.desc) (dCount o.desc)
  have htokens : t.tokens = mset 0 s.tokens (dToken o.desc) ((s.token (dToken o.desc) - dCount o.desc) % 2 ^ 32) := by
    simp only [t, State.takeTokens, hepoch, Option.bind_none, min_eq_left hheld]
    rfl
  have hops : t.op o.queue o.seq = some o := by
    simp only [t, State.takeTokens, hepoch, Option.bind_none]
    exact hop
  have hstart : s.startWtk o = t.finish o.queue o.seq 0 0 := by
    rw [State.startWtk, if_neg hcascade, if_pos hcount, complete_outside 0 0 hops hepoch]
  have htoken (k : Nat) : (s.startWtk o).token k = mget 0 t.tokens k := by
    rw [hstart]
    exact congrArg (fun m => mget 0 m k) (finish_epochs t o.queue o.seq 0 0).2.2.2
  refine ⟨?_, fun k hk => ?_⟩
  · rw [htoken, htokens, mget_mset_self _ _ hwf, Nat.mod_eq_of_lt (by omega)]
  · rw [htoken, htokens]
    exact mget_mset_other _ _ _ _ _ hk

end

/-! ### Arming an LDW (06 R228) -/

section
variable {s : State} {o : Op}

/-- The one use of a context by an LDW: its mirror. -/
theorem usesOf_ldw (hkind : o.kind = .ldw) :
    s.usesOf o = [{ ctx := dStream o.desc, target := 1, need := (s.region (dRegion o.desc)).mirrorBytes, write := false }] := by
  simp only [State.usesOf, hkind]

/-- An LDW whose region is valid, whose context fits and whose lines the pool has is armed. -/
theorem armOp_ldw (hop : s.op o.queue o.seq = some o) (hkind : o.kind = .ldw) (hvalid : (s.region (dRegion o.desc)).valid = true)
    (hfits : s.unfitUse o (s.usesOf o) = none) (hpool : ((s.usesOf o).map CtxUse.extra).sum ≤ s.poolFree) :
    s.armOp o = (s.armRun { ctx := dStream o.desc, target := 1, need := (s.region (dRegion o.desc)).mirrorBytes, write := false }
      (some (o.queue, o.seq)) o.epoch o.queue).modOp o.queue o.seq
        (fun x => { x with armed := [dStream o.desc], used := [dStream o.desc] }) := by
  have hplan : (if o.plan.isNone ∧ o.planErr.isNone then s.plan o else s) = s := by simp only [State.plan, hkind, ite_self]
  simp only [State.armOp, hplan, hop, hkind, hvalid, not_true_eq_false, and_false, if_false, hfits, if_neg (Nat.not_lt.mpr hpool)]
  rw [usesOf_ldw hkind]
  rfl

theorem streamArm_ldw {q slot : Nat} (hslot : s.slotOp q slot = some o) (hnext : s.nextToArm = some o) (hable : s.canSchedule = true)
    (hlive : s.blockReset 2 0 = false) (hfresh : o.mvm = none) {x : Op} (hop : (s.armOp o).op o.queue o.seq = some x)
    (hstage : x.stage = .admitted) (harmed : x.armed ≠ []) (hkind : x.kind = .ldw) : s.streamArm q slot = (s.armOp o).settle := by
  simp only [State.streamArm, hnext, hslot, hable, hlive, hfresh, hop, ne_eq, not_true_eq_false, Bool.false_eq_true, or_self, if_false,
    Option.isSome_none]
  rw [if_pos ⟨hstage, harmed⟩, State.start, hkind]

/-- Settles O43: `consider` brings the op to its failure or to its kind's start, each of which says what it leaves; arming an LDW by
the checks of `armOp`. -/
theorem dependenciesStartOrFailOps : Obligations.DependenciesStartOrFailOps := by
  intro q slot o s hrun hslot hop hq
  have hexec : exec (.opDepsComplete q slot) s = .next (s.consider q o.seq) := by
    show (match s.slotOp q slot with
      | some o => s.live (s.consider q o.seq)
      | none => .next s) = _
    rw [hslot]
    exact live_running hrun
  refine ⟨fun hstage hable hdeps => ⟨fun f hfail => ?failed, fun hfail => ?ready⟩, fun hbar => ?barred,
    fun hnext hable hlive hfresh hkind hvalid hstage hfits hpool => ?arms⟩
  case failed => rw [hexec, consider_failed hop hstage hable hdeps hfail]
  case barred => rw [hexec, consider_barred hop (.inr hbar)]
  case ready =>
    intro r
    have hready : exec (.opDepsComplete q slot) s = .next ((r.start o.readied).settle) := by
      rw [hexec, consider_ready hop hstage hable hdeps hfail]
      rfl
    have hop' : r.op o.queue o.seq = some o.readied := by
      rw [hq]
      exact (op_modOp (f := Op.readied) fun _ => ⟨rfl, rfl⟩).trans (congrArg (Option.map Op.readied) hop)
    refine ⟨fun hkind => ?_, fun hkind => ?_, fun hkind hclosed => ?_, fun hkind hepoch hheld hcascade hwf hlt => ?_,
      fun hkind hopened hsound => ?_⟩
    · rcases hkind with hk | hk | hk | hk
      all_goals rw [hready, State.start, show o.readied.kind = _ from hk]
    · rw [hready, State.start, show o.readied.kind = _ from hkind]
      show _ = Host.Outcome.next (r.modOp q o.seq _).settle
      rw [← hq]
      rfl
    · rw [State.start, show o.readied.kind = _ from hkind] at hready
      obtain ⟨hepoch, hserial, hlast, hothers⟩ := startSpb_closed (s := r) (o := o.readied) hclosed
      exact ⟨_, hready, congrArg Epoch.st hepoch, congrArg Epoch.stamp hepoch, congrArg Epoch.serial hepoch, hserial, hlast, hothers⟩
    · rw [State.start, show o.readied.kind = _ from hkind] at hready
      obtain ⟨htaken, hothers⟩ := startWtk_held (s := r) (o := o.readied) hop' hepoch hheld hcascade hwf hlt
      exact ⟨_, hready, htaken, hothers⟩
    · rw [State.start, show o.readied.kind = _ from hkind] at hready
      obtain ⟨hepoch, hothers⟩ := startSpc_opened (s := r) (o := o.readied) hopened hsound
      exact ⟨_, hready, congrArg Epoch.st hepoch, by rw [← hq]; exact congrArg Epoch.spc hepoch, hothers⟩
  case arms =>
    have hop' : s.op o.queue o.seq = some o := by rw [hq]; exact hop
    have harm := armOp_ldw hop' hkind hvalid hfits hpool
    have harmed : (s.armOp o).op o.queue o.seq = some { o with armed := [dStream o.desc], used := [dStream o.desc] } := by
      rw [harm]
      exact (op_modOp (f := fun x => { x with armed := [dStream o.desc], used := [dStream o.desc] }) fun _ => ⟨rfl, rfl⟩).trans
        (congrArg (Option.map _) hop')
    have hctx : (s.armOp o).ctx (dStream o.desc) = _ := (congrArg (fun t => t.ctx (dStream o.desc)) harm).trans
      (armRun_ctx s { ctx := dStream o.desc, target := 1, need := (s.region (dRegion o.desc)).mirrorBytes, write := false }
        (some (o.queue, o.seq)) o.epoch o.queue)
    refine ⟨_, live_next hrun (streamArm_ldw hslot hnext hable hlive hfresh harmed hstage (List.cons_ne_nil _ _) hkind),
      congrArg Ctx.st hctx, ?_, ?_, by rw [harm]; rfl⟩
    · rw [hctx, ← hq]; rfl
    · rw [← hq, harmed]; rfl

end

end Sys2Proof.Machine

end

section
/-! SUPPORT. Op start, passes and repeats, and requests to local memory, and the statements about them (01 R13, R19, 02 R50, R62 to
R66, 05 R173, R174, 06 R219, R234 to R256). -/

set_option Elab.async false

namespace Sys2Proof.Machine

/-! ### Taking the Basin (05 R174) -/

theorem zeroOutputs_frame (s : State) (o : Op) (k : Nat) : ∃ accs, s.zeroOutputs o k = { s with accs := accs } := by
  unfold State.zeroOutputs
  generalize s.elements o = l
  induction l generalizing s with
  | nil => exact ⟨s.accs, rfl⟩
  | cons i l ih =>
    obtain ⟨accs, heq⟩ := ih (s.modAcc k i (fun a => { a with pass := 0 }))
    exact ⟨accs, heq⟩

theorem announce_frame (l : List Nat) (s : State) : ∃ clusters,
    l.foldl (fun s c => s.modCluster c (fun x => { x with announced := true, lastAct := s.time })) s = { s with clusters := clusters } := by
  induction l generalizing s with
  | nil => exact ⟨s.clusters, rfl⟩
  | cons c l ih =>
    obtain ⟨clusters, heq⟩ := ih (s.modCluster c (fun x => { x with announced := true, lastAct := s.time }))
    exact ⟨clusters, heq⟩

theorem set_modSet_self (s : State) (k : Nat) (f : SetSt → SetSt) : (s.modSet k f).set k = f (s.set k) := by
  unfold State.modSet State.set
  split_ifs <;> rfl

theorem modSet_basin (s : State) (k : Nat) (f : SetSt → SetSt) : (s.modSet k f).basin = s.basin := by
  unfold State.modSet
  split_ifs <;> rfl

theorem set_congr {s t : State} (h0 : t.set0 = s.set0) (h1 : t.set1 = s.set1) (k : Nat) : t.set k = s.set k := by
  rw [State.set, State.set, h0, h1]

/-- The accumulators of a set made ready for an op that resumes nothing, and the set Filling. -/
def State.readySet (s : State) (o : Op) (k : Nat) : State :=
  ((if dAccumulate o.desc then s else s.clearSet k (dBaseExp o.desc)).zeroOutputs o k).modSet k
    (fun x => { st := .filling, owner := if dAccumulate o.desc then x.owner else o.epoch })

theorem readySet_basin (s : State) (o : Op) (k : Nat) : (s.readySet o k).basin = s.basin := by
  obtain ⟨accs, hzero⟩ := zeroOutputs_frame (if dAccumulate o.desc then s else s.clearSet k (dBaseExp o.desc)) o k
  have hclear : (if dAccumulate o.desc then s else s.clearSet k (dBaseExp o.desc)).basin = s.basin := by
    simp only [State.clearSet]
    split_ifs <;> rfl
  rw [State.readySet, modSet_basin, hzero]
  exact hclear

theorem readySet_set (s : State) (o : Op) (k : Nat) : ((s.readySet o k).set k).st = .filling := by
  rw [State.readySet, set_modSet_self]

/-- An op that resumes nothing takes the Basin: it runs, the op that ran finishes, and its set is Filling. -/
theorem takeBasin_fresh (s : State) (o : Op) (k : Nat) (e : Int) (b : Nat) (xs : List Int) (hfresh : dResume o.desc = false) :
    (s.takeBasin o k e b xs).basin.running = some (o.queue, o.seq) ∧
      (s.basin.running.isSome = true → (s.takeBasin o k e b xs).basin.finishing = s.basin.running) ∧
      ((s.takeBasin o k e b xs).set k).st = .filling := by
  have hbasin := readySet_basin s o k
  have hset := readySet_set s o k
  obtain ⟨clusters, hclusters⟩ := announce_frame (((s.readySet o k).opRegions o).flatMap Region.clusterList) (s.readySet o k)
  obtain ⟨f, htake⟩ : ∃ f, s.takeBasin o k e b xs =
      (State.giveBasin { s.readySet o k with clusters := clusters } (o.queue, o.seq)).modOp o.queue o.seq f := by
    rw [← hclusters, State.takeBasin, hfresh]
    exact ⟨_, rfl⟩
  rw [htake]
  refine ⟨rfl, fun hrunning => ?_, (congrArg SetSt.st (set_congr rfl rfl k)).trans hset⟩
  show (if (s.readySet o k).basin.running.isSome then (s.readySet o k).basin.running else (s.readySet o k).basin.finishing) = _
  rw [hbasin, if_pos hrunning]

/-! ### Starts, passes and repeats -/

section
variable {s : State} {q slot : Nat} {o : Op} (hslot : s.slotOp q slot = some o) (hwaits : o.waitsStart = true) (hable : s.canSchedule = true)
include hslot hwaits hable

theorem opStart_err {st det : Nat} (hcheck : s.atStart o = .err st det) : s.opStart q slot = (s.complete q o.seq st det).settle := by
  simp only [State.opStart, hslot, hwaits, hable, hcheck, not_true_eq_false, or_self, if_false]

theorem opStart_go {k : Nat} (hcheck : s.atStart o = .go k) : s.opStart q slot =
    if ¬ s.basinFree o ∨ (s.nextToStart.map (fun x => (x.queue, x.seq))) ≠ some (o.queue, o.seq) then s
    else match (s.feed o).bind (parseInput ((s.opRegions o).headD {}).T) with
      | some (e, b, xs) => s.takeBasin o k e b xs
      | none => s := by
  simp only [State.opStart, hslot, hwaits, hable, hcheck, not_true_eq_false, or_self, if_false] <;> rfl

end

/-- A pass with nothing that bars it. -/
theorem pass_issued {s : State} {o : Op} {m : MvmRun} {rd : List Reading} (hop : s.issueOp = some o) (hrun : o.mvm = some m)
    (hreread : m.reread = false) (hholds : s.holdsIssue o m = false) (hleft : m.next < m.bits) (hmay : s.mayIssue o = true)
    (hfinishing : s.heldByFinishing = false) : let cs := s.convs m m.next rd
    s.pass rd = ((((s.noteWarns cs).count 0x01 (ambigsOf m.next cs).length).addPartials m m.next cs
        (fun d => decide (d ∉ ambiguousCols cs))).takeSlot o m (decide (m.next + 1 = m.bits))).modRun o (fun x => { x with
      next := m.next + 1, fresh := x.fresh ++ ambigsOf m.next cs, firstAmb := x.firstAmb ++ ambigsOf m.next cs
      repeats := if ambiguousCols cs = [] then x.repeats else x.repeats ++ [{ pass := m.next, cols := ambiguousCols cs }] }) := by
  simp only [State.pass, hop, hrun, hreread, hholds, hmay, hfinishing, Nat.not_le.mpr hleft, Bool.false_eq_true, not_true_eq_false,
    or_self, if_false]

theorem pass_barred {s : State} {o : Op} {m : MvmRun} {rd : List Reading} (hop : s.issueOp = some o) (hrun : o.mvm = some m)
    (hbar : s.holdsIssue o m = true ∨ m.bits ≤ m.next ∨ s.heldByFinishing = true) : s.pass rd = s := by
  simp only [State.pass, hop, hrun]
  refine if_pos ?_
  rcases hbar with h | h | h <;> simp [h]

/-- The one fresh ambiguous integer of a tile. -/
theorem ambiguous_single {s : State} {o : Op} {m : MvmRun} {tile : Nat} {a : Ambig} (hop : s.ambiguousOp tile = some o)
    (hrun : o.mvm = some m) (hfresh : m.fresh = [a]) (htile : 128 * a.tier + a.group = tile) : s.ambiguous tile =
    ((if (m.repeats.any (fun r => decide (r.pass = a.pass))) = true ∧ m.stopIssue = false then s.startFault 0x010F 0 else s).modRun o
      (fun x => { x with fresh := x.fresh.filter (fun b => decide (b ∉ [a]))
                         stopIssue := x.stopIssue || m.repeats.any (fun r => decide (r.pass = a.pass)) })).spareTakes tile a.col .relieved := by
  simp only [State.ambiguous, hop, hrun, hfresh, List.filter_cons, List.filter_nil, htile, decide_true, if_true, List.foldl_cons,
    List.foldl_nil, min_self, Bool.not_eq_true]
  rfl

/-- A repeat with nothing that bars it, while no fault of op issue runs. -/
theorem passRepeat_taken {s : State} {o : Op} {m : MvmRun} {r : RepeatCol} {rd : List Reading} (hop : s.passOp = some o)
    (hrun : o.mvm = some m) (hlowest : m.lowestRepeat = some r) (hreread : m.reread = false) (hstop : m.stopIssue = true)
    (hfirst : m.freshFirst = []) (hmay : s.mayIssue o = true)
    (hmaps : s.litTilesWith o (fun t => t.pendingMap.any (fun m => decide (m.why ≠ .carousel))) = [])
    (hquiet : ∀ f ∈ s.flt.starts, f.1 ≠ 0x010F) : let cs := s.convs m r.pass rd
    s.passRepeat rd = (((((((s.noteWarns cs).count 0x01 (ambigsOf r.pass cs).length).addPartials m r.pass cs
        (fun d => decide (d ∈ r.cols))).takeSlot o m (decide (m.next = m.bits) && decide (m.repeats.length = 1))).count 0x02).modOp
          o.queue o.seq (fun x => x.flag flagRepeated))).modRun o (fun x => { x with
        repeats := x.repeats.filter (fun y => decide (y.pass ≠ r.pass)), stopIssue := decide (x.repeats.length ≠ 1)
        poisonCols := (x.poisonCols ++ (ambiguousCols cs).filter (fun d => decide (d ∈ r.cols))).dedup
        fresh := x.fresh ++ (ambigsOf r.pass cs).filter (fun a => decide (a.d ∈ r.cols))
        firstAmb := x.firstAmb ++ (ambigsOf r.pass cs).filter (fun a => decide (a.d ∈ r.cols)) }) := by
  have hnone : s.flt.starts.find? (fun f => decide (f.1 = 0x010F)) = none :=
    List.find?_eq_none.mpr fun f hf => by simpa using hquiet f hf
  simp only [State.passRepeat, hop, hrun, hlowest, hreread, hstop, hfirst, hmay, hmaps, hnone, List.isEmpty_nil, Bool.false_eq_true,
    ne_eq, not_true_eq_false, or_self, if_false]

/-- A change to the identity map makes the spare of a tile idle. -/
theorem applyMap_identity {s : State} {tile : Nat} {why : SpareUse} (hpending : (s.tile tile).pendingMap = [{ col := none, why := why }])
    (hsuspended : (s.tile tile).suspended = none) (hcalib : (s.tile tile).calib = none) (hready : s.mapReady tile = true) :
    s.applyMap tile = (({ s with tiles := mset {} s.tiles tile { s.tile tile with
      pendingMap := [], serves := none, why := .idle, loading := none } } : State).fillColumn tile 32 0).loadSpare tile := by
  have hcalib' : (mget {} s.tiles tile).calib = none := hcalib
  have hsuspended' : (mget {} s.tiles tile).suspended = none := hsuspended
  simp only [State.applyMap, hpending, hready, hsuspended, hcalib, hcalib', hsuspended', State.modTile, mmod, Option.isNone_none, Option.map_none,
    reduceCtorEq, and_false, not_true_eq_false, if_false, if_true]
  rfl

/-- Settles O44: each command of the Basin by the checks before it. -/
theorem passesAreIssuedAndRepeated : Obligations.PassesAreIssuedAndRepeated := by
  intro s hrun
  refine ⟨fun q slot o hslot hwaits hable => ⟨fun st det hcheck => ?err,
      fun k bs e b xs hcheck hfree hnext hfeed hinput hfresh => ?starts, fun k hcheck hbusy => ?busy⟩,
    fun o m rd hop hmvm => ⟨fun hreread hholds hleft hmay hfinishing => ?pass, fun hbar => ?barred⟩,
    fun o m tile a hop hmvm hfresh htile => ?ambiguous,
    fun o m rd r hop hmvm hlowest hreread hstop hfirst hmay hmaps hquiet => ?repeats,
    fun tile why hpending hsuspended hcalib hready => ?map⟩
  case err => exact live_next hrun (opStart_err hslot hwaits hable hcheck)
  case starts =>
    have hstart : s.opStart q slot = s.takeBasin o k e b xs := by
      rw [opStart_go hslot hwaits hable hcheck, hnext, hfeed, Option.bind_some, hinput, if_neg (by simp [hfree])]
    obtain ⟨hrunning, hfinishing, hset⟩ := takeBasin_fresh s o k e b xs hfresh
    exact ⟨_, live_next hrun hstart, rfl, hrunning, hfinishing, hset⟩
  case busy =>
    exact live_next hrun ((opStart_go hslot hwaits hable hcheck).trans (if_pos (.inl (by simp [hbusy]))))
  case pass => exact live_next hrun (pass_issued hop hmvm hreread hholds hleft hmay hfinishing)
  case barred => exact live_next hrun (pass_barred hop hmvm hbar)
  case ambiguous => exact ⟨_, live_next hrun (ambiguous_single hop hmvm hfresh htile), rfl⟩
  case repeats =>
    exact ⟨_, _, live_next hrun (passRepeat_taken hop hmvm hlowest hreread hstop hfirst hmay hmaps hquiet), rfl, rfl⟩
  case map => exact live_next hrun (applyMap_identity hpending hsuspended hcalib hready)

/-! ### Local memory (06 R234, R238 to R241, R248 to R255) -/

section
variable {s : State} {r : Req} {run : Run}

/-- With no bad granule and no failed stack every byte is good. -/
theorem goodBytes_all {m : Mem} {a n : Nat} {bad : Nat → Bool} (hfailed : m.failed = []) (hnone : ∀ g, bad g = false) :
    m.goodBytes a n bad = n := by
  have hfind : (granules a n).find? (fun g => m.lost g || bad g) = none :=
    List.find?_eq_none.mpr fun g _ => by simp [Mem.lost, hfailed, hnone]
  rw [Mem.goodBytes, hfind]

variable (hbad : s.mem.bad = []) (hfailed : s.mem.failed = [])
include hbad hfailed

theorem localRead_clean : ∃ flt, s.localRead run r =
    ({ s.noteRead run.epoch r.addr r.len with flt := flt } : State).arrive r (s.see run.epoch r.addr r.len) none := by
  have hall : s.mem.goodBytes r.addr r.len (fun g => decide (g ∈ s.mem.bad)) = r.len := goodBytes_all hfailed (by simp [hbad])
  simp only [State.localRead, hall, if_true]
  unfold State.meetBad
  split
  · exact ⟨_, rfl⟩
  · exact ⟨(s.noteRead run.epoch r.addr r.len).flt, rfl⟩

theorem localWrite_clean : s.localWrite run r =
    (s.store r.addr ((run.data.drop r.pos).take r.len)).arrive r ((run.data.drop r.pos).take r.len) none := by
  have hall : s.mem.goodBytes r.addr r.len
      (fun g => decide (g ∈ s.mem.bad) && !(decide (r.addr ≤ 64 * g) && decide (64 * g + 64 ≤ r.addr + r.len))) = r.len :=
    goodBytes_all hfailed (by simp [hbad])
  simp only [State.localWrite, hall, if_true]

end

/-- Counting changes no epoch and no byte that an epoch's read notes. -/
theorem noteRead_count (s : State) (n k : Nat) (epoch : Option Nat) (a len : Nat) :
    (s.count n k).noteRead epoch a len = { s.noteRead epoch a len with flt := (s.count n k).flt } := by
  unfold State.noteRead
  have hepoch : epoch.bind (s.count n k).epochOf = epoch.bind s.epochOf := rfl
  rw [hepoch]
  split <;> rfl

section
variable {s : State} {c : Nat} {r : Req} {run : Run}

theorem localAccess_run (hlow : r.ctx < 64) (hrun : (s.ctx c).run = some run) :
    s.localAccess c r = if r.write then s.localWrite run r else s.localRead run r := by
  simp only [State.localAccess, hrun, if_neg (Nat.not_le.mpr hlow)]

theorem memoryCompletion_served {gs : List Nat} (hold : s.oldestLocal c = some r) (hlive : ¬ (stackOf r.addr ∈ s.mem.inReset ∧ r.addr < dramEnd)) :
    ∃ n, s.memoryCompletion c gs = (s.count 0x12 n).localAccess c r := by
  simp only [State.memoryCompletion, hold, if_neg hlive]
  exact ⟨_, rfl⟩

theorem memoryCompletion_held {gs : List Nat} (hold : s.oldestLocal c = some r) (hreset : stackOf r.addr ∈ s.mem.inReset) (hdram : r.addr < dramEnd) :
    s.memoryCompletion c gs = s := by
  simp only [State.memoryCompletion, hold, if_pos (And.intro hreset hdram)]

theorem memoryError_local (hreqs : s.reqs = [r]) (hctx : r.ctx = c) (hopen : r.arrived = none) (hpath : r.path < 2) (hdram : r.addr < dramEnd) :
    s.memoryError c = (s.markBad (r.addr / 64)).localAccess c r := by
  have hfind : s.reqs.find? (fun r => (decide (r.ctx = c) || (decide (r.ctx = 65) && decide (r.was = c) && decide (r.path < 2)))
      && r.arrived.isNone && (decide (r.path < 2) || decide (65536 ≤ r.tag))) = some r := by
    simp only [hreqs, List.find?_cons, hctx, hopen, hpath, decide_true, Option.isNone_none, Bool.true_or, Bool.and_self]
  simp only [State.memoryError, hfind, if_neg (Nat.not_le.mpr hpath), if_neg (Nat.not_le.mpr hdram)]

theorem ctx_congr {t u : State} (h : t.ctxs = u.ctxs) (k : Nat) : t.ctx k = u.ctx k := by rw [State.ctx, h]; rfl

/-- An update that halts a context, with an error of a walk counted or not: the other contexts are as they were. -/
theorem halted_ctx {f : Ctx → Ctx} {u : State} {code seq moment : Nat} (hst : (f (s.ctx c)).st = .halted)
    (hseq : (f (s.ctx c)).faultSeq = seq)
    (hu : u = { (if code = 6 then (s.modCtx c f).count 0x13 else s.modCtx c f) with poolProgress := moment }) :
    (u.ctx c).st = .halted ∧ (u.ctx c).faultSeq = seq ∧ (∀ k, k ≠ c → u.ctx k = s.ctx k) ∧
      ∃ ctxs moment, u = { (if code = 6 then s.count 0x13 else s) with ctxs := ctxs, poolProgress := moment } := by
  have hne : f (s.ctx c) ≠ {} := fun h => absurd ((congrArg Ctx.st h).symm.trans hst) (by decide)
  have hctxs : u.ctxs = (s.modCtx c f).ctxs := by
    rw [hu]
    split <;> rfl
  have hself : u.ctx c = f (s.ctx c) := (ctx_congr hctxs c).trans (ctx_modCtx_self hne)
  refine ⟨by rw [hself, hst], by rw [hself, hseq], fun k hk => (ctx_congr hctxs k).trans (ctx_modCtx_other hk),
    (s.modCtx c f).ctxs, moment, ?_⟩
  rw [hu]
  split <;> rfl

/-- A halted context stands where it was, with the next fault number; the pool's progress may move, and a walk's error is counted. -/
theorem halt_run {n code : Nat} (hrun : (s.ctx c).run = some run) : ∃ u : State, s.halt c n code =
      (u.count 0x0F).faultEvent run.op run.epoch
        (streamFaultPayload c code run.write (((s.ctx c).faultSeq + 1) % 65536) (toU 49 ((s.ctx c).addr run n))) ∧
    (u.ctx c).st = .halted ∧ (u.ctx c).faultSeq = ((s.ctx c).faultSeq + 1) % 65536 ∧ (∀ k, k ≠ c → u.ctx k = s.ctx k) ∧
    ∃ ctxs moment, u = { (if code = 6 then s.count 0x13 else s) with ctxs := ctxs, poolProgress := moment } := by
  simp only [State.halt, hrun]
  exact ⟨_, rfl, halted_ctx rfl rfl rfl⟩

end

theorem ctx_markBad (s : State) (g c : Nat) : (s.markBad g).ctx c = s.ctx c := by
  unfold State.markBad
  split <;> rfl

theorem standsAt_not_armed {s : State} {c : Nat} (h : (s.ctx c).st ≠ .armed) : s.standsAt c = none := by
  cases hrun : (s.ctx c).run with
  | none => simp only [State.standsAt, hrun]
  | some run =>
    simp only [State.standsAt, hrun]
    exact if_pos (.inl h)

/-- A stream that is no started XFR's halts, and nothing more. -/
theorem streamHalt_other {s : State} {c n code : Nat} {run : Run} (hstands : s.standsAt c = some (n, code)) (hrun : (s.ctx c).run = some run)
    (hkind : ∀ x o, run.op = some x → s.op x.1 x.2 = some o → o.kind ≠ .xfr) : s.streamHalt c = s.halt c n code := by
  simp only [State.streamHalt, hstands, hrun, Option.bind_some]
  cases hx : run.op with
  | none => rfl
  | some x =>
    cases ho : s.op x.1 x.2 with
    | none => simp only [Option.bind_some, ho]
    | some o => simp only [Option.bind_some, ho, if_neg fun h : o.kind = .xfr ∧ o.stage = .started => hkind x o hx ho h.1]

section
variable {s : State} {g : Nat} (hdram : 64 * g < dramEnd) (hgood : g ∉ s.mem.bad)

include hgood in
theorem patrolScrub_clean : s.patrolScrub g .clean = s := by
  simp only [State.patrolScrub, if_neg hgood, ite_self]

variable (hlive : stackOf (64 * g) ∉ s.mem.inReset)
include hdram hgood hlive

theorem patrolScrub_corrected :
    s.patrolScrub g .corrected = if s.mirrorsWith g = [] then s.count 0x12 else (s.count 0x12).count 0x08 := by
  rw [State.patrolScrub, if_neg (not_or.mpr ⟨Nat.not_le.mpr hdram, hlive⟩), if_neg hgood]
  rfl

theorem patrolScrub_uncorrectable (hnone : s.mirrorsWith g = []) :
    s.patrolScrub g .uncorrectable = (s.becomeBad g).condition 0x0201 1 (field 0 40 (64 * g)) := by
  have hnone' : (s.becomeBad g).mirrorsWith g = [] := by
    rw [State.becomeBad_frame]
    exact hnone
  rw [State.patrolScrub, if_neg (not_or.mpr ⟨Nat.not_le.mpr hdram, hlive⟩), if_neg hgood]
  exact if_pos hnone'

end

/-- Settles O48: each event of memory by the checks of its operation. -/
theorem memoryRequestsCompleteOrFail : Obligations.MemoryRequestsCompleteOrFail := by
  intro s hrun
  refine ⟨fun c r run hold hctx => ⟨fun hlive hbad hfailed => ⟨fun gs hread hself => ?reads, fun gs hwrite hself => ?writes⟩,
      fun gs hreset hdram => ?held⟩,
    fun c r run hreqs hself hopen hpath hctx hdram => ?error, fun g hgood => ?staging, fun c hidle => ?notArmed,
    fun c run n code hstands hctx hkind => ?halts, fun hnot => ?noStandstill, fun c hstanding hyielder => ?yields,
    fun g hdram hgood => ⟨?clean, fun hnone hlive => ⟨?corrected, ?uncorrectable, ?marked⟩, fun hmirrors hlive => ?mirror⟩,
    fun k hfailed => ?failedAlready, fun k hfresh => ?fails⟩
  case reads =>
    obtain ⟨n, hserved⟩ := memoryCompletion_served (gs := gs) hold hlive
    obtain ⟨flt, hclean⟩ := localRead_clean (s := s.count 0x12 n) (r := r) (run := run) hbad hfailed
    have hlow : r.ctx < 64 := hself ▸ c.isLt
    have heq : s.memoryCompletion c gs = _ := hserved.trans ((localAccess_run (s := s.count 0x12 n) hlow hctx).trans
      ((if_neg (by simp [hread])).trans hclean))
    refine ⟨_, live_next hrun heq, ?_⟩
    rw [noteRead_count]
  case writes =>
    obtain ⟨n, hserved⟩ := memoryCompletion_served (gs := gs) hold hlive
    have hlow : r.ctx < 64 := hself ▸ c.isLt
    have heq : s.memoryCompletion c gs = _ := hserved.trans ((localAccess_run (s := s.count 0x12 n) hlow hctx).trans
      ((if_pos hwrite).trans (localWrite_clean (s := s.count 0x12 n) hbad hfailed)))
    exact ⟨_, live_next hrun heq, rfl⟩
  case held => exact live_next hrun (memoryCompletion_held hold hreset hdram)
  case error =>
    have hlow : r.ctx < 64 := hself ▸ c.isLt
    have hctx' : ((s.markBad (r.addr / 64)).ctx c).run = some run := by rw [ctx_markBad]; exact hctx
    exact live_next hrun ((memoryError_local hreqs hself hopen hpath hdram).trans (localAccess_run hlow hctx'))
  case staging => exact live_next hrun (if_neg hgood)
  case notArmed =>
    refine live_next hrun ?_
    rw [State.streamHalt, standsAt_not_armed hidle]
  case halts =>
    obtain ⟨u, hhalt, hst, hseq, hothers, ctxs, moment, hu⟩ := halt_run (code := code) (n := n) hctx
    refine ⟨u, live_next hrun ?_, hst, hseq, hothers, by rw [hu]⟩
    rw [← hhalt]
    exact streamHalt_other hstands hctx hkind
  case noStandstill =>
    exact live_next hrun (by simp only [State.standstill, hnot, Bool.false_eq_true, if_false])
  case yields =>
    exact live_next hrun (by simp only [State.standstill, hstanding, hyielder, if_true])
  case clean => exact live_next hrun (patrolScrub_clean hgood)
  case corrected => exact live_next hrun ((patrolScrub_corrected hdram hgood hlive).trans (if_pos hnone))
  case uncorrectable => exact live_next hrun (patrolScrub_uncorrectable hdram hgood hlive hnone)
  case marked => exact State.becomeBad_mem s g
  case mirror => exact live_next hrun ((patrolScrub_corrected hdram hgood hlive).trans (if_neg hmirrors))
  case failedAlready => exact live_next hrun (if_pos hfailed)
  case fails => exact live_next hrun (if_neg hfresh)

end Sys2Proof.Machine

end

section
/-! SUPPORT. Combs and their pumps, and the statements about combs and about loop updates (07 R257 to R261, R277, 08 R304, R326). -/

set_option Elab.async false

namespace Sys2Proof.Machine

/-! ### Combs (07 R257 to R261) -/

section
variable {s : State} {link : Bool}

/-- A comb that has light, or is to have it, is neither dark nor lost. -/
theorem comb_lit (h : s.comb link = .locked ∨ s.comb link = .starting) : s.comb link ≠ .dark ∧ s.comb link ≠ .lost := by
  rcases h with h | h <;> rw [h] <;> decide

/-- The pump in service of a comb with both pumps fails: the spare takes over, and the comb is lost meanwhile. -/
theorem pumpFail_first (hlit : s.comb link = .locked ∨ s.comb link = .starting) (hpumps : s.pumps link < 2) :
    s.pumpFail link = ((s.setPumps link (if s.pumps link = 0 then 3 else 4)).condition 0x0101 1
      (b2n link + 2 * (1 - s.pumps link))).combLost link false := by
  obtain ⟨hdark, hlost⟩ := comb_lit hlit
  obtain h | h : s.pumps link = 0 ∨ s.pumps link = 1 := by omega
  all_goals
    simp only [State.pumpFail, h, hdark, hlost, decide_false, false_or, Bool.false_eq_true, if_false]
    rfl

/-- The pump in service of a comb whose other pump has failed fails: the comb is lost until the next cold reset. -/
theorem pumpFail_second (hlit : s.comb link = .locked ∨ s.comb link = .starting) (hpumps : s.pumps link = 3 ∨ s.pumps link = 4) :
    s.pumpFail link = (s.setPumps link (if s.pumps link = 3 then 7 else 6)).combLost link true := by
  obtain ⟨hdark, hlost⟩ := comb_lit hlit
  rcases hpumps with h | h
  all_goals
    simp only [State.pumpFail, h, hdark, hlost, decide_false, false_or, Bool.false_eq_true, if_false]
    rfl

theorem combReturn_waits {t : Nat} (hwaits : s.combWaits link = some t) : s.combReturn link = if t + 300000000 < s.time then s
    else if link then (({ s with light := { s.light with link := .locked, linkLostAt := none } } : State).condition 0x0103 0 1).fabricReturn
    else (({ s with light := { s.light with compute := .locked, computeLostAt := none, recheck := true } } : State).condition 0x0103 0 0).allLoops
      .sweeping := by
  simp only [State.combReturn, hwaits]
  cases link <;> rfl

theorem combTimeout_waits {t : Nat} (hwaits : s.combWaits link = some t) : s.combTimeout link = if s.time < t + 300000000 then s
    else { s with light := { s.light with linkDead := link || s.light.linkDead, computeDead := !link || s.light.computeDead } } := by
  simp only [State.combTimeout, hwaits]
  cases link <;> rfl

end

/-- Settles O49: each event of a comb by the comb's state, its pumps and the moment at which it was lost. -/
theorem combsFailReturnOrStayLost : Obligations.CombsFailReturnOrStayLost := by
  intro link s hrun dead gone
  have hgone (t : State) (d : Bool) : t.combLost link d = gone t d := by cases link <;> rfl
  refine ⟨fun hdark => ⟨?failDark, ?hotDark⟩, fun hlit hpumps => ?first, fun hlit hpumps => ?second, fun hlit => ?hot, fun hlost => ?hotLost,
    fun t hwaits => ⟨fun hearly => ?returns, fun hlate => ?late, fun hearly => ?wait, fun hlate => ?timeout⟩,
    fun hnone => ⟨?noReturn, ?noTimeout⟩⟩
  case failDark => exact live_next hrun (if_pos (.inl hdark))
  case hotDark => exact live_next hrun (if_pos hdark)
  case first => exact live_next hrun ((pumpFail_first hlit hpumps).trans (hgone _ _))
  case second => exact live_next hrun ((pumpFail_second hlit hpumps).trans (hgone _ _))
  case hot =>
    obtain ⟨hdark, hlost⟩ := comb_lit hlit
    exact live_next hrun ((if_neg hdark).trans ((if_neg hlost).trans (hgone _ _)))
  case hotLost =>
    have hdark : s.comb link ≠ .dark := by rw [hlost]; decide
    refine live_next hrun ((if_neg hdark).trans ((if_pos hlost).trans ?_))
    cases link <;> rfl
  case returns => exact live_next hrun ((combReturn_waits hwaits).trans (if_neg (by omega)))
  case late => exact live_next hrun ((combReturn_waits hwaits).trans (if_pos hlate))
  case wait => exact live_next hrun ((combTimeout_waits hwaits).trans (if_pos hearly))
  case timeout => exact live_next hrun ((combTimeout_waits hwaits).trans (if_neg (by omega)))
  case noReturn => exact live_next hrun (by simp only [State.combReturn, hnone])
  case noTimeout => exact live_next hrun (by simp only [State.combTimeout, hnone])

/-! ### A loop update and its tile (07 R277, 08 R304, R326)

A calibration names its column by a number. One above 32, which no window opens and which the statement does not exclude, is the number
of a column of a later tile, and a trim change at the end of step 3 is recorded there. -/

/-- A device in Held with the compute comb locked. -/
def heldLit : State := { State.reset with
  time := 1000000
  rst := { State.reset.rst with step := 10, reachedHeld := true }
  light := { State.reset.light with compute := .locked }
  basin := { State.reset.basin with state := .running } }

/-- The loops of cluster 0 run and are locked; tile 3, updated as far as update 207, has the last slot of step 3 of a calibration before
it, of a column 40, which its spare covers. -/
def calibratesBeyond : State := { heldLit with
  clusters := [(0, { base := .locked, loopsOn := true })]
  tileLoops := [(3, { updated := 208 })]
  tiles := [(3, { calib := some { p := 40, step := 3, made := 3 }, serves := some 40 })] }

theorem calibratesBeyond_due : Running calibratesBeyond ∧ (calibratesBeyond.cluster ((3 : Fin 25088) / 256 : Nat)).loopsOn = true ∧
    (calibratesBeyond.cluster ((3 : Fin 25088) / 256 : Nat)).asleep = false ∧
    (calibratesBeyond.cluster ((3 : Fin 25088) / 256 : Nat)).inReset = false ∧
    (calibratesBeyond.tileLoop (3 : Fin 25088)).updated ≤ calibratesBeyond.updateNow ((3 : Fin 25088) / 256 : Nat) ∧
    (calibratesBeyond.cluster ((3 : Fin 25088) / 256 : Nat)).updatesAt (calibratesBeyond.updateNow ((3 : Fin 25088) / 256 : Nat)) = true := by
  refine ⟨⟨?_, ?_⟩, ?_⟩ <;> decide +kernel

/-- The update of tile 3 writes column 7 of tile 4. -/
theorem calibratesBeyond_writes : (mget {} (calibratesBeyond.loopUpdate 3 [] .pattern none).cols 139).trimAt = some 1000000 := by
  decide +kernel

/-- Refutes O50: a loop update of a tile whose calibration names a column above 32 changes a column of another tile. -/
theorem not_loopsUpdateLockAndPause : ¬ Obligations.LoopsUpdateLockAndPause := by
  unfold Obligations.LoopsUpdateLockAndPause
  intro h
  obtain ⟨hrun, hon, hawake, hlive, hdue, hupdates⟩ := calibratesBeyond_due
  obtain ⟨hloops, -⟩ := h calibratesBeyond hrun
  obtain ⟨hupdate, -⟩ := hloops 3 [] .pattern none
  obtain ⟨u, hexec, -, -, hcols, -⟩ := hupdate hon hawake hlive hdue hupdates nofun
  have hu : calibratesBeyond.loopUpdate 3 [] .pattern none = u := Host.Outcome.next.inj ((live_running hrun).symm.trans hexec)
  have hother := hcols 139 (by decide)
  rw [← hu] at hother
  exact absurd (congrArg ColSt.trimAt hother) (by rw [calibratesBeyond_writes]; decide)

end Sys2Proof.Machine

end

section
/-! SUPPORT. Flags, sweeps, line-identity checks and low rate; heaters, injected conversions, captures and calibration windows; and the
statements about them (07 R290 to R295, R318, 08 R306 to R332, 17 R561 to R563). -/

set_option Elab.async false

namespace Sys2Proof.Machine

/-! ### Flags and sweeps (07 R289, R292) -/

section
variable {s : State} {tile p : Nat} {w : Sweep} (hloop : (s.col tile p).loop = .sweeping) (hsweep : (s.col tile p).sweep = some w)
include hloop hsweep

theorem sweepEnd_of_sweep : s.sweepEnd tile p = if w.step < 66 then s
    else if w.found then
      (s.modCol tile p (fun c => { c with loop := .closing, sweep := none, pc := sweepPower (dacPower (s.parkCode tile p)) w.best })).setTarget
        tile p (dacCode (sweepPower (dacPower (s.parkCode tile p)) w.best))
    else s.attemptFailed tile p := by
  simp only [State.sweepEnd, hloop, hsweep]

end

theorem sweepEnd_other {s : State} {tile p : Nat} (h : (s.col tile p).loop ≠ .sweeping) : s.sweepEnd tile p = s := by
  simp only [State.sweepEnd]
  split
  next hloop _ => exact absurd hloop h
  · rfl

/-! ### Line-identity checks (07 R293 to R295) -/

/-- Pairs with given first parts and one second part. -/
theorem pairs_iff {α β : Type} [DecidableEq β] (b : β) (l : List (α × β)) (ws : List α) :
    (l.map (·.1) = ws ∧ l.all (fun x => decide (x.2 = b)) = true) ↔ l = ws.map (·, b) := by
  induction l generalizing ws with
  | nil => cases ws <;> simp
  | cons x l ih =>
    cases ws with
    | nil => simp
    | cons w ws =>
      have := ih ws
      simp only [List.map_cons, List.all_cons, List.cons.injEq, Bool.and_eq_true, decide_eq_true_eq, Prod.ext_iff]
      tauto

/-- The codes of a check as numbers. -/
theorem codes_as_nats (codes : List (Fin 8192)) : (do let a ← codes; pure (a : Nat)) = codes.map (fun (c : Fin 8192) => (c : Nat)) :=
  List.flatMap_pure_eq_map _ codes

/-- The readings of a check: its integers, each with the class of its residual. -/
def checkReadings (codes : List (Fin 8192)) : List (Int × Residual) := codes.map (fun (c : Fin 8192) => convert false ((c : Nat) : Int))

/-- How many readings of a check are of a class. -/
theorem readings_of_class (codes : List (Fin 8192)) (r : Residual) :
    ((codes.map (fun (c : Fin 8192) => (c : Nat))).filter (fun (c : Nat) => decide ((convert false (c : Int)).2 = r))).length =
      ((checkReadings codes).filter (fun x => decide (x.2 = r))).length := by
  simp only [checkReadings, List.filter_map, List.length_map]
  rfl

/-- The integers of a check are right and clean exactly where its readings are those eight. -/
theorem identityOk_iff (codes : List (Fin 8192)) : identityOk codes = decide (checkReadings codes =
    [(32, .clean), (32, .clean), (32, .clean), (32, .clean), (32, .clean), (32, .clean), (64, .clean), (0, .clean)]) := by
  rw [Bool.eq_iff_iff, decide_eq_true_iff]
  refine Iff.trans ?_ (pairs_iff Residual.clean (checkReadings codes) checkWants)
  rw [identityOk, Bool.and_eq_true, decide_eq_true_iff, checkReadings]

/-- A check that is ready has run: its slots, its warn and ambiguous integers, and the warning of its column. -/
def State.identityChecked (s : State) (k : Check) (tile p : Nat) (codes : List (Fin 8192)) : State :=
  let warns := ((checkReadings codes).filter (fun x => decide (x.2 = .warn))).length
  let n := (({ s with
    cal := { s.cal with checks := s.cal.checks.filter (· ≠ k), driven := mset 0 s.cal.driven (tile / 128) (s.time + 48) }
    basin := { s.basin with slot := s.basin.slot + (if k.forced then 8 else 0) } } : State).count 0x00 warns).count 0x01
      ((checkReadings codes).filter (fun x => decide (x.2 = .ambiguous))).length
  if warns = 0 then n else n.modTile tile (fun t => { t with warned := if p ∈ t.warned then t.warned else t.warned ++ [p] })

/-- What a check that has run leads to. -/
def State.afterIdentity (s : State) (k : Check) (tile p : Nat) (codes : List (Fin 8192)) : State :=
  let v := s.identityChecked k tile p codes
  if k.carousel then
    match (v.tile tile).calib with
    | some c =>
      if c.p ≠ p ∨ c.ended then v
      else if identityOk codes then v.modTile tile (fun t => { t with calib := some { c with step := 9, made := 0 } })
      else v.calFailed tile c
    | none => v
  else if identityOk codes then v.columnBack tile p
  else v.attemptFailed tile p

section
variable {s : State} {k : Check} {tile p : Nat} {codes : List (Fin 8192)}

theorem identityCheck_none (h : ∀ k ∈ s.cal.checks, ¬ (k.tile = tile ∧ k.p = p)) : s.identityCheck tile p codes = s := by
  have hnone : s.cal.checks.find? (fun k => decide (k.tile = tile) && decide (k.p = p)) = none :=
    List.find?_eq_none.mpr fun k hk => by simpa using h k hk
  simp only [State.identityCheck, hnone]

variable (hchecks : s.cal.checks = [k]) (htile : k.tile = tile) (hp : k.p = p) (hready : s.checkReady k = true)
include hchecks htile hp hready

theorem identityCheck_find : s.identityCheck tile p codes = s.afterIdentity k tile p codes := by
  have hfind : s.cal.checks.find? (fun k => decide (k.tile = tile) && decide (k.p = p)) = some k := by
    simp [hchecks, htile, hp]
  have hlength (r : Residual) : ((codes.map (fun (c : Fin 8192) => (convert false ((c : Nat) : Int)).2)).filter (fun x => decide (x = r))).length =
      ((checkReadings codes).filter (fun x => decide (x.2 = r))).length := by
    simp only [checkReadings, List.filter_map, List.length_map]
    rfl
  simp only [State.identityCheck, hfind, hready, not_true_eq_false, if_false, hlength]
  rfl

theorem identityCheck_returns (hk : k.carousel = false) (hok : identityOk codes = true) :
    s.identityCheck tile p codes = (s.identityChecked k tile p codes).columnBack tile p := by
  simp only [identityCheck_find hchecks htile hp hready, State.afterIdentity, hk, hok, if_true, Bool.false_eq_true, if_false]

theorem identityCheck_fails (hk : k.carousel = false) (hok : identityOk codes = false) :
    s.identityCheck tile p codes = (s.identityChecked k tile p codes).attemptFailed tile p := by
  simp only [identityCheck_find hchecks htile hp hready, State.afterIdentity, hk, hok, Bool.false_eq_true, if_false]

theorem identityCheck_calibrates {c : Calib} (hk : k.carousel = true) (hok : identityOk codes = true)
    (hc : ((s.identityChecked k tile p codes).tile tile).calib = some c) (hcp : c.p = p) (hend : c.ended = false) :
    s.identityCheck tile p codes =
      (s.identityChecked k tile p codes).modTile tile (fun t => { t with calib := some { c with step := 9, made := 0 } }) := by
  simp only [identityCheck_find hchecks htile hp hready, State.afterIdentity, hk, hok, hc, hcp, hend, if_true, ne_eq, not_true_eq_false,
    Bool.false_eq_true, or_self, if_false]

end

/-- A calibration that runs in the tile still runs there once the check has run. -/
theorem calib_identityChecked {s : State} {k : Check} {tile p : Nat} {codes : List (Fin 8192)} {c : Calib}
    (hc : (s.tile tile).calib = some c) : ((s.identityChecked k tile p codes).tile tile).calib = some c := by
  have hne (ws : List Nat) : { s.tile tile with warned := ws } ≠ ({} : TileSt) := fun h => by
    have hnone : (s.tile tile).calib = none := congrArg TileSt.calib h
    simp [hc] at hnone
  simp only [State.identityChecked]
  split
  · exact hc
  · exact (congrArg TileSt.calib (mget_mset_ne _ _ _ _ (hne _))).trans hc

/-! ### Forced checks and the low rate (07 R295, R318) -/

theorem forceCheck_eq (s : State) (tile p : Nat) : s.forceCheck tile p = { s with
    cal := { s.cal with checks := s.cal.checks.map (fun (k : Check) => { k with forced := k.forced || decide (k.tile = tile ∧ k.p = p ∧ k.since + 300000 ≤ s.time) }) } } := by
  have hmap (k : Check) : (if k.tile = tile ∧ k.p = p ∧ k.since + 300000 ≤ s.time then { k with forced := true } else k) =
      { k with forced := k.forced || decide (k.tile = tile ∧ k.p = p ∧ k.since + 300000 ≤ s.time) } := by
    by_cases h : k.tile = tile ∧ k.p = p ∧ k.since + 300000 ≤ s.time
    · simp only [if_pos h, decide_eq_true h, Bool.or_true]
    · simp only [if_neg h, decide_eq_false h, Bool.or_false]
  simp only [State.forceCheck, hmap]

section
variable {s : State} {c : Nat}

theorem lowRateEntry_quiet (hon : (s.cluster c).loopsOn = true) (hawake : (s.cluster c).asleep = false)
    (hlow : (s.cluster c).lowAt (s.updateNow c) = false) (hat : s.atUpdateBoundary c = true) (hrec : s.recovering c = 0)
    (hcap : (s.cluster c).capture = none) (hquiet : (s.cluster c).lastAct + 4800 * s.obj 0x4800 1 ≤ s.time) :
    s.lowRateEntry c = s.modCluster c (fun x => { x with
      lowFrom := some (s.updateNow c), lowTo := none, phase := x.phaseOf (s.updateNow c), phaseAt := s.updateNow c, announced := false }) := by
  refine if_neg ?_
  simp only [hon, hawake, hlow, hat, hrec, hcap, not_true_eq_false, Bool.false_eq_true, ne_eq, Option.isSome_none, false_or, not_lt]
  exact hquiet

theorem lowRateEntry_busy
    (h : (s.cluster c).loopsOn = false ∨ s.recovering c ≠ 0 ∨ s.time < (s.cluster c).lastAct + 4800 * s.obj 0x4800 1) :
    s.lowRateEntry c = s := by
  refine if_pos ?_
  rcases h with h | h | h
  · exact .inl (by simp [h])
  · exact .inr (.inr (.inr (.inr (.inl h))))
  · exact .inr (.inr (.inr (.inr (.inr (.inr h)))))

theorem lowRateExit_announced (hlow : (s.cluster c).lowAt (s.updateNow c) = true) (hto : (s.cluster c).lowTo = none)
    (hann : (s.cluster c).announced = true) :
    s.lowRateExit c = s.modCluster c (fun x => { x with
      lowTo := some (s.updateNow c + 1), phase := x.phaseOf (s.updateNow c + 1), phaseAt := s.updateNow c + 1 }) :=
  if_neg (by simp [hlow, hto, hann])

theorem lowRateExit_stays (h : (s.cluster c).lowAt (s.updateNow c) = false ∨ (s.cluster c).announced = false) : s.lowRateExit c = s := by
  refine if_pos ?_
  rcases h with h | h
  · exact .inl (by simp [h])
  · exact .inr (.inr (by simp [h]))

end

/-! ### O51 -/

theorem exec_comparatorFlag {s : State} (hrun : Running s) (tile : Fin 25088) (p : Fin 33) (lit : Bool) :
    let inPass : Bool := lit && (s.passOp.toList ++ s.issueOp.toList).any (fun o => s.lights o tile)
    let t : State := { s with cols := mset {} s.cols (33 * tile + p) { s.col tile p with clean := 0 } }
    let u : State := if inPass then { t with basin := { t.basin with flagged := t.basin.flagged ++ [(tile.val, p.val)] } } else t.pilotLoss tile p
    (s.detOf tile p = .out → exec (.pilotComparatorFlag tile p lit) s = .next u) ∧
    (s.detOf tile p ≠ .out → exec (.pilotComparatorFlag tile p lit) s = .next (u.enterRecovery tile p (if inPass then 0 else 1))) := by
  refine ⟨fun hout => live_next hrun ?_, fun hin => live_next hrun ?_⟩
  · simp only [State.comparatorFlag, hout, if_true]
    split <;> rfl
  · simp only [State.comparatorFlag, hin, if_false]
    split <;> rfl

theorem exec_sweepEnd {s : State} (hrun : Running s) (tile : Fin 25088) (p : Fin 33) (w : Sweep)
    (hloop : (s.col tile p).loop = .sweeping) (hsweep : (s.col tile p).sweep = some w) :
    (w.step < 66 → exec (.sweepEnd tile p) s = .next s) ∧
    (66 ≤ w.step → w.found = true →
      let pc := sweepPower (dacPower (s.parkCode tile p)) w.best
      exec (.sweepEnd tile p) s = .next ((({ s with
        cols := mset {} s.cols (33 * tile + p) { s.col tile p with loop := .closing, sweep := none, pc := pc } } : State)).setTarget tile p (dacCode pc))) ∧
    (66 ≤ w.step → w.found = false → exec (.sweepEnd tile p) s = .next (s.attemptFailed tile p)) := by
  have hend := sweepEnd_of_sweep hloop hsweep
  refine ⟨fun hstep => live_next hrun ?_, fun hstep hfound => live_next hrun ?_, fun hstep hfound => live_next hrun ?_⟩
  · rw [hend, if_pos hstep]
  · rw [hend, if_neg (Nat.not_lt.mpr hstep), if_pos hfound]
    rfl
  · rw [hend, if_neg (Nat.not_lt.mpr hstep), if_neg (by simp [hfound])]

/-- Settles O51, a branch of the event at a time: comparator flags, sweeps, line-identity checks by their readings, and the low rate. -/
theorem flagsSweepsChecksAndRates : Obligations.FlagsSweepsChecksAndRates := by
  unfold Obligations.FlagsSweepsChecksAndRates
  intro s hrun
  refine ⟨exec_comparatorFlag hrun, exec_sweepEnd hrun, fun tile p hloop => live_next hrun (sweepEnd_other hloop),
    fun tile p codes => ⟨fun hnone => live_next hrun (identityCheck_none hnone), fun k hchecks htile hp hready => ?_,
      live_next hrun (forceCheck_eq s tile p)⟩,
    fun c => ⟨fun hon hawake hlow hat hrec hcap hquiet => live_next hrun (lowRateEntry_quiet hon hawake hlow hat hrec hcap hquiet),
      fun hbusy => live_next hrun (lowRateEntry_busy hbusy), fun hlow hto hann => live_next hrun (lowRateExit_announced hlow hto hann),
      fun hstays => live_next hrun (lowRateExit_stays hstays)⟩⟩
  intro good warns ambs u n v
  have hgood : good = identityOk codes := by
    simp only [good, codes_as_nats, List.map_map]
    exact (identityOk_iff codes).symm
  have hv : v = s.identityChecked k tile p codes := by
    have hrest : [k].filter (fun x => decide (x ≠ k)) = [] := by simp
    simp only [v, n, u, warns, ambs, codes_as_nats, readings_of_class, State.identityChecked, hchecks, hrest]
  rw [hgood, hv]
  exact ⟨fun hk hok => live_next hrun (identityCheck_returns hchecks htile hp hready hk hok),
    fun hk hok => live_next hrun (identityCheck_fails hchecks htile hp hready hk hok),
    fun c hk hc hcp hend hok => live_next hrun (identityCheck_calibrates hchecks htile hp hready hk hok (calib_identityChecked hc) hcp hend)⟩

end Sys2Proof.Machine

end

section
/-! SUPPORT. Heater faults, triggers and injected conversions, monitor captures and calibration windows, and the statement about them
(08 R306 to R332, 17 R561 to R563). -/

set_option Elab.async false

namespace Sys2Proof.Machine

/-! ### Heater faults (08 R321, R322) -/

/-- The heater's fault latches and is reported. -/
def State.heaterLatch (s : State) (tile h : Nat) (short : Bool) : State :=
  (((s.modHeater tile h (fun x => { x with short := short, open_ := !short, target := none, applied := none })).count 0x1E).condition
    0x0108 2 (field 0 15 tile + field 15 6 h + field 21 1 (b2n short) + field 22 1 (b2n (!short)))).startFault 0x0108 tile

section
variable {s : State} {tile h : Nat}

theorem heaterLatch_col (short : Bool) (p : Nat) : (s.heaterLatch tile h short).col tile p = s.col tile p := by
  rw [State.heaterLatch, State.condition, State.startFault_frame, State.event_frame]
  rfl

theorem heaterFault_latched (short : Bool) (hlatched : (s.heater tile h).short = true ∨ (s.heater tile h).open_ = true) :
    s.heaterFault tile h short = s := if_pos hlatched

variable (hshort : (s.heater tile h).short = false) (hopen : (s.heater tile h).open_ = false)
include hshort hopen

theorem heaterFault_short :
    let t := (s.heaterLatch tile h true).trigger tile 1 ((List.range 34).map (senseChan tile))
    s.heaterFault tile h true = if h = 33 then (t.parkTile tile).makeUnusable tile true
      else if (t.col tile h).retired then t else (t.columnOut tile h .retired).retireColumn tile h :=
  if_neg (by simp [hshort, hopen])

theorem heaterFault_open (hcol : (s.col tile h).retired = false) :
    s.heaterFault tile h false = if h = 33 then ((s.heaterLatch tile h false).parkTile tile).makeUnusable tile true
      else ((s.heaterLatch tile h false).columnOut tile h .retired).retireColumn tile h := by
  have hstays : ¬ ((s.heaterLatch tile h false).col tile h).retired = true := by simp [heaterLatch_col, hcol]
  have hfault : s.heaterFault tile h false = if h = 33 then ((s.heaterLatch tile h false).parkTile tile).makeUnusable tile true
      else if ((s.heaterLatch tile h false).col tile h).retired then s.heaterLatch tile h false
      else ((s.heaterLatch tile h false).columnOut tile h .retired).retireColumn tile h :=
    if_neg (by simp [hshort, hopen])
  rw [hfault, if_neg hstays]

end

/-! ### Triggers (08 R311, R312) -/

section
variable {s : State} {tile kind : Nat} {chans : List Nat} {c m : Nat} (hc : tile / 256 = c)
  (hm : (s.cluster c).hostOf (convOf tile) (tile % 16) = m)
include hc hm

theorem trigger_room (hroom : ((s.cluster c).queued.filter (fun t => decide (t.conv = m))).length < 4) :
    s.trigger tile kind chans = s.modCluster c (fun x => { x with
      queued := x.queued ++ [({ conv := m, kind := kind, chans := chans, since := s.time } : Trigger)] }) := by
  subst hc hm
  refine if_pos ?_
  split <;> omega

theorem trigger_full (hfull : 5 ≤ ((s.cluster c).queued.filter (fun t => decide (t.conv = m))).length) :
    s.trigger tile kind chans = s.count 0x1B := by
  subst hc hm
  refine if_neg ?_
  split <;> omega

end

/-- The tile of a converter's channel is one of the sixteen that the converter serves. -/
theorem chanTile_of_conv {ch conv : Nat} (h : ch < 17408) (hconv : chanConv ch = conv) : chanTile ch < 256 ∧ chanTile ch / 16 = conv := by
  subst hconv
  simp only [chanTile, chanConv]
  split
  · omega
  · split <;> omega

theorem injectRequest_room {s : State} {c conv : Nat} {chans : List Nat} (hne : chans ≠ []) (hlen : chans.length ≤ 32)
    (hruns : s.runs (procCluster c) = true) (hworks : conv ∉ (s.cluster c).monFailed) (hchans : ∀ ch ∈ chans, ch < 17408 ∧ chanConv ch = conv)
    (hroom : ((s.cluster c).queued.filter (fun t => decide (t.conv = conv))).length < 4) :
    s.injectRequest c conv chans = s.modCluster c (fun x => { x with
      queued := x.queued ++ [({ conv := conv, kind := 4, chans := chans, since := s.time } : Trigger)] }) := by
  obtain ⟨ch, rest, rfl⟩ := List.exists_cons_of_ne_nil hne
  obtain ⟨hch, hconv⟩ := hchans ch List.mem_cons_self
  obtain ⟨htile, hserves⟩ := chanTile_of_conv hch hconv
  have hall : (ch :: rest).all (fun ch => decide (ch < 17408) && decide (chanConv ch = conv)) = true :=
    List.all_eq_true.mpr fun y hy => by simpa using hchans y hy
  have hof : convOf (256 * c + chanTile ch) = conv := by simp only [convOf]; omega
  refine (if_neg ?_).trans (trigger_room (by simp only [List.headD_cons]; omega) ?_ hroom)
  · simp only [hruns, hall, not_true_eq_false, or_false]
    simpa using hlen
  · simp only [List.headD_cons, hof, State.cluster] at hworks ⊢
    exact if_neg hworks

/-! ### Injected sequences (08 R312, R313) -/

/-- What the samples of an injected sequence leave alone: what waits and what is injected in the cluster, the other clusters, and
everything but clusters, columns, heaters and counters. -/
def Samples (c : Nat) (s u : State) : Prop :=
  (u.cluster c).queued = (s.cluster c).queued ∧ (u.cluster c).injected = (s.cluster c).injected ∧
  (∀ k, k ≠ c → u.cluster k = s.cluster k) ∧ u = { s with clusters := u.clusters, cols := u.cols, heaters := u.heaters, flt := u.flt }

section
variable {c : Nat} {s t u : State}

theorem Samples.refl (c : Nat) (s : State) : Samples c s s := ⟨rfl, rfl, fun _ _ => rfl, rfl⟩

theorem Samples.trans (h : Samples c s t) (h' : Samples c t u) : Samples c s u := by
  obtain ⟨hqueued, hinjected, hother, hframe⟩ := h
  obtain ⟨hqueued', hinjected', hother', hframe'⟩ := h'
  refine ⟨hqueued'.trans hqueued, hinjected'.trans hinjected, fun k hk => (hother' k hk).trans (hother k hk), ?_⟩
  rw [hframe', hframe]

theorem Samples.count (n k : Nat) : Samples c s (s.count n k) := ⟨rfl, rfl, fun _ _ => rfl, rfl⟩

theorem Samples.modCluster {f : ClusterSt → ClusterSt} (hne : (s.cluster c).injected ≠ [])
    (hqueued : (f (s.cluster c)).queued = (s.cluster c).queued) (hinjected : (f (s.cluster c)).injected = (s.cluster c).injected) :
    Samples c s (s.modCluster c f) := by
  have hself : (s.modCluster c f).cluster c = f (s.cluster c) :=
    cluster_modCluster_self fun h => hne (hinjected.symm.trans (congrArg ClusterSt.injected h))
  exact ⟨(congrArg _ hself).trans hqueued, (congrArg _ hself).trans hinjected, fun k hk => cluster_modCluster_other hk, rfl⟩

theorem Samples.record {injected : Bool} {rec : Nat} (hne : (s.cluster c).injected ≠ []) : Samples c s (s.record c injected rec) := by
  have hcount (b : Bool) : Samples c s (if b then s.count 0x1C else s) := by
    cases b
    · exact Samples.refl c s
    · exact Samples.count _ _
  have hkeeps (b : Bool) : ((if b then s.count 0x1C else s).cluster c).injected ≠ [] := (hcount b).2.1 ▸ hne
  cases injected
  · exact (hcount _).trans (Samples.modCluster (hkeeps _) rfl rfl)
  · exact (hcount _).trans (Samples.modCluster (hkeeps _) rfl rfl)

end

/-- One sample of an injected sequence that starts at a half-cycle, with slots of a length. -/
def State.injectSample (x : ClusterSt) (c conv kind start len : Nat) (s : State) (e : (Nat × Fin 4096) × Nat) : State :=
  let ch := e.1.1
  let raw : Nat := e.1.2
  let v := x.corrected ch raw
  let ph := x.phaseAtHalf (start + len * e.2)
  let tile := 256 * c + chanTile ch
  let s := if ch < 8448 then s.modCol tile (ch % 33) (fun k => k.sample v ph)
    else if 8704 ≤ ch ∧ ch < 17408 then s.noteSense tile ((ch - 8704) % 34) v else s
  s.record c true (monRecord raw conv v ch false true ph kind)

theorem Samples.injectSample (x : ClusterSt) {c : Nat} (conv kind start len : Nat) {s : State} (e : (Nat × Fin 4096) × Nat)
    (hne : (s.cluster c).injected ≠ []) : Samples c s (s.injectSample x c conv kind start len e) := by
  simp only [State.injectSample]
  split
  · exact Samples.trans ⟨rfl, rfl, fun _ _ => rfl, rfl⟩ (Samples.record hne)
  · split
    · exact Samples.trans ⟨rfl, rfl, fun _ _ => rfl, rfl⟩ (Samples.record hne)
    · exact Samples.record hne

theorem Samples.foldl (x : ClusterSt) {c : Nat} (conv kind start len : Nat) (es : List ((Nat × Fin 4096) × Nat)) (s : State)
    (hne : (s.cluster c).injected ≠ []) : Samples c s (es.foldl (State.injectSample x c conv kind start len) s) := by
  induction es generalizing s with
  | nil => exact Samples.refl c s
  | cons e es ih =>
    have hfirst := Samples.injectSample x conv kind start len e hne
    exact hfirst.trans (ih _ (hfirst.2.1 ▸ hne))

theorem injectedStart_none {s : State} {c conv : Nat} {codes : List (Fin 4096)} (h : ∀ t ∈ (s.cluster c).queued, t.conv ≠ conv) :
    s.injectedStart c conv codes = s := by
  have hnone : (s.cluster c).queued.find? (fun t => decide (t.conv = conv)) = none :=
    List.find?_eq_none.mpr fun t ht => by simpa using h t ht
  simp only [State.injectedStart, hnone]

section
variable {s : State} {c conv : Nat} {codes : List (Fin 4096)} {t : Trigger} (hqueued : (s.cluster c).queued = [t]) (hconv : t.conv = conv)
include hqueued hconv

theorem injectedStart_early
    (hearly : s.halfNow c < max (cdiv (2 * (t.since - (s.cluster c).loopStart)) ((s.cluster c).slotLen (2 * (t.since - (s.cluster c).loopStart) / 9600)) *
      (s.cluster c).slotLen (2 * (t.since - (s.cluster c).loopStart) / 9600)) ((s.cluster c).injectedEnd conv)) :
    s.injectedStart c conv codes = s := by
  have hfind : (s.cluster c).queued.find? (fun t => decide (t.conv = conv)) = some t := by simp [hqueued, hconv]
  simp only [State.injectedStart, hfind]
  exact if_pos (.inl hearly)

theorem injectedStart_due (hlen : t.chans.length = codes.length) (hawake : (s.cluster c).asleep = false) (hin : (s.cluster c).inReset = false) :
    let since := 2 * (t.since - (s.cluster c).loopStart)
    let len := (s.cluster c).slotLen (since / 9600)
    let start := max (cdiv since len * len) ((s.cluster c).injectedEnd conv)
    start ≤ s.halfNow c → (((s.injectedStart c conv codes).cluster c).queued = [] ∧
      ((s.injectedStart c conv codes).cluster c).injected = (s.cluster c).injected.filter (fun y => decide (9600 * (s.updateNow c - 4) < y.2.2)) ++
        [(conv, start, start + len * t.chans.length)] ∧
      (∀ k, k ≠ c → (s.injectedStart c conv codes).cluster k = s.cluster k) ∧
      s.injectedStart c conv codes = { s with clusters := (s.injectedStart c conv codes).clusters, cols := (s.injectedStart c conv codes).cols
                                              heaters := (s.injectedStart c conv codes).heaters, flt := (s.injectedStart c conv codes).flt }) := by
  intro since len start hdue
  have hfind : (s.cluster c).queued.find? (fun t => decide (t.conv = conv)) = some t := by simp [hqueued, hconv]
  generalize hu : s.injectedStart c conv codes = u
  have hstarts : u = (t.chans.zip codes).zipIdx.foldl (State.injectSample (s.cluster c) c conv t.kind start len)
      (s.modCluster c (fun x => { x with
        queued := x.queued.erase t
        injected := x.injected.filter (fun y => decide (9600 * (s.updateNow c - 4) < y.2.2)) ++ [(conv, start, start + len * t.chans.length)] })) := by
    subst hu
    simp only [State.injectedStart, hfind]
    refine if_neg ?_
    simp only [hlen, hawake, hin, ne_eq, not_true_eq_false, Bool.false_eq_true, or_self, or_false, not_lt]
    exact hdue
  have htaken := cluster_modCluster_self (s := s) (c := c) (f := fun x => { x with
      queued := x.queued.erase t
      injected := x.injected.filter (fun y => decide (9600 * (s.updateNow c - 4) < y.2.2)) ++ [(conv, start, start + len * t.chans.length)] })
    (fun h => by simpa using congrArg ClusterSt.injected h)
  obtain ⟨hq, hi, hother, hframe⟩ := hstarts ▸ Samples.foldl (s.cluster c) conv t.kind start len (t.chans.zip codes).zipIdx _
    (by rw [htaken]; simp)
  refine ⟨hq.trans ?_, hi.trans ?_, fun k hk => (hother k hk).trans (cluster_modCluster_other hk), hframe⟩
  · rw [htaken]
    simp [hqueued]
  · rw [htaken]

end

/-! ### Monitor converters and captures (08 R316, R317) -/

section
variable {s : State} {c : Nat}

/-- A second converter of a bank fails: its injected work goes to a converter that works. -/
theorem monitorFail_second {conv m : Nat} (hone : (s.cluster c).monFailed = [m]) (hne : m ≠ conv) :
    let y : ClusterSt := { s.cluster c with
      monFailed := [m, conv]
      failing := (s.cluster c).failing.filter (fun f => decide (s.updateNow c ≤ f.2)) ++ [(conv, s.updateNow c)] }
    s.monitorFail c conv = (({ s with clusters := mset {} s.clusters c { y with
      queued := y.queued.map (fun (t : Trigger) =>
        if t.conv = conv then { t with conv := y.hostOf conv (chanTile (t.chans.headD 0) % 16) } else t) } } : State).condition
      0x010C 1 (field 0 7 c + field 7 4 conv + field 11 2 2)) := by
  have hnew : conv ∉ [m] := by simp [Ne.symm hne]
  intro y
  simp only [State.monitorFail, hone, if_neg hnew, List.length_singleton, Nat.reduceAdd, Nat.reduceEqDiff, if_false]
  rfl

theorem captureStart_started {q : Capture} (hq : (s.cluster c).capture = some q) (hstarted : q.started = true) : s.captureStart c = s := by
  simp only [State.captureStart, hq]
  exact if_pos (.inl hstarted)

theorem captureStart_elsewhere {q : Capture} (hq : (s.cluster c).capture = some q) (hat : s.atUpdateBoundary c = false) :
    s.captureStart c = s := by
  simp only [State.captureStart, hq]
  exact if_pos (.inr (.inr (by simp [hat])))

theorem captureStart_idle {q : Capture} (hq : (s.cluster c).capture = some q) (hstarted : q.started = false) (hidle : s.basinOps = [])
    (hat : s.atUpdateBoundary c = true) : s.captureStart c =
      s.modCluster c (fun x => { x with capture := some { q with started := true, since := s.time }, lastAct := s.time }) := by
  simp only [State.captureStart, hq, hidle]
  exact if_neg (by simp [hstarted, hat])

theorem captureComplete_early {codes : List (Fin 4096)} {q : Capture} (hq : (s.cluster c).capture = some q)
    (h : q.started = false ∨ 2 * s.time < 2 * q.since + 15 * bits q.req 25 13 ∨ codes.length ≠ 2 * bits q.req 25 13) :
    s.captureComplete c codes = s := by
  simp only [State.captureComplete, hq]
  exact if_pos (h.imp_left (by simp [·]))

theorem captureComplete_done {codes : List (Fin 4096)} {q : Capture} (hq : (s.cluster c).capture = some q) (hstarted : q.started = true)
    (htime : 2 * q.since + 15 * bits q.req 25 13 ≤ 2 * s.time) (hlen : codes.length = 2 * bits q.req 25 13) :
    s.captureComplete c codes = { s with
      cal := { s.cal with captured := codes.map (fun (k : Fin 4096) => (k : Nat)) }
      clusters := mset {} s.clusters c { s.cluster c with capture := none, lastAct := s.time } } := by
  simp only [State.captureComplete, hq]
  exact if_neg (by simp [hstarted, hlen, Nat.not_lt.mpr htime])

end

/-! ### Calibration windows (08 R324 to R330) -/

section
variable {s : State} {tile : Nat}

theorem carouselWindow_not (h : s.obj 0x4C00 1 = 0 ∨ s.updateNow (tile / 256) % 50 ≠ 0 ∨ (s.tile tile).calib.isSome = true) :
    s.carouselWindow tile = s := by
  refine if_pos ?_
  rcases h with h | h | h
  · exact .inr (.inl h)
  · exact .inr (.inr (.inl h))
  · exact .inr (.inr (.inr (.inr (.inl h))))

/-- With no column that waits or warns, the next window is that of the column at the pointer, here the spare's own. -/
theorem carouselChoice_spare (hwhy : (s.tile tile).why = .idle) (hawaiting : (s.tile tile).awaiting = []) (hwarned : (s.tile tile).warned = [])
    (hpointer : (s.tile tile).pointer = 32) : s.carouselChoice tile = (32, false) := by
  have hnone : columns.find? (fun p => decide (p ∈ ([] : List Nat)) && (decide (p = 32) || !s.damaged tile p)) = none :=
    List.find?_eq_none.mpr fun p _ => by simp
  have hfirst : ((List.range 33).map (fun i => (32 + i) % 33)).find? (fun p => decide (p = 32) || !s.damaged tile p) = some 32 := rfl
  simp only [State.carouselChoice, hwhy, hawaiting, hwarned, hpointer, hnone, hfirst, ite_self, reduceCtorEq, if_false]
  rfl

theorem carouselWindow_spare (hserved : s.skipped tile = false) (hon : s.obj 0x4C00 1 = 1) (hat : s.updateNow (tile / 256) % 50 = 0)
    (hlast : (s.tileLoop tile).lastWindow ≠ some (s.updateNow (tile / 256))) (hcalib : (s.tile tile).calib = none)
    (hwhy : (s.tile tile).why = .idle) (hmap : (s.tile tile).pendingMap = []) (hawaiting : (s.tile tile).awaiting = [])
    (hwarned : (s.tile tile).warned = []) (hpointer : (s.tile tile).pointer = 32) : s.carouselWindow tile = { s with
      tileLoops := mset {} s.tileLoops tile { s.tileLoop tile with lastWindow := some (s.updateNow (tile / 256)) }
      tiles := mset {} s.tiles tile { s.tile tile with
        calib := some { p := 32, start := s.updateNow (tile / 256) }, lastPriority := false, pointer := 0 } } := by
  simp only [State.carouselWindow, carouselChoice_spare hwhy hawaiting hwarned hpointer, true_or, if_true]
  refine (if_neg ?_).trans ?_
  · simp [hserved, hon, hat, hlast, hcalib, hwhy, hmap]
  · have hnext : (if false = true ∨ (s.tile tile).why = .relieved ∨ 32 ∈ (s.tile tile).awaiting then (s.tile tile).pointer else (32 + 1) % 33) = 0 :=
      if_neg (by simp [hwhy, hawaiting])
    exact congrArg (fun v : Nat => ({ s with
      tileLoops := mset {} s.tileLoops tile { s.tileLoop tile with lastWindow := some (s.updateNow (tile / 256)) }
      tiles := mset {} s.tiles tile { s.tile tile with
        calib := some { p := 32, start := s.updateNow (tile / 256) }, lastPriority := false, pointer := v } } : State)) hnext

theorem calibrationAbandon_none (h : (s.tile tile).calib = none) : s.calibrationAbandon tile = s := by
  simp only [State.calibrationAbandon, h]

variable {k : Calib} (hcalib : (s.tile tile).calib = some k)
include hcalib

theorem calibrationAbandon_early (h : s.updateNow (tile / 256) < k.start + 250) : s.calibrationAbandon tile = s := by
  simp only [State.calibrationAbandon, hcalib]
  exact if_pos (.inr (.inl h))

theorem calibrationAbandon_spare (hend : k.ended = false) (hruns : s.runs (procCluster (tile / 256)) = true)
    (htime : k.start + 250 ≤ s.updateNow (tile / 256)) (hp : k.p = 32) (hwhy : (s.tile tile).why = .idle) :
    s.calibrationAbandon tile = ((s.count 0x20).abandonCalib tile).fillColumn tile 32 0 := by
  have hstays : ¬ (((s.count 0x20).tile tile).why = .relieved ∧ ((s.count 0x20).tile tile).serves = some k.p) := fun h =>
    absurd (hwhy.symm.trans h.1) (by decide)
  simp only [State.calibrationAbandon, hcalib]
  refine (if_neg ?_).trans ?_
  · simp [hend, hruns, Nat.not_lt.mpr htime]
  · rw [if_neg hstays, if_pos hp]

end

/-! ### O52 -/

section
variable {s : State} (hrun : Running s)
include hrun

theorem exec_tempAlarm (tile : Fin 25088) : let c := tile.val / 256
    let m := (s.cluster c).hostOf (convOf tile) (tile % 16)
    let queued := ((s.cluster c).queued.filter (fun t => decide (t.conv = m))).length
    ((((s.tileLoop tile).tTile : Int) : ℚ) / 256 ≤ f32Val (s.obj 0x4800 2) → exec (.tempAlarm tile) s = .next s) ∧
    (f32Val (s.obj 0x4800 2) < (((s.tileLoop tile).tTile : Int) : ℚ) / 256 →
      (queued < 4 → exec (.tempAlarm tile) s = .next (s.modCluster c (fun x => { x with
        queued := x.queued ++ [({ conv := m, kind := 2, chans := List.replicate 4 (tempChan tile), since := s.time } : Trigger)] }))) ∧
      (5 ≤ queued → exec (.tempAlarm tile) s = .next (s.count 0x1B))) :=
  ⟨fun hcool => live_next hrun (if_pos hcool), fun hhot => ⟨
    fun hroom => live_next hrun ((if_neg (not_le.mpr hhot)).trans (trigger_room rfl rfl hroom)),
    fun hfull => live_next hrun ((if_neg (not_le.mpr hhot)).trans (trigger_full rfl rfl hfull))⟩⟩

theorem exec_injectRequest_room (c : Fin 98) (conv : Fin 16) (chans : List (Fin 17424)) (hne : chans ≠ []) (hlen : chans.length ≤ 32)
    (hruns : s.runs (procCluster c) = true) (hworks : conv.val ∉ (s.cluster c).monFailed)
    (hchans : ∀ ch ∈ chans, ch.val < 17408 ∧ chanConv ch = conv)
    (hroom : ((s.cluster c).queued.filter (fun t => decide (t.conv = conv.val))).length < 4) :
    exec (.injectRequest c conv chans) s = .next (s.modCluster c (fun x => { x with
      queued := x.queued ++ [({ conv := conv, kind := 4, chans := chans.map (·.val), since := s.time } : Trigger)] })) := by
  have hchans' : ∀ ch ∈ chans.map (·.val), ch < 17408 ∧ chanConv ch = conv := by
    intro ch hch
    obtain ⟨y, hy, rfl⟩ := List.mem_map.mp hch
    exact hchans y hy
  exact live_next hrun (injectRequest_room (by simpa using hne) (by simpa using hlen) hruns hworks hchans' hroom)

theorem exec_injectRequest_none (c : Fin 98) (conv : Fin 16) (chans : List (Fin 17424)) (h : chans = [] ∨ 32 < chans.length) :
    exec (.injectRequest c conv chans) s = .next s := by
  refine live_next hrun (if_pos ?_)
  rcases h with h | h
  · exact .inl (by simp [h])
  · exact .inr (.inl (by simpa using h))

end

/-- Settles O52, event by event: heater faults by what the heater has latched, triggers by the room of their converter, captures and
calibration windows by their stage. -/
theorem heatersMonitorsCapturesAndWindows : Obligations.HeatersMonitorsCapturesAndWindows := by
  unfold Obligations.HeatersMonitorsCapturesAndWindows
  intro s hrun
  refine ⟨fun tile h => ⟨fun hlatched => ?latched, fun hshort hopen => ?short, fun hfew => ?few, fun hshort hopen hlow hworks hcol => ?opened⟩,
    exec_tempAlarm hrun, fun c conv chans first later codes => ⟨exec_injectRequest_room hrun c conv chans, exec_injectRequest_none hrun c conv chans,
      fun hnone => ?noTrigger, fun t hqueued hconv hlen hawake hin => ⟨fun hearly => ?early, fun hdue => ?due⟩, fun hfailed => ?failed,
      fun m hone hne => ?second, fun hnone => ?noCapture, fun q hq hstarted => ⟨?notYet, fun hidle hat => ?begins, fun hat => ?elsewhere⟩,
      fun q hq hstarted => ⟨?begun, fun hearly => ?tooEarly, fun htime hlen => ?done⟩⟩,
    fun tile => ⟨fun h => ?noWindow, fun hserved hon hat hlast hcalib hwhy hmap hawaiting hwarned hpointer => ?window, fun k hk h => ?runs,
      fun hnone => ?noCalib, fun k hk hend hruns htime hp hwhy => ?abandon⟩⟩
  case latched =>
    refine ⟨live_next hrun (heaterFault_latched true hlatched), live_next hrun ?_⟩
    exact (ite_congr rfl (fun _ => rfl) (fun _ => heaterFault_latched false hlatched)).trans (ite_self _)
  case short =>
    refine live_next hrun ((heaterFault_short hshort hopen).trans ?_)
    simp only [Fin.ext_iff]
    rfl
  case few => exact live_next hrun (if_pos hfew)
  case opened =>
    refine live_next hrun ((if_neg (by omega)).trans ((heaterFault_open hshort hopen hcol).trans ?_))
    simp only [Fin.ext_iff]
    rfl
  case noTrigger => exact live_next hrun (injectedStart_none hnone)
  case early => exact live_next hrun (injectedStart_early hqueued hconv hearly)
  case due => exact ⟨_, live_next hrun rfl, injectedStart_due hqueued hconv hlen hawake hin hdue⟩
  case failed => exact live_next hrun (if_pos hfailed)
  case second => exact live_next hrun (monitorFail_second hone hne)
  case noCapture =>
    exact ⟨live_next hrun (by simp only [State.captureStart, hnone]), live_next hrun (by simp only [State.captureComplete, hnone])⟩
  case notYet => exact live_next hrun (captureComplete_early hq (.inl hstarted))
  case begins => exact live_next hrun (captureStart_idle hq hstarted hidle hat)
  case elsewhere => exact live_next hrun (captureStart_elsewhere hq hat)
  case begun => exact live_next hrun (captureStart_started hq hstarted)
  case tooEarly => exact live_next hrun (captureComplete_early hq (.inr hearly))
  case done => exact live_next hrun (captureComplete_done hq hstarted htime hlen)
  case noWindow => exact live_next hrun (carouselWindow_not h)
  case window => exact live_next hrun (carouselWindow_spare hserved hon hat hlast hcalib hwhy hmap hawaiting hwarned hpointer)
  case runs => exact live_next hrun (calibrationAbandon_early hk h)
  case noCalib => exact live_next hrun (calibrationAbandon_none hnone)
  case abandon => exact live_next hrun (calibrationAbandon_spare hk hend hruns htime hp hwhy)

end Sys2Proof.Machine

end

section
/-! SUPPORT. Lanes of the fabric: the margin test, frames, slots, silence, retirement and replay, and the statement about them
(09 R344 to R367). -/

set_option Elab.async false

namespace Sys2Proof.Machine

/-! ### Lanes as state -/

section
variable {s t : State} {lane k : Nat} {f : Lane → Lane}

theorem lane_congr (h : t.fab.lanes = s.fab.lanes) (k : Nat) : t.lane k = s.lane k := by simp only [State.lane, h]

theorem lane_modLane_self (hwf : mwf {} s.fab.lanes = true) : (s.modLane lane f).lane lane = f (s.lane lane) := mget_mset_self _ _ hwf

theorem lane_modLane_of_ne (h : f (s.lane lane) ≠ {}) : (s.modLane lane f).lane lane = f (s.lane lane) := mget_mset_ne _ _ _ _ h

theorem lane_modLane_other (h : k ≠ lane) : (s.modLane lane f).lane k = s.lane k := mget_mset_other _ _ _ _ _ h

theorem mwf_modLane (hwf : mwf {} s.fab.lanes = true) : mwf {} (s.modLane lane f).fab.lanes = true := mwf_mset _ _ hwf

theorem inLane_congr (hfrom : t.laneFrom lane = s.laneFrom lane) (hbase : t.fab.base = s.fab.base) (hlane : (t.lane lane).inn = (s.lane lane).inn) :
    t.inLane lane = s.inLane lane := by
  simp only [State.inLane, hfrom, hbase, hlane]

theorem condition_lanes (c sev p : Nat) : (s.condition c sev p).fab = s.fab := by
  rw [State.condition, State.event_frame]

theorem fiberCheck_fab (fiber : Nat) (inbound : Bool) (since : Nat) : (s.fiberCheck fiber inbound since).fab = s.fab := by
  cases inbound
  all_goals
    simp only [State.fiberCheck, Bool.false_eq_true, if_false, if_true]
    split
    · rfl
    · exact condition_lanes _ _ _

theorem dimCheck_lanes (d : Nat) : (s.dimCheck d).fab.lanes = s.fab.lanes := by
  simp only [State.dimCheck]
  split
  · rfl
  · rw [condition_lanes]

/-- A lane retired inbound: how often, and for good the third time. -/
theorem retireIn_lane (hin : s.inLane lane = .inService) : (s.retireIn lane).lane lane = { s.lane lane with
    inn := some (if 2 ≤ (s.lane lane).retiresIn then .barred else .retired), retiresIn := (s.lane lane).retiresIn + 1, goodIn := false, bits := 0 } := by
  have hbarred : retiredAs ((s.lane lane).retiresIn + 1) = if 2 ≤ (s.lane lane).retiresIn then .barred else .retired :=
    ite_congr (propext (by omega)) (fun _ => rfl) (fun _ => rfl)
  have hself := lane_modLane_of_ne (s := s) (lane := lane) (f := fun l => { l with
    inn := some (retiredAs ((s.lane lane).retiresIn + 1)), retiresIn := (s.lane lane).retiresIn + 1, goodIn := false, bits := 0 })
    (fun h => Option.some_ne_none _ (congrArg Lane.inn h))
  rw [← hbarred, ← hself]
  simp only [State.retireIn, hin, ne_eq, not_true_eq_false, if_false]
  refine lane_congr ?_ lane
  rw [fiberCheck_fab]
  split
  all_goals
    show (State.condition _ _ _ _).fab.lanes = _
    rw [condition_lanes]
    rfl

/-- A lane retired outbound: how often, and for good the third time. -/
theorem retireOut_lane {ask : Bool} (hout : s.outLane lane = .inService) : (s.retireOut lane ask).lane lane = { s.lane lane with
    out := some (if 2 ≤ (s.lane lane).retiresOut then .barred else .retired), retiresOut := (s.lane lane).retiresOut + 1 } := by
  have hbarred : retiredAs ((s.lane lane).retiresOut + 1) = if 2 ≤ (s.lane lane).retiresOut then .barred else .retired :=
    ite_congr (propext (by omega)) (fun _ => rfl) (fun _ => rfl)
  have hself := lane_modLane_of_ne (s := s) (lane := lane) (f := fun l => { l with
    out := some (retiredAs ((s.lane lane).retiresOut + 1)), retiresOut := (s.lane lane).retiresOut + 1 })
    (fun h => Option.some_ne_none _ (congrArg Lane.out h))
  rw [← hbarred, ← hself]
  simp only [State.retireOut, hout, ne_eq, not_true_eq_false, if_false]
  refine lane_congr ?_ lane
  rw [dimCheck_lanes, fiberCheck_fab]
  split
  all_goals
    show (State.condition _ _ _ _).fab.lanes = _
    rw [condition_lanes]
    rfl

end

/-! ### The words of frames (09 R344) -/

/-- The fields of a sum of fields, as numbers. -/
theorem frame_fields (own good level use test : Nat) :
    let w := field 0 16 0x4F1B + field 16 17 own + field 33 4 good + field 37 4 level + field 41 4 use + field 45 1 test
    bits w 0 16 = 0x4F1B ∧ bits w 16 17 = own % 2 ^ 17 ∧ bits w 37 4 = level % 16 ∧ bits w 41 4 = use % 16 ∧ bits w 45 1 = test % 2 := by
  simp only [bits_eq_div_mod, field]
  omega

theorem frameWord_fields (s : State) (lane : Nat) (test : Bool) :
    bits (s.frameWord lane test) 0 16 = 0x4F1B ∧ bits (s.frameWord lane test) 16 17 = s.ownDev % 2 ^ 17 ∧
      bits (s.frameWord lane test) 37 4 = s.barkerBundle.fabLevel % 16 ∧ bits (s.frameWord lane test) 41 4 = s.obj 0x3000 6 % 16 ∧
      bits (s.frameWord lane test) 45 1 = (if test then 1 else 0) := by
  obtain ⟨hmark, hown, hlevel, huse, htest⟩ := frame_fields s.ownDev (match s.laneTo lane with
    | some dev => ((List.range (128 / routerSize (laneDim lane))).map (fun m => field m 1 (b2n (s.lane (128 * (lane / 128) +
        (coord s.ownDev (laneDim lane) + routerSize (laneDim lane) - coord dev (laneDim lane)) % routerSize (laneDim lane) +
          routerSize (laneDim lane) * m)).goodIn))).sum
    | none => 0) s.barkerBundle.fabLevel (s.obj 0x3000 6) (b2n test)
  exact ⟨hmark, hown, hlevel, huse, htest.trans (by cases test <;> rfl)⟩

/-! ### The margin test (09 R345, R348) -/

/-- Words sent one after another, while nothing else changes. -/
theorem foldl_sendWord {s₀ : State} (line : Nat → Nat) (test : Bool) (ks : List Nat) (s : State)
    (hword : ∀ fs : List (Nat × BitVec 64), ∀ k, ({ s with fab := { s.fab with frames := fs } } : State).frameWord k test = s₀.frameWord k test) :
    ks.foldl (fun s k => s.sendWord (line k) test) s = { s with
      fab := { s.fab with frames := s.fab.frames ++ ks.map (fun k => (line k, BitVec.ofNat 64 (s₀.frameWord (line k) test))) } } := by
  induction ks generalizing s with
  | nil => simp
  | cons k ks ih =>
    have hfirst : s.frameWord (line k) test = s₀.frameWord (line k) test := hword s.fab.frames (line k)
    rw [List.foldl_cons, ih (s.sendWord (line k) test) (fun fs k => hword fs k)]
    simp only [State.sendWord, hfirst, List.map_cons, List.append_assoc, List.singleton_append]

/-- Filtering and mapping is one filtered map. -/
theorem filter_map_eq {α β : Type} (p : α → Prop) [DecidablePred p] (f : α → β) (l : List α) :
    (l.filter (fun x => decide (p x))).map f = l.filterMap (fun x => if p x then some (f x) else none) := by
  induction l with
  | nil => rfl
  | cons x l ih =>
    by_cases h : p x <;> simp [h, ih]

section
variable {s : State}

theorem marginRound_due {e : Nat} (htesting : s.fab.state = .testing) (hend : s.fab.testEnd = some e)
    (hdue : e + 2400000 * s.fab.round ≤ s.time + 150 * s.obj 0x3000 0x0A) : s.marginRound = { s with
      fab := { s.fab with
        round := s.fab.round + 1
        slots := (List.range 432).filterMap (fun k => if 24 * (s.fab.round % 6) + k % 24 < 128 then some (k, 24 * (s.fab.round % 6) + k % 24 + 1) else none)
        frames := s.fab.frames ++ (List.range 432).filterMap (fun k => if 24 * (s.fab.round % 6) + k % 24 < 128 then
          some (128 * (k / 24) + (24 * (s.fab.round % 6) + k % 24), BitVec.ofNat 64 (s.frameWord (128 * (k / 24) + (24 * (s.fab.round % 6) + k % 24)) true)) else none) } } := by
  simp only [State.marginRound, htesting, hend]
  refine (if_neg (Nat.not_lt.mpr hdue)).trans ?_
  refine (foldl_sendWord (s₀ := s) _ true _ _ ?word).trans ?_
  case word => exact fun _ _ => rfl
  simp only [filter_map_eq]

theorem marginRound_early {e : Nat} (htesting : s.fab.state = .testing) (hend : s.fab.testEnd = some e)
    (hearly : s.time + 150 * s.obj 0x3000 0x0A < e + 2400000 * s.fab.round) : s.marginRound = s := by
  simp only [State.marginRound, htesting, hend]
  exact if_pos hearly

theorem marginExpire_due {e : Nat} (htesting : s.fab.state = .testing) (hend : s.fab.testEnd = some e) (hdue : e ≤ s.time) :
    s.marginExpire = ((List.range 3).filter (fun d => decide (1 < s.dimSize d))).foldl State.dimCheck { s with
      fab := { s.fab with
        state := .running
        testEnd := none
        base := .excluded
        lanes := mmap {} s.fab.lanes (fun _ (l : Lane) => { l with
          out := if l.out = some .testing then some .excluded else l.out
          inn := if l.inn = some .testing then some .excluded else l.inn }) } } := by
  simp only [State.marginExpire, htesting, hend]
  exact if_neg (Nat.not_lt.mpr hdue)

theorem marginExpire_early {e : Nat} (htesting : s.fab.state = .testing) (hend : s.fab.testEnd = some e) (hearly : s.time < e) :
    s.marginExpire = s := by
  simp only [State.marginExpire, htesting, hend]
  exact if_pos hearly

theorem margin_other (h : s.fab.state ≠ .testing) : s.marginRound = s ∧ s.marginExpire = s := by
  simp only [State.marginRound, State.marginExpire]
  constructor
  all_goals
    split
    next htesting _ => exact absurd htesting h
    · rfl

/-! ### Planes -/

theorem onPlane_reset {fiber : Nat} {t : State} (h : s.blockReset 3 fiber = true) : s.onPlane fiber t = s := if_pos h

theorem onPlane_runs {fiber : Nat} {t : State} (h : s.blockReset 3 fiber = false) : s.onPlane fiber t = t := if_neg (by simp [h])

end

/-! ### Lanes that pass, and their frames (09 R344, R346, R347) -/

section
variable {s : State} {lane dev : Nat} (hfrom : s.laneFrom lane = some dev) (hlit : s.fabLit = true) (hwf : mwf {} s.fab.lanes = true)
include hfrom hlit hwf

section
variable {n : Nat} {eyes : Bool} (hst : s.inLane lane = .testing ∨ s.inLane lane = .excluded ∨ s.inLane lane = .retired)
  (hwiring : (s.lane lane).wiring = false)
include hst hwiring

theorem lanePass_counts (h : (if eyes then (s.lane lane).bits + n else 0) < 600000000 ∨ dev ∈ s.fab.mismatched) :
    s.lanePass lane n eyes = s.modLane lane (fun l => { l with bits := if eyes then l.bits + n else 0 }) := by
  simp only [State.lanePass, hfrom, hlit, hst, hwiring, not_true_eq_false, Bool.false_eq_true, or_self, if_false]
  exact if_pos (h.imp_left fun hfew => by rwa [lane_modLane_self hwf])

theorem lanePass_passes (hbits : 600000000 ≤ if eyes then (s.lane lane).bits + n else 0) (hmatch : dev ∉ s.fab.mismatched) :
    s.lanePass lane n eyes = (((s.modLane lane (fun l => { l with bits := if eyes then l.bits + n else 0 })).modLane lane (fun l => { l with
      goodIn := true, inn := some .inService, lseqRx := 1023, errors := [], lastFrame := s.time })).enterAll dev).testDone := by
  simp only [State.lanePass, hfrom, hlit, hst, hwiring, not_true_eq_false, Bool.false_eq_true, or_self, if_false]
  refine if_neg (not_or.mpr ⟨?_, hmatch⟩)
  rw [lane_modLane_self hwf]
  exact Nat.not_lt.mpr hbits

end

section
variable {w : Nat}

omit hwf in
theorem laneFrame_garbled (hmark : bits w 0 16 ≠ 0x4F1B) : s.laneFrame lane w = s.laneError lane := by
  simp only [State.laneFrame, hfrom, hlit, not_true_eq_false, if_false]
  exact if_pos hmark

/-- A lane's frame as received: when, and the level its sender uses. -/
def State.noteFrame (s : State) (lane w : Nat) : State := s.modLane lane (fun l => { l with lastFrame := s.time, peerLevel := bits w 41 4 })

omit hfrom hlit in
theorem noteFrame_lane (k : Nat) : (s.noteFrame lane w).lane k =
    if k = lane then { s.lane lane with lastFrame := s.time, peerLevel := bits w 41 4 } else s.lane k := by
  split
  next h => exact h ▸ lane_modLane_self hwf
  next h => exact lane_modLane_other h

/-- A frame from a device other than the wired one, on a lane under test that was not known to be wired wrong. -/
theorem laneFrame_miswired (hmark : bits w 0 16 = 0x4F1B) (hsender : bits w 16 17 ≠ dev) (htesting : s.inLane lane = .testing)
    (hwiring : (s.lane lane).wiring = false) : s.laneFrame lane w =
      (((s.noteFrame lane w).modLane lane (fun l => { l with inn := some .excluded })).modLane lane (fun l => { l with
        wiring := true, goodIn := false, bits := 0 })).condition 0x0302 1 (field 0 12 lane + field 12 17 (bits w 16 17)) := by
  have hlane := (noteFrame_lane (w := w) hwf lane).trans (if_pos rfl)
  have hin : (s.noteFrame lane w).inLane lane = .testing := (inLane_congr (t := s.noteFrame lane w) (s := s) rfl rfl (by rw [hlane])).trans htesting
  have hfirst : ((s.noteFrame lane w).lane lane).wiring = false := by rw [hlane]; exact hwiring
  simp only [State.laneFrame, hfrom, hlit, hmark, not_true_eq_false, if_false, ne_eq, hsender, not_false_eq_true, if_true]
  rw [← State.noteFrame, hin, hfirst]
  rfl

omit hfrom hlit hwf in
/-- Steps that change nothing, one after another. -/
theorem foldl_fixed {α β : Type} {f : β → α → β} {b : β} {l : List α} (h : ∀ x ∈ l, f b x = b) : l.foldl f b = b := by
  induction l with
  | nil => rfl
  | cons x l ih =>
    obtain ⟨hx, hl⟩ := List.forall_mem_cons.mp h
    rw [List.foldl_cons, hx, ih hl]

/-- A frame from the wired device, of this device's level, with the good bits that it has had. -/
theorem laneFrame_wired (hmark : bits w 0 16 = 0x4F1B) (hsender : bits w 16 17 = dev) (hlevel : bits w 41 4 = s.obj 0x3000 6)
    (hgood : ∀ m < 128 / routerSize (laneDim lane), bit w (33 + m) = (s.lane (128 * (lane / 128) +
      (coord dev (laneDim lane) + routerSize (laneDim lane) - coord s.ownDev (laneDim lane)) % routerSize (laneDim lane) +
        routerSize (laneDim lane) * m)).goodOut) :
    s.laneFrame lane w = ((({ s.noteFrame lane w with
      fab := { (s.noteFrame lane w).fab with mismatched := s.fab.mismatched.filter (· ≠ dev) } } : State).enterAll dev).testDone) := by
  have hout (k : Nat) : ((s.noteFrame lane w).lane k).goodOut = (s.lane k).goodOut := by
    rw [noteFrame_lane hwf]
    split
    next h => rw [h]
    · rfl
  have hobj : (s.noteFrame lane w).obj 0x3000 6 = s.obj 0x3000 6 := rfl
  have hobj' (fab : Fab) : ({ s.noteFrame lane w with fab := fab } : State).obj 0x3000 6 = s.obj 0x3000 6 := rfl
  simp only [State.laneFrame, hfrom, hlit, hmark, hsender, not_true_eq_false, if_false, ne_eq]
  rw [← State.noteFrame, hobj, hlevel]
  simp only [hobj', not_true_eq_false, false_and, if_false, if_true]
  rw [foldl_fixed]
  · rfl
  · intro m hm
    exact if_pos ((hgood m (List.mem_range.mp hm)).trans (hout _).symm)

end

end

/-! ### Slots and visits (09 R349 to R351) -/

section
variable {s : State} {fiber slot : Nat}

theorem slotSchedule_dark (hdark : s.fabLit = false) : s.slotSchedule fiber slot = s := if_pos (by simp [hdark])

section
variable (hlit : s.fabLit = true)
include hlit

theorem slotSchedule_capped (hcap : slotCap s.ladderLevel ≤ slot) :
    s.slotSchedule fiber slot = { s with fab := { s.fab with slots := mset 0 s.fab.slots (24 * fiber + slot) 0 } } :=
  (if_neg (by simp [hlit])).trans (if_pos hcap)

variable (hcap : slot < slotCap s.ladderLevel)
include hcap

theorem slotSchedule_entry {dev lane : Nat} {e : BitVec 32} (hentries : s.fab.entries = [(dev, e)])
    (htake : s.takeLane fiber slot dev false = some lane) : s.slotSchedule fiber slot = s.sendEntries fiber slot lane dev := by
  have hfind : s.fab.entries.find? (fun (e : Nat × BitVec 32) => (s.takeLane fiber slot e.1 false).isSome) = some (dev, e) := by
    simp [hentries, htake]
  simp only [State.slotSchedule, hlit, not_true_eq_false, if_false, Nat.not_le.mpr hcap, hfind, htake]

theorem slotSchedule_packet {dev lane : Nat} {q : Queued} (hentries : s.fab.entries = []) (hpeer : s.nextPeer fiber slot = some dev)
    (htake : s.takeLane fiber slot dev = some lane)
    (hhead : (s.peerQueue (fiberDim fiber) dev 1 ++ s.peerQueue (fiberDim fiber) dev 0).head? = some q) :
    s.slotSchedule fiber slot = s.sendQueued fiber slot lane q := by
  have hfind : s.fab.entries.find? (fun (e : Nat × BitVec 32) => (s.takeLane fiber slot e.1 false).isSome) = none := by rw [hentries]; rfl
  simp only [State.slotSchedule, hlit, not_true_eq_false, if_false, Nat.not_le.mpr hcap, hfind, hpeer, htake, hhead]

theorem slotSchedule_testing (hentries : s.fab.entries = []) (hpeer : s.nextPeer fiber slot = none) (htesting : s.fab.state = .testing) :
    s.slotSchedule fiber slot = s := by
  have hfind : s.fab.entries.find? (fun (e : Nat × BitVec 32) => (s.takeLane fiber slot e.1 false).isSome) = none := by rw [hentries]; rfl
  simp only [State.slotSchedule, hlit, not_true_eq_false, if_false, Nat.not_le.mpr hcap, hfind, hpeer, htesting, reduceCtorEq]

end

section
variable {lane : Nat}

theorem keepalive_idle (hlit : s.fabLit = true) (hout : s.outLane lane = .inService) (hidle : (s.lane lane).lastSent + 4800 ≤ s.time)
    (hcap : slot < slotCap s.ladderLevel) (hfree : s.lineFree (lane / 128) slot (lane % 128) = true) : s.keepalive lane slot = { s with
      fab := { s.fab with
        slots := mset 0 s.fab.slots (24 * (lane / 128) + slot) (lane % 128 + 1)
        frames := s.fab.frames ++ [(lane, BitVec.ofNat 64 (s.frameWord lane true))]
        lanes := mset {} s.fab.lanes lane { s.lane lane with lastSent := s.time } } } := by
  have hlane : 128 * (lane / 128) + lane % 128 = lane := by omega
  refine (if_neg ?_).trans ?_
  · simp [hlit, hout, Nat.not_lt.mpr hidle, Nat.not_le.mpr hcap, hfree]
  · simp only [State.tune, Bool.not_true, Bool.and_false, Bool.false_eq_true, if_false, hlane]
    rfl

theorem keepalive_not (h : s.outLane lane ≠ .inService ∨ s.time < (s.lane lane).lastSent + 4800) : s.keepalive lane slot = s := by
  refine if_pos ?_
  rcases h with h | h
  · exact .inr (.inl h)
  · exact .inr (.inr (.inl h))

/-! ### Silence, errors and replays (09 R364 to R367) -/

theorem laneRetire_errors (h : 16 < ((s.lane lane).errors.filter (fun t => decide (s.time < t + 1200000))).length) :
    s.laneRetire lane true = s.retireIn lane := if_pos h

theorem laneRetire_few (h : (s.lane lane).errors.length ≤ 16) : s.laneRetire lane true = s :=
  if_neg (Nat.not_lt.mpr ((List.length_filter_le _ _).trans h))

theorem laneRetire_outbound : s.laneRetire lane false =
    if 4 ≤ (s.lane lane).replays ∧ (s.lane lane).lastEntry + 1200 ≤ s.time then s.retireOut lane true else s := rfl

theorem replayTimeout_busy {t : Nat} (hbusy : (s.lane lane).busyAt = some t) :
    s.replayTimeout lane = if s.time < t + 308 then s else s.replayLane lane false := by
  simp only [State.replayTimeout, hbusy]

theorem replayTimeout_idle (hbusy : (s.lane lane).busyAt = none) :
    s.replayTimeout lane = if s.time < (s.lane lane).lastEntry + 1200 then s else s.replayLane lane true := by
  simp only [State.replayTimeout, hbusy]

theorem replayLane_again (hout : s.outLane lane = .inService) (hreplay : (s.lane lane).replay ≠ []) : s.replayLane lane false = (({ s with
    fab := { s.fab with
      sent := s.fab.sent ++ (s.lane lane).replay.map (fun e => (lane, e.2.pkt))
      frames := s.fab.frames ++ [(lane, BitVec.ofNat 64 (s.frameWord lane false))]
      lanes := mset {} s.fab.lanes lane { s.lane lane with lastEntry := s.time, lastSent := s.time, busyAt := none } } } : State)).count 0x24 :=
  (if_neg (by simp [hout, hreplay])).trans (if_neg (by simp))

theorem replayLane_fourth (hout : s.outLane lane = .inService) (hreplay : (s.lane lane).replay ≠ []) (hfour : 4 ≤ (s.lane lane).replays) :
    s.replayLane lane true = s.retireOut lane true :=
  (if_neg (by simp [hout, hreplay])).trans (if_pos ⟨rfl, hfour⟩)

end

end

/-! ### O53 -/

section
variable {s : State} (hrun : Running s)
include hrun

theorem exec_lanes_reset (lane : Fin 2304) (n : Nat) (eyes : Bool) (w : BitVec 64) (slot : Fin 24) (hreset : s.blockReset 3 (lane / 128) = true) :
    exec (.lanePass lane n eyes) s = .next s ∧ exec (.laneFrame lane w) s = .next s ∧ exec (.laneKeepalive lane slot) s = .next s :=
  ⟨live_next hrun (onPlane_reset hreset), live_next hrun (onPlane_reset hreset), live_next hrun (onPlane_reset hreset)⟩

section
variable (lane : Fin 2304) {dev : Nat} (hplane : s.blockReset 3 (lane / 128) = false) (hfrom : s.laneFrom lane = some dev)
  (hlit : s.fabLit = true) (hwf : mwf {} s.fab.lanes = true)
include hplane hfrom hlit hwf

theorem exec_lanePass (n : Nat) (eyes : Bool) (hst : s.inLane lane = .testing ∨ s.inLane lane = .excluded ∨ s.inLane lane = .retired)
    (hwiring : (s.lane lane).wiring = false) : let total := if eyes then (s.lane lane).bits + n else 0
    (total < 600000000 ∨ dev ∈ s.fab.mismatched → ∃ u : State, exec (.lanePass lane n eyes) s = .next u ∧
      u = { s with fab := { s.fab with lanes := mset {} s.fab.lanes lane { s.lane lane with bits := total } } }) ∧
    (600000000 ≤ total → dev ∉ s.fab.mismatched → ∃ u : State, exec (.lanePass lane n eyes) s = .next ((u.enterAll dev).testDone) ∧
      u.lane lane = { s.lane lane with
        bits := total, goodIn := true, inn := some .inService, lseqRx := 1023, errors := [], lastFrame := s.time } ∧
      u = { s with fab := { s.fab with lanes := u.fab.lanes } }) := by
  intro total
  refine ⟨fun hfew => ⟨_, live_next hrun ((onPlane_runs hplane).trans (lanePass_counts hfrom hlit hwf hst hwiring hfew)), rfl⟩,
    fun hbits hmatch => ⟨_, live_next hrun ((onPlane_runs hplane).trans (lanePass_passes hfrom hlit hwf hst hwiring hbits hmatch)), ?_, rfl⟩⟩
  rw [lane_modLane_self (mwf_modLane hwf), lane_modLane_self hwf]

theorem exec_laneFrame_miswired (w : BitVec 64) (hmark : bits w.toNat 0 16 = 0x4F1B) (hsender : bits w.toNat 16 17 ≠ dev)
    (htesting : s.inLane lane = .testing) (hwiring : (s.lane lane).wiring = false) : ∃ u : State,
      exec (.laneFrame lane w) s = .next (u.condition 0x0302 1 (field 0 12 lane + field 12 17 (bits w.toNat 16 17))) ∧
      u.lane lane = { s.lane lane with
        lastFrame := s.time, peerLevel := bits w.toNat 41 4, inn := some .excluded, wiring := true, goodIn := false, bits := 0 } ∧
      u = { s with fab := { s.fab with lanes := u.fab.lanes } } := by
  refine ⟨_, live_next hrun ((onPlane_runs hplane).trans (laneFrame_miswired hfrom hlit hwf hmark hsender htesting hwiring)), ?_, rfl⟩
  have hwf' : mwf {} (s.noteFrame lane w.toNat).fab.lanes = true := mwf_modLane hwf
  rw [lane_modLane_self (mwf_modLane hwf'), lane_modLane_self hwf', noteFrame_lane hwf, if_pos rfl]

end

theorem exec_slotSchedule (fiber : Fin 18) (slot : Fin 24) (hplane : s.blockReset 3 fiber = false) :
    (s.fabLit = false → exec (.slotSchedule fiber slot) s = .next s) ∧
    (s.fabLit = true → slotCap s.ladderLevel ≤ slot → exec (.slotSchedule fiber slot) s = .next { s with
      fab := { s.fab with slots := mset 0 s.fab.slots (24 * fiber + slot) 0 } }) ∧
    (s.fabLit = true → slot < slotCap s.ladderLevel →
      (∀ dev e lane, s.fab.entries = [(dev, e)] → s.takeLane fiber slot dev false = some lane →
        exec (.slotSchedule fiber slot) s = .next (s.sendEntries fiber slot lane dev)) ∧
      (∀ dev lane q, s.fab.entries = [] → s.nextPeer fiber slot = some dev → s.takeLane fiber slot dev = some lane →
        (s.peerQueue (fiberDim fiber) dev 1 ++ s.peerQueue (fiberDim fiber) dev 0).head? = some q →
        exec (.slotSchedule fiber slot) s = .next (s.sendQueued fiber slot lane q)) ∧
      (s.fab.entries = [] → s.nextPeer fiber slot = none → s.fab.state = .testing → exec (.slotSchedule fiber slot) s = .next s)) :=
  ⟨fun hdark => live_next hrun ((onPlane_runs hplane).trans (slotSchedule_dark hdark)),
    fun hlit hcap => live_next hrun ((onPlane_runs hplane).trans (slotSchedule_capped hlit hcap)), fun hlit hcap => ⟨
      fun _ _ _ hentries htake => live_next hrun ((onPlane_runs hplane).trans (slotSchedule_entry hlit hcap hentries htake)),
      fun _ _ _ hentries hpeer htake hhead =>
        live_next hrun ((onPlane_runs hplane).trans (slotSchedule_packet hlit hcap hentries hpeer htake hhead)),
      fun hentries hpeer htesting => live_next hrun ((onPlane_runs hplane).trans (slotSchedule_testing hlit hcap hentries hpeer htesting))⟩⟩

end

/-- Settles O53, event by event: the margin test by its end, lanes by what they carry and when, slots by what waits. -/
theorem lanesAreTestedKeptAndRetired : Obligations.LanesAreTestedKeptAndRetired := by
  unfold Obligations.LanesAreTestedKeptAndRetired
  intro s hrun
  refine ⟨fun e htesting hend => ⟨fun hdue => ?round, fun hearly => ?noRound, fun hdue => ?expire, fun hearly => ?noExpire⟩,
    fun hother => ?noTest, exec_lanes_reset hrun, fun fiber slot hreset => ?slotReset,
    fun lane dev n eyes w hplane hfrom hlit hwf => ⟨exec_lanePass hrun lane hplane hfrom hlit hwf n eyes, fun hmark => ?garbled,
      exec_laneFrame_miswired hrun lane hplane hfrom hlit hwf w, fun hmark hsender hlevel hgood => ?wired⟩,
    exec_slotSchedule hrun, fun lane slot hplane => ⟨fun hlit hout hidle hcap hfree => ?visit, fun h => ?noVisit⟩, frameWord_fields s,
    fun lane => ⟨fun hlit hsilent => ?silent, fun hheard => ?heard, fun herrors => ?errors, fun hfew => ?few, fun hfour hold => ?fruitless,
      fun hfew => ?fruitful, retireIn_lane, retireOut_lane, fun t hbusy => ⟨fun hearly => ?busy, fun hlate hout hreplay => ?again⟩,
      fun hbusy => ⟨fun hearly => ?idle, fun hlate hout hreplay hfour => ?fourth⟩⟩⟩
  case round => exact live_next hrun (marginRound_due htesting hend hdue)
  case noRound => exact live_next hrun (marginRound_early htesting hend hearly)
  case expire => exact live_next hrun (marginExpire_due htesting hend hdue)
  case noExpire => exact live_next hrun (marginExpire_early htesting hend hearly)
  case noTest => exact ⟨live_next hrun (margin_other hother).1, live_next hrun (margin_other hother).2⟩
  case slotReset => exact live_next hrun (onPlane_reset hreset)
  case garbled => exact live_next hrun ((onPlane_runs hplane).trans (laneFrame_garbled hfrom hlit hmark))
  case wired => exact live_next hrun ((onPlane_runs hplane).trans (laneFrame_wired hfrom hlit hwf hmark hsender hlevel hgood))
  case visit => exact live_next hrun ((onPlane_runs hplane).trans (keepalive_idle hlit hout hidle hcap hfree))
  case noVisit => exact live_next hrun ((onPlane_runs hplane).trans (keepalive_not h))
  case silent => exact live_next hrun (if_pos ⟨hlit, hsilent⟩)
  case heard => exact live_next hrun (if_neg fun h => Nat.not_le.mpr hheard h.2)
  case errors => exact live_next hrun (laneRetire_errors herrors)
  case few => exact live_next hrun (laneRetire_few hfew)
  case fruitless => exact live_next hrun (laneRetire_outbound.trans (if_pos ⟨hfour, hold⟩))
  case fruitful => exact live_next hrun (laneRetire_outbound.trans (if_neg fun h => Nat.not_le.mpr hfew h.1))
  case busy => exact live_next hrun ((replayTimeout_busy hbusy).trans (if_pos hearly))
  case again =>
    exact live_next hrun ((replayTimeout_busy hbusy).trans ((if_neg (Nat.not_lt.mpr hlate)).trans (replayLane_again hout hreplay)))
  case idle => exact live_next hrun ((replayTimeout_idle hbusy).trans (if_pos hearly))
  case fourth =>
    exact live_next hrun ((replayTimeout_idle hbusy).trans ((if_neg (Nat.not_lt.mpr hlate)).trans (replayLane_fourth hout hreplay hfour)))

end Sys2Proof.Machine

end

section
/-! SUPPORT. Packets that age, fabric uses and probes that time out, silent members of a cascade, and the statement about them
(09 R368, R371, R373, 10 R391, R393). -/

set_option Elab.async false

namespace Sys2Proof.Machine

section
variable {s : State}

/-! ### Aged packets (09 R368) -/

/-- How many packets, queued or awaiting acknowledgement on a lane, are held too long. -/
def State.agedPackets (s : State) : Nat := (s.fab.queues.filter (fun q => decide (q.born + 18600 ≤ s.time))).length +
  ((s.fab.lanes.map (fun e => (e.2.replay.filter (fun x => decide (x.2.born + 18600 ≤ s.time))).length)).sum)

theorem packetAged_none (hqueues : ∀ q ∈ s.fab.queues, s.time < q.born + 18600)
    (hlanes : ∀ e ∈ s.fab.lanes, ∀ x ∈ e.2.replay, s.time < x.2.born + 18600) : s.packetAged = s := by
  have hqueues' : s.fab.queues.filter s.aged = [] :=
    List.filter_eq_nil_iff.mpr fun q hq => by simpa [State.aged] using hqueues q hq
  have hlanes' (e : Nat × Lane) (he : e ∈ s.fab.lanes) : (e.2.replay.filter (fun x => s.aged x.2)).length = 0 := by
    rw [List.length_eq_zero_iff, List.filter_eq_nil_iff]
    exact fun x hx => by simpa [State.aged] using hlanes e he x hx
  refine if_pos ?_
  rw [hqueues', List.length_nil, Nat.zero_add, List.sum_eq_zero_iff]
  intro n hn
  obtain ⟨e, he, rfl⟩ := List.mem_map.mp hn
  exact hlanes' e he

theorem packetAged_some (h : ∃ q ∈ s.fab.queues, q.born + 18600 ≤ s.time) : s.packetAged = (({ s with
    fab := { s.fab with
      queues := s.fab.queues.filter (fun q => decide (s.time < q.born + 18600))
      lanes := mmap {} s.fab.lanes (fun _ (l : Lane) => { l with replay := l.replay.filter (fun x => decide (s.time < x.2.born + 18600)) }) } } : State)).count
    0x26 s.agedPackets := by
  have hnot (q : Queued) : (!s.aged q) = decide (s.time < q.born + 18600) := by
    simp only [State.aged, ← Nat.not_le, decide_not]
  obtain ⟨q, hq, hold⟩ := h
  have hpos : 0 < (s.fab.queues.filter s.aged).length :=
    List.length_pos_of_mem (List.mem_filter.mpr ⟨hq, decide_eq_true hold⟩)
  refine (if_neg (by omega)).trans ?_
  simp only [hnot]
  rfl

/-! ### Uses of the fabric (09 R371, R373) -/

theorem tagTimeout_not {t : Nat} (h : (s.fabTag t).busy = false ∨ s.time < (s.fabTag t).lastFormed + s.obj 0x3000 8) : s.tagTimeout t = s := by
  refine if_neg fun ⟨hbusy, hdue⟩ => ?_
  rcases h with h | h
  · exact Bool.false_ne_true (h.symm.trans hbusy)
  · omega

section
variable {t : Nat} (hbusy : (s.fabTag t).busy = true) (hdue : (s.fabTag t).lastFormed + s.obj 0x3000 8 ≤ s.time)
include hbusy hdue

theorem tagTimeout_probe (hkind : (s.fabTag t).kind = .probe) : s.tagTimeout t = s.releaseTag t := by
  refine (if_pos ⟨hbusy, hdue⟩).trans ?_
  simp only [State.failUse, hkind]

theorem tagTimeout_doorbell (hkind : (s.fabTag t).kind = .doorbell) :
    s.tagTimeout t = { s.releaseTag t with fab := { (s.releaseTag t).fab with db := 512 } } := by
  refine (if_pos ⟨hbusy, hdue⟩).trans ?_
  simp only [State.failUse, hkind]
  rfl

end

/-! ### Probes and members (10 R391, R393) -/

/-- The fields of a probe's word, as numbers. -/
theorem probe_fields (group gen i state lost m use seq version : Nat) :
    let w := field 0 16 group + field 16 16 gen + field 32 12 i + field 48 2 state + field 52 12 lost + field 64 13 m + field 80 4 use +
      field 96 32 seq + field 128 64 version
    bits w 0 16 = group % 2 ^ 16 ∧ bits w 16 16 = gen % 2 ^ 16 ∧ bits w 32 12 = i % 2 ^ 12 ∧ bits w 48 2 = state % 4 ∧
      bits w 64 13 = m % 2 ^ 13 ∧ bits w 96 32 = seq % 2 ^ 32 := by
  simp only [bits_eq_div_mod, field]
  omega

theorem cascWord_fields (s : State) (seq : Nat) : let word := s.cascWord (seq % 2 ^ 32)
    bits word 0 16 = s.obj 0x3400 3 % 2 ^ 16 ∧ bits word 16 16 = s.obj 0x3400 4 % 2 ^ 16 ∧ bits word 32 12 = s.cascI % 2 ^ 12 ∧
      bits word 48 2 = s.casc.state.code ∧ bits word 64 13 = s.cascM % 2 ^ 13 ∧ bits word 96 32 = seq % 2 ^ 32 := by
  obtain ⟨hgroup, hgen, hi, hstate, hm, hseq⟩ := probe_fields (s.obj 0x3400 3) (s.obj 0x3400 4) s.cascI s.casc.state.code s.casc.lost s.cascM
    (s.obj 0x3000 6) (seq % 2 ^ 32) s.fwVersion
  exact ⟨hgroup, hgen, hi, hstate.trans (by cases s.casc.state <;> rfl), hm, hseq.trans (Nat.mod_mod _ _)⟩

theorem probeSend_not (h : s.casc.state = .stopped ∨ s.time < s.casc.lastProbe + s.obj 0x3400 8) : s.probeSend = s :=
  if_pos (h.imp_right .inl)

/-- A probe that is due and has tags to use. -/
theorem probeSend_due (hon : s.casc.state ≠ .stopped) (hdue : s.casc.lastProbe + s.obj 0x3400 8 ≤ s.time)
    (htags : (s.fab.tags.filter (fun e => e.2.busy)).length + (if s.cascI = 0 then s.cascM - 1 else 1) ≤ 65536) :
    let u : State := { s with casc := { s.casc with seq := (s.casc.seq + 1) % 2 ^ 32, lastProbe := s.time } }
    let word := s.cascWord ((s.casc.seq + 1) % 2 ^ 32)
    s.probeSend = if s.cascI = 0 then (List.range (s.cascM - 1)).foldl (fun s i => s.probe word (i + 1)) u else u.probe word 0 :=
  if_neg (by simp only [hon, Nat.not_lt.mpr hdue, Nat.not_lt.mpr htags, or_self, not_false_eq_true])

/-- A cascade that loses a member is Broken, and all that its ops then come to leaves it so. -/
theorem breakCascade_casc {i : Nat} (hformed : s.casc.state = .formed) : (s.breakCascade i).casc = { s.casc with state := .broken, lost := i } := by
  have hlive : ¬ (s.casc.state ≠ .forming ∧ s.casc.state ≠ .formed) := fun h => h.2 hformed
  simp only [State.breakCascade, if_neg hlive]
  exact ((Calm.foldl (fun _ _ h => h.startWtk) (Calm.refl _).condition.count).settle).2.1

theorem memberLost_not {i : Nat} (h : s.casc.state ≠ .formed ∨ s.time < mget 0 s.casc.lastWord i + 239999 ∨ (s.cascI ≠ 0 ∧ i ≠ 0) ∨
    s.cascM ≤ i ∧ s.cascI = 0) : s.memberLost i = s := by
  refine if_neg fun ⟨hformed, hmember, hsilent⟩ => ?_
  rcases h with h | h | ⟨hi, hne⟩ | ⟨hm, hi⟩
  · exact h hformed
  · omega
  · exact hne (by rwa [if_neg hi] at hmember)
  · rw [if_pos hi] at hmember
    omega

end

/-- Settles O55: packets and uses by their age, probes by their period, members by when they were last heard. -/
theorem fabricUsesAndCascadesTimeOut : Obligations.FabricUsesAndCascadesTimeOut := by
  unfold Obligations.FabricUsesAndCascadesTimeOut
  intro s hrun
  refine ⟨fun hqueues hlanes => ?noneAged, fun h => ?aged,
    fun tag => ⟨fun h => ?notDue, fun hbusy hdue => ⟨fun hkind => ?probe, fun hkind => ?doorbell⟩⟩, fun t => rfl, fun h => ?noProbe,
    fun hon hdue htags => ?probes, fun i => ⟨fun h => ?heard, fun hformed hsilent hmember => ?lost⟩⟩
  case noneAged => exact live_next hrun (packetAged_none hqueues hlanes)
  case aged => exact ⟨s.agedPackets, live_next hrun (packetAged_some h), rfl⟩
  case notDue => exact live_next hrun (tagTimeout_not h)
  case probe => exact live_next hrun (tagTimeout_probe hbusy hdue hkind)
  case doorbell => exact live_next hrun (tagTimeout_doorbell hbusy hdue hkind)
  case noProbe => exact live_next hrun (probeSend_not h)
  case probes =>
    have hsend := probeSend_due hon hdue htags
    refine ⟨fun hi hm => ?_, fun hi hm => ?_, fun hi => live_next hrun (hsend.trans (if_neg hi)), cascWord_fields s (s.casc.seq + 1)⟩
    · have hnone : s.cascM - 1 = 0 := by omega
      exact live_next hrun ((hsend.trans (if_pos hi)).trans (by rw [hnone]; rfl))
    · exact live_next hrun ((hsend.trans (if_pos hi)).trans (by rw [hm]; rfl))
  case heard => exact live_next hrun (memberLost_not (h.imp_right (.imp_right (.imp_left (.imp_right Fin.val_ne_of_ne)))))
  case lost => exact ⟨_, live_next hrun (if_pos ⟨hformed, hmember, hsilent⟩), breakCascade_casc hformed⟩

end Sys2Proof.Machine

end

section
/-! SUPPORT. Processors that stop and return, commits and activations step by step, and the statement about them (13 R465 to R488). -/

set_option Elab.async false

namespace Sys2Proof.Machine

/-! ### Processors as state -/

section
variable {s : State} {p k : Nat} {f : Proc → Proc}

theorem proc_modProc_self (hwf : mwf {} s.procs = true) : (s.modProc p f).proc p = f (s.proc p) := mget_mset_self _ _ hwf

theorem proc_modProc_of_ne (h : f (s.proc p) ≠ {}) : (s.modProc p f).proc p = f (s.proc p) := mget_mset_ne _ _ _ _ h

theorem proc_modProc_other (h : k ≠ p) : (s.modProc p f).proc k = s.proc k := mget_mset_other _ _ _ _ _ h

/-- Two updates that agree on the processor. -/
theorem modProc_congr {g : Proc → Proc} (h : f (s.proc p) = g (s.proc p)) : s.modProc p f = s.modProc p g :=
  congrArg (fun x : Proc => { s with procs := mset {} s.procs p x }) h

/-- An update that says the same when it is made twice, made on each processor of a list. -/
theorem proc_foldl_modProc (hf : ∀ x, f (f x) = f x) (ps : List Nat) (hwf : mwf {} s.procs = true) :
    (ps.foldl (fun s p => s.modProc p f) s).proc k = if k ∈ ps then f (s.proc k) else s.proc k := by
  induction ps generalizing s with
  | nil => simp
  | cons p ps ih =>
    rw [List.foldl_cons, ih (mwf_mset _ _ hwf)]
    by_cases hk : k = p
    · subst hk
      rw [proc_modProc_self hwf, hf, ite_self, if_pos List.mem_cons_self]
    · rw [proc_modProc_other hk]
      simp only [List.mem_cons, hk, false_or]

end

/-! ### Restarts (13 R467, R471, R472) -/

section
variable {s : State} {p cause pc : Nat}

/-- The restarts of the last second, this one among them. -/
def State.recentOf (s : State) (p : Nat) : List Nat := (s.proc p).recent.filter (fun t => decide (s.time < t + 1200000000)) ++ [s.time]

/-- The crash record of a restart. -/
def State.crashOf (s : State) (p cause pc : Nat) : Nat :=
  crashRecord p cause (satAdd 16 (s.proc p).restarts 1) pc s.time (s.proc p).version 0

/-- A processor has stopped for a cause of its own and is now Restarting or Held: its crash record and its backup cause are kept. -/
def State.procStopped (s : State) (p cause pc : Nat) (st : ProcSt) : State :=
  (({ s with
    procs := mset {} s.procs p { s.proc p with
      state := st, restarts := satAdd 16 (s.proc p).restarts 1, crash := s.crashOf p cause pc, recent := s.recentOf p, stopAt := s.time, cause := cause }
    fw := { s.fw with crashLog := (s.fw.crashLog ++ [s.crashOf p cause pc]).drop (s.fw.crashLog.length + 1 - 16) } } : State).count 0x32).pushCause 3 0x0B

theorem requestProc_stopped (hcause : cause ≤ 2) (hst : (s.proc p).state ≠ .running) : s.requestProc p cause pc = s := by
  refine if_pos ?_
  cases h : (s.proc p).state
  case running => exact absurd h hst
  case restarting => exact .inr (.inl rfl)
  case held => exact .inr (.inr (.inr ⟨hcause, rfl⟩))
  case debugHalted => exact .inr (.inr (.inl rfl))

section
variable (hdark : s.dark = false) (hst : (s.proc p).state = .running)
include hdark hst

theorem requestProc_running : s.requestProc p cause pc = if ¬ s.rst.reachedHeld then s.assertReset 2 0x06 else s.restartProc p cause pc := by
  refine if_neg ?_
  simp [hdark, hst]

theorem requestProc_early (hheld : s.rst.reachedHeld = false) : s.requestProc p cause pc = s.assertReset 2 0x06 :=
  (requestProc_running hdark hst).trans (if_pos (by simp [hheld]))

theorem requestProc_late (hheld : s.rst.reachedHeld = true) : s.requestProc p cause pc = s.restartProc p cause pc :=
  (requestProc_running hdark hst).trans (if_neg (by simp [hheld]))

end

section
variable (hst : (s.proc p).state = .running) (hcause : cause ≤ 2)
include hst hcause

/-- A restart for a cause of the processor's own that is not the fourth within a second. -/
theorem restartProc_again (hfew : (s.recentOf p).length < 4) : s.restartProc p cause pc =
    (if cause = 1 then (s.procStopped p cause pc .restarting).count 0x33 else s.procStopped p cause pc .restarting).condition 0x0401 1
      (field 0 7 p + field 7 4 cause) := by
  have hfourth : (decide (cause ≤ 2) && decide (4 ≤ ((s.proc p).recent.filter (fun t => decide (s.time < t + 1200000000)) ++ [s.time]).length)) = false := by
    rw [Bool.and_eq_false_iff]
    exact .inr (decide_eq_false (Nat.not_le.mpr hfew))
  simp only [State.restartProc, if_pos hcause, hfourth, hst, Bool.false_and, Bool.false_eq_true, if_false, reduceCtorEq, false_and]
  rfl

/-- The fourth within a second, of an image that was not activated. -/
theorem restartProc_fourth (hfour : 4 ≤ (s.recentOf p).length) (hactivated : (s.proc p).activated = false) : s.restartProc p cause pc =
    ((if cause = 1 then (s.procStopped p cause pc .held).count 0x33 else s.procStopped p cause pc .held).condition 0x0401 1
      (field 0 7 p + field 7 4 cause)).condition 0x0403 2 (field 0 7 p) := by
  have hfourth : (decide (cause ≤ 2) && decide (4 ≤ ((s.proc p).recent.filter (fun t => decide (s.time < t + 1200000000)) ++ [s.time]).length)) = true := by
    rw [Bool.and_eq_true]
    exact ⟨decide_eq_true hcause, decide_eq_true hfour⟩
  simp only [State.restartProc, if_pos hcause, hfourth, hst, hactivated, Bool.and_false, Bool.false_and, Bool.false_eq_true, if_false,
    reduceCtorEq, false_and, Bool.not_false, Bool.and_true, if_true]
  rfl

end

theorem procStopped_proc {st : ProcSt} (hst : st ≠ .running) : (s.procStopped p cause pc st).proc p = { s.proc p with
    state := st, restarts := satAdd 16 (s.proc p).restarts 1, crash := s.crashOf p cause pc, recent := s.recentOf p, stopAt := s.time, cause := cause } :=
  proc_modProc_of_ne (f := fun x => { x with
    state := st, restarts := satAdd 16 (s.proc p).restarts 1, crash := s.crashOf p cause pc, recent := s.recentOf p, stopAt := s.time, cause := cause })
    fun h => hst (congrArg Proc.state h)

theorem condition_frame (c sev x : Nat) : s.condition c sev x = { s with
    dict := (s.condition c sev x).dict, hl := (s.condition c sev x).hl, fp := (s.condition c sev x).fp, flt := (s.condition c sev x).flt } :=
  State.event_frame s 3 sev c x

/-- What is reported, then reported again, is all that has changed. -/
theorem reports_trans {t u : State} (h : t = { s with dict := t.dict, hl := t.hl, fp := t.fp, flt := t.flt })
    (h' : u = { t with dict := u.dict, hl := u.hl, fp := u.fp, flt := u.flt }) :
    u = { s with dict := u.dict, hl := u.hl, fp := u.fp, flt := u.flt } := by
  rw [h', h]

end

/-! ### The return of a processor (13 R473 to R477) -/

section
variable {s : State} {p : Nat} {warm : Bool}

theorem procBack_stays (hrestarting : (s.proc p).state ≠ .restarting) (hrunning : (s.proc p).state ≠ .running) : s.procBack p warm = s := by
  have hreturn : s.procReturn p warm = s := if_pos (.inr (.inl hrestarting))
  have hnot : ¬ s.runs p = true := by simp [State.runs, hrunning]
  simp only [State.procBack, hreturn]
  exact if_pos hnot

/-- A cluster core that returns: what it has to say of its crash, and the windows of its cluster. -/
def State.returned (s : State) (p : Nat) : State :=
  (((({ s.modProc p (fun x => { x with state := .running, crash := setBits x.crash 192 32 (s.time - x.stopAt) }) with
    fw := { s.fw with crashLog := s.fw.crashLog.map (fun r => if r = (s.proc p).crash then setBits (s.proc p).crash 192 32 (s.time - (s.proc p).stopAt) else r) } } :
    State).interruption 0x0401 0).restartWindows (p - 4)))

theorem procReturn_core (hdark : s.dark = false) (hp : 4 ≤ p) (hst : (s.proc p).state = .restarting) (hcause : (s.proc p).cause ≤ 2) :
    s.procReturn p warm = s.returned p := by
  have hfive : (s.proc p).cause ≠ 5 := by omega
  have hsix : (s.proc p).cause ≠ 6 := by omega
  have hring : p ≠ procRingmaster := by simp only [procRingmaster]; omega
  have hbarker : p ≠ procBarker := by simp only [procBarker]; omega
  have hgap : s.interruptedFor p = 0 := if_neg hring
  have hmod : s.modProc p (fun x => { x with
      state := .running, crash := setBits (s.proc p).crash 192 32 (s.time - (s.proc p).stopAt)
      version := if x.cause = 5 then s.bankVersion s.fw.actBank else if x.cause = 6 then s.bankVersion (s.bankOf p) else x.version
      activated := if x.cause = 5 then true else if x.cause = 6 then false else x.activated }) =
      s.modProc p (fun x => { x with state := .running, crash := setBits x.crash 192 32 (s.time - x.stopAt) }) :=
    modProc_congr (by simp only [hfive, hsix, if_false])
  simp only [State.procReturn, hmod, hdark, hst, hfive, hsix, hring, hbarker, hgap, hp, Bool.false_eq_true, ne_eq, not_true_eq_false, false_and,
    or_self, if_false, if_true]
  rfl

/-- A cluster core that returns, with no access that waits for it. -/
theorem procBack_core (hdark : s.dark = false) (hp : 4 ≤ p) (hst : (s.proc p).state = .restarting) (hcause : (s.proc p).cause ≤ 2)
    (hwaiting : s.dict.waiting = []) (hwf : mwf {} s.procs = true) : s.procBack p warm = s.returned p ∧
      (s.returned p).proc p = { s.proc p with state := .running, crash := setBits (s.proc p).crash 192 32 (s.time - (s.proc p).stopAt) } ∧
      s.returned p = { s with
        procs := (s.returned p).procs, fw := (s.returned p).fw, flt := (s.returned p).flt, tiles := (s.returned p).tiles, cal := (s.returned p).cal } := by
  have hproc : (s.returned p).proc p = { s.proc p with state := .running, crash := setBits (s.proc p).crash 192 32 (s.time - (s.proc p).stopAt) } :=
    proc_modProc_self (f := fun x => { x with state := .running, crash := setBits x.crash 192 32 (s.time - x.stopAt) }) hwf
  have hruns : (s.returned p).runs p = true := by simp [State.runs, hproc]
  have hnone : (s.returned p).dict.waiting = [] := hwaiting
  have hserve : (s.returned p).serveWaiting p = s.returned p := by
    simp only [State.serveWaiting, hnone, List.filter_nil, List.foldl_nil]
    rw [← hnone]
  have hbarker : p ≠ procBarker := by simp only [procBarker]; omega
  refine ⟨?_, hproc, rfl⟩
  simp only [State.procBack, procReturn_core hdark hp hst hcause, hruns, hserve, not_true_eq_false, if_false, if_neg hbarker]

/-! ### Accesses that wait for a processor (13 R465) -/

theorem waitTimeout_none (h : ∀ w ∈ s.dict.waiting, s.time < w.since + 42000) : s.waitTimeout = s := by
  have hlate : s.dict.waiting.filter (fun w => decide (w.since + 42000 ≤ s.time)) = [] :=
    List.filter_eq_nil_iff.mpr fun w hw => by simpa using h w hw
  have hstay : s.dict.waiting.filter (fun w => !decide (w.since + 42000 ≤ s.time)) = s.dict.waiting :=
    List.filter_eq_self.mpr fun w hw => by simpa using h w hw
  simp only [State.waitTimeout, hlate, hstay, List.foldl_nil]

theorem waitTimeout_one {w : Waiting} (hwaiting : s.dict.waiting = [w]) (hlate : w.since + 42000 ≤ s.time) :
    s.waitTimeout = ({ s with dict := { s.dict with waiting := [] } } : State).answer w.port w.index w.sub .retry := by
  simp only [State.waitTimeout, hwaiting, List.filter_cons, List.filter_nil, decide_eq_true hlate, Bool.not_true, Bool.false_eq_true, if_true,
    if_false, List.foldl_cons, List.foldl_nil]

end

/-! ### Commits and activations (13 R480 to R488) -/

section
variable {s : State}

theorem commitVerified_not (h : s.fw.commitSt ≠ 1) : s.commitVerified = s := if_pos (.inl h)

theorem commitVerified_bad {r : Nat} (hst : s.fw.commitSt = 1) (hruns : s.runs procSecurity = true) (hbad : s.verifyBundle s.staged = .error r) :
    s.commitVerified = { s with fw := { s.fw with commitSt := 4, commitReason := r } } := by
  simp only [State.commitVerified, hst, hruns, hbad, ne_eq, not_true_eq_false, or_self, if_false]

theorem commitVerified_good {h : Bundle} (hst : s.fw.commitSt = 1) (hruns : s.runs procSecurity = true) (hgood : s.verifyBundle s.staged = .ok h)
    (hbank : s.targetBank = some 1) :
    s.commitVerified = { s with fw := { s.fw with commitSt := 2, bankState1 := 1, recSeq := (s.fw.recSeq + 1) % 2 ^ 16 } } := by
  simp only [State.commitVerified, hst, hruns, hgood, hbank, ne_eq, not_true_eq_false, or_self, if_false]
  rfl

theorem commitWritten_not (h : s.fw.commitSt ≠ 2) : s.commitWritten = s := if_pos (.inl h)

section
variable (hst : s.fw.commitSt = 2) (hbarker : s.runs procBarker = true) (hsecurity : s.runs procSecurity = true) (hbank : s.targetBank = some 1)
include hst hbarker hsecurity hbank

theorem commitWritten_good {h : Bundle} (hgood : s.verifyBundle s.staged = .ok h) : s.commitWritten = { s with fw := { s.fw with
    commitSt := 3, bundles := mset {} s.fw.bundles 1 (bundleHeader s.staged), data1 := s.staged, version1 := (bundleHeader s.staged).version
    compat1 := (bundleHeader s.staged).compat, bankState1 := 2, recSeq := (s.fw.recSeq + 1) % 2 ^ 16 } } := by
  simp only [State.commitWritten, hst, hbarker, hsecurity, hbank, hgood, ne_eq, not_true_eq_false, or_self, Bool.false_eq_true, if_false]
  rfl

theorem commitWritten_bad {r : Nat} (hbad : s.verifyBundle s.staged = .error r) : s.commitWritten = { s with fw := { s.fw with
    commitSt := 4, commitReason := 4, bankState1 := 3, recSeq := (s.fw.recSeq + 1) % 2 ^ 16 } } := by
  simp only [State.commitWritten, hst, hbarker, hsecurity, hbank, hbad, ne_eq, not_true_eq_false, or_self, if_false, if_true]
  rfl

end

theorem activationSwitch_none {good : Bool} {un : List Nat} (h : s.fw.actList = []) : s.activationSwitch good un = s := by
  simp only [State.activationSwitch, h]

section
variable {p : Nat} {ps un : List Nat} (hlist : s.fw.actList = p :: ps) (hst : s.fw.actSt = 1 ∨ s.fw.actSt = 2)
  (hsecurity : s.runs procSecurity = true) (hrunning : (s.proc p).state = .running)
include hlist hst hsecurity hrunning

theorem activationSwitch_bad : s.activationSwitch false un =
    { s with fw := { s.fw with actSt := 5, actReason := 7, actList := [], actCurrent := 127 } } := by
  simp only [State.activationSwitch, hlist]
  refine (if_neg ?_).trans (if_pos (by decide))
  simp only [hsecurity, hrunning, not_true_eq_false, reduceCtorEq, or_self, or_false]
  omega

theorem activationSwitch_emergency (hemergency : s.pwr.emergency = true) :
    s.activationSwitch true un = { s with fw := { s.fw with actSt := 2 } } := by
  simp only [State.activationSwitch, hlist]
  refine (if_neg ?_).trans ((if_neg (by decide)).trans (if_pos (.inl hemergency)))
  simp only [hsecurity, hrunning, not_true_eq_false, reduceCtorEq, or_self, or_false]
  omega

theorem activationSwitch_good (hdark : s.dark = false) (hemergency : s.pwr.emergency = false) (hpower : s.runs procPower = true)
    (hp : p ≠ procBarker) (hheld : s.rst.reachedHeld = true) :
    s.activationSwitch true un = ({ s with fw := { s.fw with actSt := 3 } } : State).restartProc p 5 0 := by
  have hswitch : s.activationSwitch true un = ({ s with fw := { s.fw with actSt := 3 } } : State).requestProc p 5 0 := by
    simp only [State.activationSwitch, hlist, hp, false_and, if_false]
    refine (if_neg ?_).trans ((if_neg (by decide)).trans (if_neg ?_))
    · simp only [hsecurity, hrunning, not_true_eq_false, reduceCtorEq, or_self, or_false]
      omega
    · simp [hemergency, hpower]
  exact hswitch.trans (requestProc_late (s := { s with fw := { s.fw with actSt := 3 } }) hdark hrunning hheld)

end

theorem debugRelease_not (h : s.rst.haltDebug = false) : s.debugRelease = s := if_pos (by simp [h])

/-- A processor that was halted for debugging runs again. -/
def Proc.goOn (x : Proc) : Proc := if x.state = .debugHalted then { x with state := .running } else x

theorem goOn_goOn (x : Proc) : x.goOn.goOn = x.goOn := by
  simp only [Proc.goOn]
  split
  · rfl
  · simp [*]

theorem debugRelease_halted (h : s.rst.haltDebug = true) (hwf : mwf {} s.procs = true) :
    (∀ p < 102, s.debugRelease.proc p = (s.proc p).goOn) ∧
    s.debugRelease = { s with rst := { s.rst with haltDebug := false }, procs := s.debugRelease.procs } := by
  generalize hu : s.debugRelease = u
  have hrelease : u = (List.range 102).foldl (fun s p => s.modProc p Proc.goOn) { s with rst := { s.rst with haltDebug := false } } :=
    hu.symm.trans (if_neg (by simp [h]))
  subst hrelease
  refine ⟨fun p hp => ?_, ?_⟩
  · exact (proc_foldl_modProc (s := { s with rst := { s.rst with haltDebug := false } }) goOn_goOn _ hwf).trans
      (if_pos (List.mem_range.mpr hp))
  · obtain ⟨procs, hprocs⟩ := foldl_modProc_frame Proc.goOn (List.range 102) { s with rst := { s.rst with haltDebug := false } }
    rw [hprocs]

end

/-! ### O56 -/

section
variable {s : State} (hrun : Running s)
include hrun

theorem exec_restarts (p : Fin 102) (pc : BitVec 32) :
    let x := s.proc p
    let recent := x.recent.filter (fun t => decide (s.time < t + 1200000000)) ++ [s.time]
    let crash (cause : Nat) := crashRecord p cause (satAdd 16 x.restarts 1) pc.toNat s.time x.version 0
    x.state = .running → s.rst.reachedHeld = true → recent.length < 4 →
      let u (cause : Nat) : State := (({ s with
        procs := mset {} s.procs p { x with
          state := .restarting, restarts := satAdd 16 x.restarts 1, crash := crash cause, recent := recent, stopAt := s.time, cause := cause }
        fw := { s.fw with crashLog := (s.fw.crashLog ++ [crash cause]).drop (s.fw.crashLog.length + 1 - 16) } } : State).count 0x32).pushCause 3 0x0B
      exec (.watchdogExpire p pc) s = .next (((u 1).count 0x33).condition 0x0401 1 (field 0 7 p + field 7 4 1)) ∧
      exec (.processorException p pc) s = .next ((u 2).condition 0x0401 1 (field 0 7 p + field 7 4 2)) := by
  intro x recent crash hst hheld hfew u
  exact ⟨live_next hrun ((requestProc_late hrun.1 hst hheld).trans (restartProc_again hst (by omega) hfew)),
    live_next hrun ((requestProc_late hrun.1 hst hheld).trans (restartProc_again hst (by omega) hfew))⟩

/-- A processor that stops for the fourth time within a second. -/
theorem requestProc_fourth {p cause pc : Nat} (hcause : cause ≤ 2) (hst : (s.proc p).state = .running) (hheld : s.rst.reachedHeld = true)
    (hfour : 4 ≤ (s.recentOf p).length) (hactivated : (s.proc p).activated = false) :
    (s.requestProc p cause pc).proc p = { s.proc p with
      state := .held, restarts := satAdd 16 (s.proc p).restarts 1, crash := s.crashOf p cause pc, recent := s.recentOf p, stopAt := s.time
      cause := cause } ∧
    s.requestProc p cause pc = { s with
      procs := (s.requestProc p cause pc).procs, fw := (s.requestProc p cause pc).fw, rst := (s.requestProc p cause pc).rst
      dict := (s.requestProc p cause pc).dict, hl := (s.requestProc p cause pc).hl, fp := (s.requestProc p cause pc).fp
      flt := (s.requestProc p cause pc).flt } := by
  generalize hu : s.requestProc p cause pc = u
  generalize hv : (if cause = 1 then (s.procStopped p cause pc .held).count 0x33 else s.procStopped p cause pc .held) = v
  have hstopped : u = (v.condition 0x0401 1 (field 0 7 p + field 7 4 cause)).condition 0x0403 2 (field 0 7 p) :=
    hu.symm.trans ((requestProc_late hrun.1 hst hheld).trans ((restartProc_fourth hst hcause hfour hactivated).trans (by rw [hv])))
  have hreports : u = { v with dict := u.dict, hl := u.hl, fp := u.fp, flt := u.flt } :=
    reports_trans (condition_frame _ _ _) (hstopped ▸ condition_frame _ _ _)
  have hcounted : v = { s.procStopped p cause pc .held with flt := v.flt } := by
    subst hv
    split <;> rfl
  have hproc : u.proc p = (s.procStopped p cause pc .held).proc p := by
    rw [hreports, hcounted]
    rfl
  refine ⟨hproc.trans (procStopped_proc (by decide)), ?_⟩
  rw [hreports, hcounted]
  rfl

end

/-- Settles O56: restarts by the processor's state, the returns by their cause, and commits and activations by their step. -/
theorem firmwareRestartsCommitsAndSwitches : Obligations.FirmwareRestartsCommitsAndSwitches := by
  unfold Obligations.FirmwareRestartsCommitsAndSwitches
  intro s hrun
  refine ⟨fun p pc => ⟨fun hst => ?stopped, fun hst hheld => ?early, exec_restarts hrun p pc, fun c cause hc hst hheld hfour hactivated => ?fourth⟩,
    fun p warm => ⟨fun hrestarting hrunning => ?stays, fun hp hst hcause hwaiting hwf => ?returns⟩, fun h => ?noneLate, fun w hwaiting hlate => ?late,
    fun hst => ?noCommit, fun hst hruns hbank => ?verified, fun hst => ?notWriting,
    fun hst hbarker hsecurity hbank ⟨h, hgood⟩ => ?written, fun hst hbarker hsecurity hbank ⟨r, hbad⟩ => ?spoiled, fun good un hlist => ?noSwitch,
    fun p ps un hlist hst hsecurity hrunning => ⟨?badDigest, fun hemergency => ?waits, fun hemergency hpower hp hheld => ?switches⟩,
    fun h => ?noHalt, fun h hwf => ?release⟩
  case stopped => exact ⟨live_next hrun (requestProc_stopped (by omega) hst), live_next hrun (requestProc_stopped (by omega) hst)⟩
  case early => exact ⟨live_next hrun (requestProc_early hrun.1 hst hheld), live_next hrun (requestProc_early hrun.1 hst hheld)⟩
  case fourth =>
    have hend (cause : Nat) (hcause : cause ≤ 2) := requestProc_fourth hrun (p := p) (pc := pc.toNat) hcause hst hheld hfour hactivated
    obtain h | h := hc
    · obtain ⟨rfl, rfl⟩ := Prod.mk.inj h
      exact ⟨_, live_next hrun rfl, hend 1 (by omega)⟩
    · obtain ⟨rfl, rfl⟩ := Prod.mk.inj h
      exact ⟨_, live_next hrun rfl, hend 2 (by omega)⟩
  case stays => exact live_next hrun (procBack_stays hrestarting hrunning)
  case returns =>
    obtain ⟨hback, hproc, hframe⟩ := procBack_core (warm := warm) hrun.1 hp hst hcause hwaiting hwf
    exact ⟨_, live_next hrun hback, hproc, hframe⟩
  case noneLate => exact live_next hrun (waitTimeout_none h)
  case late => exact live_next hrun (waitTimeout_one hwaiting hlate)
  case noCommit => exact live_next hrun (commitVerified_not hst)
  case verified =>
    cases hverify : s.verifyBundle s.staged with
    | error r => exact live_next hrun (commitVerified_bad hst hruns hverify)
    | ok h => exact live_next hrun (commitVerified_good hst hruns hverify hbank)
  case notWriting => exact live_next hrun (commitWritten_not hst)
  case written => exact live_next hrun (commitWritten_good hst hbarker hsecurity hbank hgood)
  case spoiled => exact live_next hrun (commitWritten_bad hst hbarker hsecurity hbank hbad)
  case noSwitch => exact live_next hrun (activationSwitch_none hlist)
  case badDigest => exact live_next hrun (activationSwitch_bad hlist hst hsecurity hrunning)
  case waits => exact live_next hrun (activationSwitch_emergency hlist hst hsecurity hrunning hemergency)
  case switches => exact live_next hrun (activationSwitch_good hlist hst hsecurity hrunning hrun.1 hemergency hpower hp hheld)
  case noHalt => exact live_next hrun (debugRelease_not h)
  case release => exact ⟨_, live_next hrun rfl, debugRelease_halted h hwf⟩

end Sys2Proof.Machine

end

section
/-! SUPPORT. Supplies and pins, resets and their release, bring-up, block resets, violations and the reference clock, and the statement
about them (14 R491 to R511, 16 R548, 18 R582). -/

set_option Elab.async false

namespace Sys2Proof.Machine

/-! ### Supplies and pins (14 R492, R493) -/

section
variable {s : State}

/-- A rail as it is now. -/
def State.withRail (s : State) (rail v : Nat) : State := { s with rst := { s.rst with rails := BitVec.ofNat 8 (setBits s.rst.rails.toNat rail 1 v) } }

theorem supplyMonitor_aon : s.supplyMonitor 6 true = (s.withRail 6 0).assertReset 1 0x01 := rfl

theorem supplyMonitor_below {rail : Nat} (hrail : rail ≠ 6) : s.supplyMonitor rail true =
    if s.pwr.seqOff ∧ rail ≠ 7 then s.withRail rail 0 else (s.withRail rail 0).assertReset 2 0x02 := if_neg hrail

theorem supplyMonitor_above {rail : Nat} : s.supplyMonitor rail false =
    if s.dark ∧ ¬ (s.withRail rail 1).resetHeld then (s.withRail rail 1).holdEnds else s.withRail rail 1 := rfl

theorem pwrGood_falls : s.pwrGoodLow true = if s.pwr.seqOff then { s with rst := { s.rst with pwrGood := false } }
    else ({ s with rst := { s.rst with pwrGood := false } } : State).assertReset 2 0x03 := rfl

theorem pwrGood_rises (hdark : s.dark = false) : s.pwrGoodLow false = { s with rst := { s.rst with pwrGood := true } } := by
  have hlive : ({ s with rst := { s.rst with pwrGood := true } } : State).dark = false := hdark
  simp only [State.pwrGoodLow, hlive, Bool.false_eq_true, false_and, if_false]

theorem rstNPulse_short {n : Nat} {honoured : Bool} (hrail : bit s.rst.rails.toNat 6 = true) (h : n < 40 ∨ n < 80 ∧ honoured = false) :
    s.rstNPulse n honoured = { s with rst := { s.rst with rstnIgnored := satAdd 16 s.rst.rstnIgnored 1 } } :=
  (if_neg (by simp [hrail])).trans (if_pos (h.imp_right (.imp_right (by simp [·]))))

theorem rstNPulse_long {n : Nat} {honoured : Bool} (hrail : bit s.rst.rails.toNat 6 = true) (h : 80 ≤ n ∨ 40 ≤ n ∧ honoured = true)
    (hseq : s.pwr.seqOff = false) (hstate : s.pwr.state = 3) : s.rstNPulse n honoured = (s.assertReset 2 0x04).holdEnds := by
  have hlong : ¬ (n < 40 ∨ (n < 80 ∧ ¬ honoured = true)) := by
    rcases h with h | ⟨h, hh⟩
    · omega
    · simp only [hh, not_true_eq_false, and_false, or_false]
      omega
  have hrail' : ¬ bit s.rst.rails.toNat 6 = false := by simp [hrail]
  simp only [State.rstNPulse, if_neg hrail', if_neg hlong, hseq, hstate, Bool.false_eq_true, ne_eq, not_true_eq_false, decide_false, if_false]

/-! ### What a reset leaves (14 R491, R492, R500) -/

/-- A device that is reset keeps the queue of commands and what it has sent, the violations and the map of images; its ops, regions, links and
light end. -/
theorem assertReset_leaves {level cause : Nat} (hdark : s.dark = false) : let t := s.assertReset level cause
    t.rst.asserted = some level ∧ t.rst.record = some (level, cause) ∧ t.pending = s.pending ∧ t.ops = [] ∧ t.regions = [] ∧ t.queues = [] ∧
    t.hl.state = .down ∧ t.fp.state = .silent ∧ t.fab.state = .stopped ∧ t.light.compute = .dark ∧ t.light.link = .dark ∧
    t.hl.tx = s.hl.tx ∧ t.sec.violations = s.sec.violations ∧ t.fw.map = s.fw.map := by
  obtain ⟨i, nv, hsettle⟩ := settleNv_frame s
  intro t
  have ht := assertReset_of_live level cause hdark
  rw [State.cleared, hsettle] at ht
  rw [show t = _ from ht]
  exact ⟨rfl, rfl, rfl, rfl, rfl, rfl, rfl, rfl, rfl, rfl, rfl, rfl, rfl, rfl⟩

/-- The always-on record of a warm reset: the step and the time at which it came. -/
theorem assertReset_backup_warm {cause : Nat} (hdark : s.dark = false) : (s.assertReset 2 cause).rst.backup =
    mset 0 (mset 0 s.rst.backup 2 (if s.rst.step < 10 then s.rst.step else 10)) 3 (s.time % 2 ^ 64) := by
  obtain ⟨i, nv, hsettle⟩ := settleNv_frame s
  simp only [assertReset_of_live 2 cause hdark, State.cleared, hsettle]
  rfl

theorem assertReset_backup_cold {cause : Nat} (hdark : s.dark = false) : (s.assertReset 1 cause).rst.backup = [] := by
  obtain ⟨i, nv, hsettle⟩ := settleNv_frame s
  simp only [assertReset_of_live 1 cause hdark, State.cleared, hsettle]
  rfl

theorem assertReset_records {cause : Nat} (hdark : s.dark = false) (hwf : mwf 0 s.rst.backup = true) :
    mget 0 (s.assertReset 2 cause).rst.backup 3 = s.time % 2 ^ 64 ∧ mget 0 (s.assertReset 2 cause).rst.backup 2 = min s.rst.step 10 := by
  rw [assertReset_backup_warm hdark, mget_mset_self _ _ (mwf_mset _ _ hwf), mget_mset_other _ _ _ _ _ (by decide), mget_mset_self _ _ hwf]
  exact ⟨rfl, by split <;> omega⟩

theorem resetRelease_holds (h : s.dark = false ∨ s.resetHeld = true ∨ s.time < s.rst.clearAt) : s.resetRelease = s := by
  refine if_neg fun ⟨hdark, hheld, hclear⟩ => ?_
  rcases h with h | h | h
  · exact Bool.false_ne_true (h.symm.trans hdark)
  · exact hheld h
  · omega

/-! ### Bring-up (14 R509 to R511) -/

section
variable {o : StepOutcome}

theorem bringupStep_stays (h : s.rst.failed = true ∨ s.rst.stopped = true ∨ s.rst.haltDebug = true) : s.bringupStep o = s := if_pos (.inr h)

section
variable (hdark : s.dark = false) (hfailed : s.rst.failed = false) (hstopped : s.rst.stopped = false) (hhalt : s.rst.haltDebug = false)
include hdark hfailed hstopped hhalt

theorem bringupStep_one (hstep : s.rst.step = 1) : s.bringupStep o = s.step1 o.crystal := by
  simp only [State.bringupStep, hdark, hfailed, hstopped, hhalt, hstep, Bool.false_eq_true, or_self, if_false]

theorem bringupStep_five (hstep : s.rst.step = 5) : s.bringupStep o = s.step5 (o.failedStacks.map (fun x => (x : Nat))) := by
  simp only [State.bringupStep, hdark, hfailed, hstopped, hhalt, hstep, Bool.false_eq_true, or_self, if_false]

theorem bringupStep_nine (hstep : s.rst.step = 9) : s.bringupStep o = if s.fab.state = .testing then s else s.endBringup := by
  simp only [State.bringupStep, hdark, hfailed, hstopped, hhalt, hstep, Bool.false_eq_true, or_self, if_false]

end

theorem pushCause_frame (l c : Nat) : ∃ r, s.pushCause l c = { s with rst := r } ∧ r.lastCause = c ∧ r.lastLevel = l := ⟨_, rfl, rfl, rfl⟩

theorem raiseBackup_frame (n lo w : Nat) : ∃ backup, s.raiseBackup n lo w = { s with rst := { s.rst with backup := backup } } := ⟨_, rfl⟩

theorem enterStep_two : s.enterStep 2 = { s with rst := { s.rst with step := 2, group := max s.rst.group 2 } } := rfl

/-- Step 1 records the cause and the level of the reset, in the reset block alone. -/
theorem step1_records {crystal : Bool} {l c : Nat} (hrecord : s.rst.record = some (l, c)) : ∃ u : State, s.step1 crystal = u ∧ u.rst.step = 2 ∧
    u.rst.lastCause = c ∧ u.rst.lastLevel = l ∧ u.rst.record = none ∧ u = { s with rst := u.rst } := by
  obtain ⟨r, hpush, hlast, hlevel⟩ := pushCause_frame (s := s) l c
  obtain ⟨backup, hraise⟩ := raiseBackup_frame (s := { s with rst := r }) 0 0 32
  simp only [State.step1, hrecord, enterStep_two, hpush, hraise]
  exact ⟨_, rfl, rfl, hlast, hlevel, rfl, rfl⟩

theorem checked_rst (fn c : Nat) (fs : List (Nat × Nat × Nat)) : (s.checked fn c fs).rst = s.rst := by
  simp only [State.checked]
  split
  · rfl
  · rw [State.event_frame]
    rfl

theorem restartBasin_rst : s.restartBasin.1.rst = s.rst := by
  simp only [State.restartBasin]
  split
  · exact checked_rst _ _ _
  · obtain ⟨queues, htaken⟩ := takeOffsets_frame (s.checked 1 127 s.basinFaults)
    rw [htaken]
    split
    · exact checked_rst _ _ _
    · exact checked_rst _ _ _

theorem fpEnter_rst (st : FpSt) : (s.fpEnter st).rst = s.rst := by
  by_cases h : s.fp.state = st
  · rw [fpEnter_same h]
  · rw [fpEnter_other h, State.event_frame]
    rfl

theorem setObj_rst (i k v : Nat) : (s.setObj i k v).rst = s.rst := by rw [State.setObj_frame]

theorem fpStart_rst : s.fpStart.1.rst = s.rst := by
  simp only [State.fpStart]
  split
  · rfl
  · split
    · exact (fpEnter_rst _).trans (checked_rst _ _ _)
    · split
      · exact (setObj_rst _ _ _).trans (checked_rst _ _ _)
      · exact (fpEnter_rst _).trans ((setObj_rst _ _ _).trans (checked_rst _ _ _))

/-- The last step leaves the device in Held, whatever the Basin and the field port come to. -/
theorem endBringup_held : s.endBringup.rst.step = 10 ∧ s.endBringup.rst.reachedHeld = true := by
  simp only [State.endBringup]
  split
  · rw [fpStart_rst, restartBasin_rst]
    exact ⟨rfl, rfl⟩
  · rw [restartBasin_rst]
    exact ⟨rfl, rfl⟩

end

/-! ### Block resets (14 R499) -/

section
variable {kind num : Nat}

theorem blockAssert_not (h : blockOk kind num = false ∨ s.blockReset kind num = true) : s.blockAssert kind num = s := by
  refine if_pos ?_
  rcases h with h | h
  · exact .inr (.inl (by simp [h]))
  · exact .inr (.inr h)

section
variable (hdark : s.dark = false) (hblock : blockOk kind num = true) (hfree : s.blockReset kind num = false)
include hdark hblock hfree

theorem blockAssert_early (hheld : s.rst.reachedHeld = false) : s.blockAssert kind num = s.assertReset 2 0x06 :=
  (if_neg (by simp [hdark, hblock, hfree])).trans (if_pos (by simp [hheld]))

end

theorem blockAssert_cluster (hdark : s.dark = false) (hnum : num < 98) (hfree : s.blockReset 1 num = false) (hheld : s.rst.reachedHeld = true) :
    s.blockAssert 1 num = ((({ s with
      rst := { s.rst with
        requests := s.rst.requests.filter (· ≠ (1, num))
        blocks := s.rst.blocks ++ [({ kind := 1, num := num, since := s.time } : BlockReset)] } } : State).pushCause 4
          (if (1, num) ∈ s.rst.requests then 0x09 else 0x0C)).clusterCleared num) := by
  have hblock : blockOk 1 num = true := by simp [blockOk, hnum]
  refine (if_neg (by simp [hdark, hblock, hfree])).trans ((if_neg (by simp [hheld])).trans ?_)
  simp only [decide_eq_true_eq]

/-- A cluster in reset is so marked, is to be rewritten, and its loops are stopped. -/
theorem clusterCleared_cluster (c : Nat) : ((s.clusterCleared c).cluster c).inReset = true ∧ ((s.clusterCleared c).cluster c).needRewrite = true ∧
    ((s.clusterCleared c).cluster c).loopsOn = false := by
  generalize hf : (fun x : ClusterSt => ({ inReset := true, needRewrite := true, asleep := x.asleep, chanCal := x.chanCal, refs := x.refs, lastHeadroom := x.lastHeadroom } : ClusterSt)) = f
  generalize hv : ((List.range 256).foldl (fun s i => s.carouselBack (256 * c + i)) s).dropWrites c = v
  have hself : (s.clusterCleared c).cluster c = f (v.cluster c) := by
    have hclusters : (s.clusterCleared c).clusters = (v.modCluster c f).clusters := by
      subst hf hv
      simp only [State.clusterCleared]
    have hmarked : f (v.cluster c) ≠ {} := by
      subst hf
      exact fun h => Bool.noConfusion (congrArg ClusterSt.inReset h)
    rw [State.cluster, hclusters]
    exact cluster_modCluster_self hmarked
  rw [hself, ← hf]
  exact ⟨rfl, rfl, rfl⟩

theorem blockRelease_early (h : ∀ b ∈ s.rst.blocks, b.kind = kind → b.num = num → s.time < b.since + 12000) : s.blockRelease kind num = s := by
  refine if_neg ?_
  rw [List.any_eq_true]
  rintro ⟨b, hb, hdue⟩
  simp only [Bool.and_eq_true, decide_eq_true_eq] at hdue
  obtain ⟨⟨hkind, hnum⟩, hsince⟩ := hdue
  have := h b hb hkind hnum
  omega

theorem blockRelease_plane {b : BlockReset} (hb : b ∈ s.rst.blocks) (hkind : b.kind = 3) (hnum : b.num = num) (hdue : b.since + 12000 ≤ s.time) :
    s.blockRelease 3 num = (({ s with
      rst := { s.rst with blocks := s.rst.blocks.filter (fun b => !(decide (b.kind = 3) && decide (b.num = num))) } } : State).planeBack num) :=
  if_pos (List.any_eq_true.mpr ⟨b, hb, by simp [hkind, hnum, hdue]⟩)

end

/-! ### Security violations (16 R548) -/

theorem mget_scrambleBytes {m : SMap Byte} {a : Nat} (i : Nat) (h : ∀ e ∈ m, e.1 ≠ a) : mget 0 (scrambleBytes m i) a = 0 := by
  have hfold (l : List ((Nat × Byte) × Nat)) (acc : SMap Byte) (hl : ∀ e ∈ l, e.1.1 ≠ a) (hacc : mget 0 acc a = 0) :
      mget 0 (l.foldl (fun acc e => mset 0 acc e.1.1 (BitVec.ofNat 8 (Config.free (i + e.2)).toNat)) acc) a = 0 := by
    induction l generalizing acc with
    | nil => exact hacc
    | cons e l ih =>
      obtain ⟨he, hl⟩ := List.forall_mem_cons.mp hl
      exact ih _ hl ((mget_mset_other _ _ _ _ _ (Ne.symm he)).trans hacc)
  exact hfold m.zipIdx [] (fun e he => h e.1 (List.fst_mem_of_mem_zipIdx he)) rfl

/-- What a violation leaves: it is counted, and staging, calibration and logs are wiped by a cold reset. -/
theorem violation_wipes (hdark : s.dark = false) : s.violation.rst.asserted = some 1 ∧ s.violation.rst.record = some (1, 0x07) ∧
    s.violation.sec.violations = satAdd 8 s.sec.violations 1 ∧ s.violation.fw.crashLog = [] ∧ s.violation.cols = [] ∧ s.violation.calNv = s.calNv ∧
    (∀ a, dramEnd ≤ a → mget 0 s.violation.mem.bytes a = 0) := by
  generalize ht : ({ s with
    mem := { s.mem with bytes := s.mem.bytes.filter (fun e => decide (e.1 < dramEnd)) }
    cols := [], tileLoops := []
    fw := { s.fw with crashLog := [] }
    rst := { s.rst with backup := [] }
    sec := { s.sec with violations := satAdd 8 s.sec.violations 1 } } : State) = t
  have hviolation : s.violation = t.assertReset 1 0x07 := by rw [← ht]; rfl
  have hlive : t.dark = false := by rw [← ht]; exact hdark
  have hviolations : t.sec.violations = satAdd 8 s.sec.violations 1 := by rw [← ht]
  have hcal : t.calNv = s.calNv := by rw [← ht]
  have hbytes : t.mem.bytes = s.mem.bytes.filter (fun e => decide (e.1 < dramEnd)) := by rw [← ht]
  obtain ⟨i, nv, hsettle⟩ := settleNv_frame t
  have hreset := assertReset_of_live 1 0x07 hlive
  rw [State.cleared, hsettle] at hreset
  rw [hviolation, hreset]
  refine ⟨rfl, rfl, hviolations, rfl, rfl, hcal, fun a ha => mget_scrambleBytes _ fun e he => ?_⟩
  rw [hbytes, List.mem_filter, decide_eq_true_eq] at he
  omega

end

/-! ### O57 -/

section
variable {s : State}

theorem exec_supplyMonitor (rail : Fin 8) : let u : State := { s with rst := { s.rst with rails := BitVec.ofNat 8 (setBits s.rst.rails.toNat rail 1 0) } }
    let v : State := { s with rst := { s.rst with rails := BitVec.ofNat 8 (setBits s.rst.rails.toNat rail 1 1) } }
    (rail = 6 → exec (.supplyMonitor rail true) s = .next (u.assertReset 1 0x01)) ∧
    (rail ≠ 6 → s.pwr.seqOff = false → exec (.supplyMonitor rail true) s = .next (u.assertReset 2 0x02)) ∧
    (rail ≠ 6 → rail ≠ 7 → s.pwr.seqOff = true → exec (.supplyMonitor rail true) s = .next u) ∧
    (s.dark = false ∨ v.resetHeld = true → exec (.supplyMonitor rail false) s = .next v) ∧
    (s.dark = true → v.resetHeld = false → exec (.supplyMonitor rail false) s = .next { v with rst := { v.rst with clearAt := s.time + 1200 } }) := by
  intro u v
  refine ⟨fun h => ?aon, fun h hseq => congrArg Host.Outcome.next ?warm, fun h h' hseq => congrArg Host.Outcome.next ?off, fun h => congrArg Host.Outcome.next ?holds, fun hdark hheld => congrArg Host.Outcome.next ?ends⟩
  case aon =>
    subst h
    exact congrArg Host.Outcome.next supplyMonitor_aon
  case warm => exact (supplyMonitor_below (Fin.val_ne_of_ne h)).trans (if_neg (by simp [hseq]))
  case off => exact (supplyMonitor_below (Fin.val_ne_of_ne h)).trans (if_pos ⟨hseq, Fin.val_ne_of_ne h'⟩)
  case holds =>
    refine supplyMonitor_above.trans (if_neg fun hends => ?_)
    exact h.elim (fun hdark => Bool.false_ne_true (hdark.symm.trans hends.1)) hends.2
  case ends => exact supplyMonitor_above.trans (if_pos ⟨hdark, fun h => Bool.false_ne_true (hheld.symm.trans h)⟩)

section
variable (hrun : Running s)
include hrun

theorem exec_bringupStep (o : StepOutcome) :
    (s.rst.failed = true ∨ s.rst.stopped = true ∨ s.rst.haltDebug = true → exec (.bringupStep o) s = .next s) ∧
    (s.rst.failed = false → s.rst.stopped = false → s.rst.haltDebug = false →
      (∀ l c, s.rst.step = 1 → s.rst.record = some (l, c) → ∃ u : State, exec (.bringupStep o) s = .next u ∧ u.rst.step = 2 ∧ u.rst.lastCause = c ∧
        u.rst.lastLevel = l ∧ u.rst.record = none ∧ u = { s with rst := u.rst }) ∧
      (s.rst.step = 5 → o.failedStacks = [] → exec (.bringupStep o) s = .next { s with
        mem := { s.mem with bytes := s.mem.bytes.filter (fun e => decide (dramEnd ≤ e.1)), bad := [] }
        rst := { s.rst with step := 6, group := max s.rst.group 6 } }) ∧
      (s.rst.step = 9 → s.fab.state = .testing → exec (.bringupStep o) s = .next s) ∧
      (s.rst.step = 9 → s.fab.state ≠ .testing → ∃ u : State, exec (.bringupStep o) s = .next u ∧ u.rst.step = 10 ∧ u.rst.reachedHeld = true)) := by
  refine ⟨fun h => live_next hrun (bringupStep_stays h), fun hfailed hstopped hhalt => ⟨fun l c hstep hrecord => ?one, fun hstep hnone => ?five,
    fun hstep htesting => live_next hrun ((bringupStep_nine hrun.1 hfailed hstopped hhalt hstep).trans (if_pos htesting)),
    fun hstep htested => ⟨_, live_next hrun ((bringupStep_nine hrun.1 hfailed hstopped hhalt hstep).trans (if_neg htested)), endBringup_held⟩⟩⟩
  case one =>
    obtain ⟨u, hu, hrecords⟩ := step1_records (crystal := o.crystal) hrecord
    exact ⟨u, live_next hrun ((bringupStep_one hrun.1 hfailed hstopped hhalt hstep).trans hu), hrecords⟩
  case five =>
    refine live_next hrun ((bringupStep_five hrun.1 hfailed hstopped hhalt hstep).trans ?_)
    rw [hnone]
    rfl

theorem exec_blockResets (kind num : BitVec 8) :
    (blockOk kind.toNat num.toNat = false ∨ s.blockReset kind.toNat num.toNat = true → exec (.blockResetAssert kind num) s = .next s) ∧
    (blockOk kind.toNat num.toNat = true → s.blockReset kind.toNat num.toNat = false → s.rst.reachedHeld = false →
      exec (.blockResetAssert kind num) s = .next (s.assertReset 2 0x06)) ∧
    (kind = 1 → num.toNat < 98 → s.blockReset 1 num.toNat = false → s.rst.reachedHeld = true → ∃ u : State, exec (.blockResetAssert kind num) s = .next u ∧
      u = ((({ s with
        rst := { s.rst with
          requests := s.rst.requests.filter (· ≠ (1, num.toNat))
          blocks := s.rst.blocks ++ [({ kind := 1, num := num.toNat, since := s.time } : BlockReset)] } } : State).pushCause 4
            (if (1, num.toNat) ∈ s.rst.requests then 0x09 else 0x0C)).clusterCleared num.toNat) ∧
      (u.cluster num.toNat).inReset = true ∧ (u.cluster num.toNat).needRewrite = true ∧ (u.cluster num.toNat).loopsOn = false) ∧
    ((∀ b ∈ s.rst.blocks, b.kind = kind.toNat → b.num = num.toNat → s.time < b.since + 12000) → s.hl.held = [] →
      exec (.blockResetRelease kind num) s = .next s) ∧
    (∀ b ∈ s.rst.blocks, b.kind = 3 → b.num = num.toNat → b.since + 12000 ≤ s.time → s.hl.held = [] → kind = 3 →
      exec (.blockResetRelease kind num) s = .next (({ s with
        rst := { s.rst with blocks := s.rst.blocks.filter (fun b => !(decide (b.kind = 3) && decide (b.num = num.toNat))) } } : State).planeBack num.toNat)) := by
  have hresume (t : State) (hheld : s.hl.held = []) : t.hostResume s.hl.held.length = t := by rw [hheld]; rfl
  refine ⟨fun h => live_next hrun (blockAssert_not h), fun hblock hfree hheld => live_next hrun (blockAssert_early hrun.1 hblock hfree hheld), ?cluster,
    fun h hheld => live_next hrun ((hresume _ hheld).trans (blockRelease_early h)), ?plane⟩
  case cluster =>
    rintro rfl hnum hfree hheld
    exact ⟨_, live_next hrun (blockAssert_cluster hrun.1 hnum hfree hheld), rfl, clusterCleared_cluster _⟩
  case plane =>
    rintro b hb hkind hnum hdue hheld rfl
    exact live_next hrun ((hresume _ hheld).trans (blockRelease_plane hb hkind hnum hdue))

end

end

/-- Settles O57: supplies and pins by the reset that they assert, the release by what holds it, bring-up by its step, block resets by the
block. -/
theorem resetsAreAssertedHeldAndReleased : Obligations.ResetsAreAssertedHeldAndReleased := by
  unfold Obligations.ResetsAreAssertedHeldAndReleased
  intro s
  refine ⟨exec_supplyMonitor, fun hseq => congrArg Host.Outcome.next ?low, fun hdark => congrArg Host.Outcome.next ?high, fun n honoured hrail => ⟨fun h => congrArg Host.Outcome.next ?short,
      fun h hseq hstate => congrArg Host.Outcome.next ?long⟩, fun hdark level cause hlevel => ?leaves, fun h => congrArg Host.Outcome.next ?held, fun hdark hheld hclear => congrArg Host.Outcome.next ?released,
    fun hrun => exec_bringupStep hrun, fun hrun => exec_blockResets hrun, fun hdark => ⟨_, rfl, violation_wipes hdark⟩,
    fun h => ⟨congrArg _ (if_pos h), congrArg _ (if_pos h)⟩, fun h => ⟨congrArg _ (if_neg (by omega)), congrArg _ (if_neg (by omega))⟩⟩
  case low => exact pwrGood_falls.trans (if_neg (by simp [hseq]))
  case high => exact pwrGood_rises hdark
  case short => exact rstNPulse_short hrail h
  case long => exact rstNPulse_long hrail h hseq hstate
  case leaves =>
    obtain ⟨hasserted, hrecord, hpending, hops, hregions, hqueues, hlink, hport, hfab, hcompute, hlight, htx, hviolations, hmap⟩ :=
      assertReset_leaves (level := level) (cause := cause) hdark
    refine ⟨hasserted, hrecord, hpending, hops, hregions, hqueues, hlink, hport, hfab, hcompute, hlight, htx, hviolations, hmap, ?_, ?_⟩
    · rintro rfl hwf
      exact assertReset_records hdark hwf
    · rintro rfl
      exact assertReset_backup_cold hdark
  case held => exact resetRelease_holds h
  case released => exact if_pos ⟨hdark, by simp [hheld], hclear⟩

end Sys2Proof.Machine

end

section
/-! SUPPORT. The power ladder, alerts and trips, standby and wake, clusters that sleep and wake, polls of the rails, and the statement about
them (15 R519 to R535). -/

set_option Elab.async false

namespace Sys2Proof.Machine

/-! ### Maps -/

/-- What a map says of an address is its default, or stands in an entry for that address. -/
theorem mget_or {α : Type} (d : α) (m : SMap α) (a : Nat) : mget d m a = d ∨ (a, mget d m a) ∈ m := by
  induction m with
  | nil => exact .inl rfl
  | cons e m ih =>
    by_cases h : a = e.1
    · refine .inr ?_
      rw [mget, if_pos h, h]
      exact List.mem_cons_self
    · rw [mget, if_neg h]
      exact ih.imp_right (List.mem_cons_of_mem _)

/-! ### The ladder (15 R526 to R530) -/

/-- The highest level that reaches: none above it does, and it does itself where it is not 0. -/
theorem highest_spec (reach : Nat → Bool) : highest reach ≤ 5 ∧ (0 < highest reach → reach (highest reach) = true) ∧
    ∀ k, highest reach < k → k ≤ 5 → reach k = false := by
  have hlevels (k : Nat) (hk : 0 < k) (h5 : k ≤ 5) : k ∈ ([5, 4, 3, 2, 1] : List Nat) := by
    simp only [List.mem_cons, List.not_mem_nil, or_false]
    omega
  rw [highest]
  cases hfind : ([5, 4, 3, 2, 1] : List Nat).find? reach with
  | none =>
    refine ⟨by decide, fun h => absurd h (by decide), fun k hk h5 => ?_⟩
    simpa using List.find?_eq_none.mp hfind k (hlevels k hk h5)
  | some l =>
    obtain ⟨hreach, above, below, hsplit, habove⟩ := List.find?_eq_some_iff_append.mp hfind
    have hfalling : ([5, 4, 3, 2, 1] : List Nat).Pairwise (· > ·) := by decide
    rw [hsplit, List.pairwise_append, List.pairwise_cons] at hfalling
    obtain ⟨-, ⟨hbelow, -⟩, -⟩ := hfalling
    have hmem : l ∈ ([5, 4, 3, 2, 1] : List Nat) := List.mem_of_find?_eq_some hfind
    have hmost : ∀ x ∈ ([5, 4, 3, 2, 1] : List Nat), x ≤ 5 := by decide
    refine ⟨hmost l hmem, fun _ => hreach, fun k hk h5 => ?_⟩
    have hin := hlevels k (Nat.zero_lt_of_lt hk) h5
    rw [hsplit, List.mem_append, List.mem_cons] at hin
    rcases hin with hin | rfl | hin
    · simpa using habove k hin
    · exact absurd hk (Nat.lt_irrefl _)
    · exact absurd hk (Nat.lt_asymm (hbelow k hin))

section
variable {s : State}

/-- The check of the emergency changes its flag and the quiet time alone. -/
theorem emergencyCheck_frame : ∃ emergency quiet, s.emergencyCheck = { s with pwr := { s.pwr with emergency := emergency, quietSince := quiet } } := by
  simp only [State.emergencyCheck]
  split
  · split
    · exact ⟨s.pwr.emergency, s.pwr.quietSince, rfl⟩
    · exact ⟨_, _, rfl⟩
  · split
    · exact ⟨s.pwr.emergency, _, rfl⟩
    · exact ⟨s.pwr.emergency, s.pwr.quietSince, rfl⟩

theorem emergencyCheck_emergent (h : s.emergent = true) : s.emergencyCheck.pwr.emergency = true := by
  simp only [State.emergencyCheck, h, if_true]
  split
  next hem => exact hem.1
  · rfl

theorem emergencyCheck_keeps : s.emergencyCheck.pwr.levelPower = s.pwr.levelPower ∧ s.emergencyCheck.pwr.levelThermal = s.pwr.levelThermal ∧
    s.emergencyCheck.pwr.estimate = s.pwr.estimate ∧ s.emergencyCheck.pwr.vrAlert = s.pwr.vrAlert ∧
    s.emergencyCheck.pwr.vrAlertHold = s.pwr.vrAlertHold ∧ s.emergencyCheck = { s with pwr := s.emergencyCheck.pwr } := by
  obtain ⟨emergency, quiet, h⟩ := emergencyCheck_frame (s := s)
  rw [h]
  exact ⟨rfl, rfl, rfl, rfl, rfl, rfl⟩

/-- A new ladder level is counted and the emergency checked; levels, estimate and alert are those that the ladder has been given. -/
theorem laddered_keeps (t : State) : (s.laddered t).pwr.levelPower = t.pwr.levelPower ∧ (s.laddered t).pwr.levelThermal = t.pwr.levelThermal ∧
    (s.laddered t).pwr.estimate = t.pwr.estimate ∧ (s.laddered t).pwr.vrAlert = t.pwr.vrAlert ∧ (s.laddered t).pwr.vrAlertHold = t.pwr.vrAlertHold ∧
    s.laddered t = { t with pwr := (s.laddered t).pwr, flt := (s.laddered t).flt } := by
  simp only [State.laddered]
  split
  · obtain ⟨emergency, quiet, h⟩ := emergencyCheck_frame (s := t.count 0x35)
    rw [h]
    exact ⟨rfl, rfl, rfl, rfl, rfl, rfl⟩
  · obtain ⟨emergency, quiet, h⟩ := emergencyCheck_frame (s := t)
    rw [h]
    exact ⟨rfl, rfl, rfl, rfl, rfl, rfl⟩

/-- What POWER_ESTIMATE does with a number of watts. -/
theorem powerEstimate_good {w : Nat} (hgood : f32Bad w = false) : ∃ u l, s.powerEstimate w = u ∧ u.pwr.levelPower = max s.pwr.levelPower l ∧
    u.pwr.estimate = w ∧ l ≤ 5 ∧ (0 < l → s.powerEntry l ≤ f32Val w ∧ s.powerEntry l ≤ f32Val s.pwr.estimate) ∧
    (∀ k, l < k → k ≤ 5 → f32Val w < s.powerEntry k ∨ f32Val s.pwr.estimate < s.powerEntry k) ∧ u = { s with pwr := u.pwr, flt := u.flt } := by
  obtain ⟨hmost, hreach, habove⟩ := highest_spec (fun l => decide (s.powerEntry l ≤ f32Val w) && decide (s.powerEntry l ≤ f32Val s.pwr.estimate))
  simp only [Bool.and_eq_true, decide_eq_true_eq] at hreach
  simp only [Bool.and_eq_false_iff, decide_eq_false_iff_not, not_le] at habove
  obtain ⟨hpower, -, hestimate, -, -, hframe⟩ := laddered_keeps (s := s) _
  exact ⟨_, _, if_neg (by simp [hgood]), hpower, hestimate, hmost, hreach, habove, hframe⟩

/-- What LADDER_RISE does with a temperature of the die. -/
theorem ladderRise_good {w : Nat} (hgood : f32Bad w = false) : ∃ u l, s.ladderRise false w = u ∧ u.pwr.levelThermal = max s.pwr.levelThermal l ∧
    l ≤ 5 ∧ (0 < l → s.thermalEntry l ≤ f32Val w) ∧ (∀ k, l < k → k ≤ 5 → f32Val w < s.thermalEntry k) ∧
    u = { s with pwr := u.pwr, flt := u.flt } := by
  obtain ⟨hmost, hreach, habove⟩ := highest_spec (fun l => ((s.dieEntry false l).map (fun e => decide (e ≤ f32Val w))).getD false)
  have hentry (l : Nat) : ((s.dieEntry false l).map (fun e => decide (e ≤ f32Val w))).getD false = decide (s.thermalEntry l ≤ f32Val w) := rfl
  simp only [hentry, decide_eq_true_eq] at hreach
  simp only [hentry, decide_eq_false_iff_not, not_le] at habove
  obtain ⟨-, hthermal, -, -, -, hframe⟩ := laddered_keeps (s := s) _
  exact ⟨_, _, if_neg (by simp [hgood]), hthermal, hmost, hreach, habove, hframe⟩

theorem ladderFall_spec : s.ladderFall = { s with pwr := s.ladderFall.pwr } ∧
    s.ladderFall.pwr.levelPower = (if s.holdDone s.pwr.powerBelow s.pwr.levelPower s.pwr.powerEntered 1200000 then s.pwr.levelPower - 1 else s.pwr.levelPower) ∧
    s.ladderFall.pwr.levelThermal =
      (if s.holdDone s.pwr.thermalBelow s.pwr.levelThermal s.pwr.thermalEntered 12000000 then s.pwr.levelThermal - 1 else s.pwr.levelThermal) := by
  obtain ⟨hpower, hthermal, -, -, -, hframe⟩ := emergencyCheck_keeps (s := { s with pwr := { s.pwr with
    levelPower := if s.holdDone s.pwr.powerBelow s.pwr.levelPower s.pwr.powerEntered ms then s.pwr.levelPower - 1 else s.pwr.levelPower
    powerEntered := if s.holdDone s.pwr.powerBelow s.pwr.levelPower s.pwr.powerEntered ms then s.time else s.pwr.powerEntered
    levelThermal := if s.holdDone s.pwr.thermalBelow s.pwr.levelThermal s.pwr.thermalEntered (10 * ms) then s.pwr.levelThermal - 1 else s.pwr.levelThermal
    thermalEntered := if s.holdDone s.pwr.thermalBelow s.pwr.levelThermal s.pwr.thermalEntered (10 * ms) then s.time else s.pwr.thermalEntered } })
  exact ⟨hframe, hpower, hthermal⟩

/-! ### Alerts, emergencies and trips (15 R530 to R532) -/

/-- An alert shows at once; in a device that is not Dark it is an emergency, and the ladder stands at 3 at least. -/
theorem vrAlertLow_spec : s.vrAlertLow.pwr.vrAlert = true ∧ s.vrAlertLow.pwr.vrAlertHold = none ∧
    s.vrAlertLow = { s with pwr := s.vrAlertLow.pwr, flt := s.vrAlertLow.flt } ∧
    (s.dark = false → s.vrAlertLow.pwr.emergency = true ∧ 3 ≤ s.vrAlertLow.ladderLevel) := by
  by_cases hdark : s.dark = true
  · have hlow : s.vrAlertLow = { s with pwr := { s.pwr with vrAlert := true, vrAlertHold := none } } := if_pos hdark
    rw [hlow]
    exact ⟨rfl, rfl, rfl, fun hlive => absurd hdark (by simp [hlive])⟩
  · have hlow : s.vrAlertLow = s.laddered { s with pwr := { s.pwr with vrAlert := true, vrAlertHold := none } } := if_neg hdark
    obtain ⟨-, -, -, halert, hhold, hframe⟩ := laddered_keeps (s := s) { s with pwr := { s.pwr with vrAlert := true, vrAlertHold := none } }
    rw [hlow]
    refine ⟨halert, hhold, hframe, fun _ => ⟨?_, ?_⟩⟩
    · have hemergent (t : State) (ht : t.pwr.vrAlert = true) : t.emergent = true := by simp [State.emergent, ht]
      simp only [State.laddered]
      split <;> exact emergencyCheck_emergent (hemergent _ rfl)
    · simp only [State.ladderLevel, halert, Bool.true_or, if_true]
      omega

theorem vrAlertHigh_spec (halert : s.pwr.vrAlert = true) : s.vrAlertHigh.pwr.vrAlert = false ∧ s.vrAlertHigh.pwr.vrAlertHold = some (s.time + 1200000) ∧
    s.vrAlertHigh = { s with pwr := s.vrAlertHigh.pwr } := by
  have hhigh : s.vrAlertHigh = ({ s with pwr := { s.pwr with vrAlert := false, vrAlertHold := some (s.time + ms) } } : State).emergencyCheck :=
    if_neg (by simp [halert])
  obtain ⟨-, -, -, halert', hhold, hframe⟩ := emergencyCheck_keeps (s := { s with pwr := { s.pwr with
    vrAlert := false, vrAlertHold := some (s.time + ms) } })
  rw [hhigh]
  exact ⟨halert', hhold, hframe⟩

theorem emergencyNormal_not (h : s.pwr.quietSince = none ∨ s.emergent = true) : s.emergencyNormal = s := by
  simp only [State.emergencyNormal]
  split
  next t hquiet => exact if_neg fun ⟨_, _, _, hnot⟩ => hnot (h.resolve_left (by simp [hquiet]))
  · rfl

theorem emergencyNormal_early {t : Nat} (hquiet : s.pwr.quietSince = some t) (h : s.time < t + 12000000) : s.emergencyNormal = s := by
  simp only [State.emergencyNormal, hquiet]
  exact if_neg fun ⟨_, hdue, _⟩ => Nat.not_le.mpr h hdue

theorem emergencyNormal_ends {t : Nat} (hquiet : s.pwr.quietSince = some t) (hemergency : s.pwr.emergency = true) (hdue : t + 12000000 ≤ s.time)
    (hpower : s.runs procPower = true) (hcalm : s.emergent = false) :
    s.emergencyNormal = { s with pwr := { s.pwr with emergency := false, quietSince := none } } := by
  simp only [State.emergencyNormal, hquiet]
  exact if_pos ⟨hemergency, hdue, hpower, by simp [hcalm]⟩

theorem thermalTrip_not (h : s.pwr.trip = true ∨ s.pwr.seqOff = true ∨ bit s.rst.rails.toNat 6 = false) : s.thermalTrip = s := by
  refine if_pos ?_
  tauto

theorem thermalTrip_spec (hdark : s.dark = false) (htrip : s.pwr.trip = false) (hseq : s.pwr.seqOff = false) (hrail : bit s.rst.rails.toNat 6 = true) :
    s.thermalTrip.pwr.trip = true ∧ s.thermalTrip.pwr.tripAt = s.thermalTrip.time ∧ s.thermalTrip.rst.asserted = some 2 ∧
    s.thermalTrip.rst.record = some (2, 0x08) ∧ s.thermalTrip.ops = [] := by
  have htrips : s.thermalTrip = { s.assertReset 2 0x08 with pwr := { (s.assertReset 2 0x08).pwr with trip := true, tripAt := (s.assertReset 2 0x08).time } } :=
    if_neg (by simp [htrip, hseq, hrail])
  obtain ⟨hasserted, hrecord, -, hops, -⟩ := assertReset_leaves (level := 2) (cause := 0x08) hdark
  rw [htrips]
  exact ⟨rfl, rfl, hasserted, hrecord, hops⟩

theorem thermalTripRelease_not (h : s.pwr.trip = false ∨ s.time < s.pwr.tripAt + 1200000000) : s.thermalTripRelease = s :=
  if_pos (h.imp_left (by simp [·]))

theorem thermalTripRelease_frees (htrip : s.pwr.trip = true) (hdue : s.pwr.tripAt + 1200000000 ≤ s.time) (hrails : s.rst.rails = 255)
    (hgood : s.rst.pwrGood = true) (hseq : s.pwr.seqOff = false) :
    s.thermalTripRelease = { s with pwr := { s.pwr with trip := false }, rst := { s.rst with clearAt := s.time + 1200 } } := by
  have hfree : ¬ ({ s with pwr := { s.pwr with trip := false } } : State).resetHeld = true := by simp [State.resetHeld, hrails, hgood, hseq]
  exact (if_neg (by simp [htrip, Nat.not_lt.mpr hdue])).trans (if_neg hfree)

/-! ### Standby and wake (15 R519 to R522) -/

theorem checked_power (fn c : Nat) (fs : List (Nat × Nat × Nat)) : (s.checked fn c fs).pwr = s.pwr ∧ (s.checked fn c fs).light = s.light := by
  simp only [State.checked]
  split
  · exact ⟨rfl, rfl⟩
  · rw [State.event_frame]
    exact ⟨rfl, rfl⟩

theorem setObj_power (i k v : Nat) : (s.setObj i k v).pwr = s.pwr ∧ (s.setObj i k v).light = s.light := by
  rw [State.setObj_frame]
  exact ⟨rfl, rfl⟩

theorem startFabric_power : s.startFabric.pwr = s.pwr ∧ s.startFabric.light = s.light := by
  simp only [State.startFabric]
  split <;> exact ⟨rfl, rfl⟩

theorem restartFabric_power : s.restartFabric.1.pwr = s.pwr ∧ s.restartFabric.1.light = s.light := by
  obtain ⟨hpwr, hlight⟩ := checked_power (s := s) 2 127 s.fabricReasons
  simp only [State.restartFabric]
  split
  · obtain ⟨hpwr', hlight'⟩ := setObj_power (s := s.checked 2 127 s.fabricReasons) 0x3000 2 1
    obtain ⟨hpwr'', hlight''⟩ := startFabric_power (s := (s.checked 2 127 s.fabricReasons).setObj 0x3000 2 1)
    exact ⟨hpwr''.trans (hpwr'.trans hpwr), hlight''.trans (hlight'.trans hlight)⟩
  · obtain ⟨hpwr', hlight'⟩ := setObj_power (s := s.checked 2 127 s.fabricReasons) 0x3000 2 0
    exact ⟨hpwr'.trans hpwr, hlight'.trans hlight⟩

theorem wakeCluster_power (c : Nat) : (s.wakeCluster c).pwr = s.pwr ∧ (s.wakeCluster c).light = s.light := by
  simp only [State.wakeCluster]
  split
  · exact ⟨rfl, rfl⟩
  · split
    · rw [startLoops_frame]
      exact ⟨rfl, rfl⟩
    · exact ⟨rfl, rfl⟩

theorem foldl_wakeCluster_power (cs : List Nat) :
    (cs.foldl (fun s c => s.wakeCluster c) s).pwr = s.pwr ∧ (cs.foldl (fun s c => s.wakeCluster c) s).light = s.light := by
  induction cs generalizing s with
  | nil => exact ⟨rfl, rfl⟩
  | cons c cs ih =>
    obtain ⟨hpwr, hlight⟩ := wakeCluster_power (s := s) c
    obtain ⟨hpwr', hlight'⟩ := ih (s := s.wakeCluster c)
    exact ⟨hpwr'.trans hpwr, hlight'.trans hlight⟩

/-- The device runs again, its combs locked where they are not lost, whatever the fabric and the clusters come to. -/
theorem resumeRun_power (wake : Nat) : (s.resumeRun wake).pwr = { s.pwr with state := 3, lastWake := wake } ∧
    (s.resumeRun wake).light.compute = (if s.light.computeDead then .lost else .locked) := by
  generalize ht : ({ s with
    pwr := { s.pwr with state := 3, lastWake := wake }
    light := { s.light with
      compute := if s.light.computeDead then .lost else .locked
      link := if s.light.linkDead then .lost else .locked } } : State) = t
  have hpwr : t.pwr = { s.pwr with state := 3, lastWake := wake } := by rw [← ht]
  have hlight : t.light.compute = (if s.light.computeDead then .lost else .locked) := by rw [← ht]
  generalize hv : (if t.obj 0x3000 2 = 1 then t.restartFabric.1 else t) = v
  have hpower : v.pwr = t.pwr ∧ v.light = t.light := by
    subst hv
    split
    · exact restartFabric_power
    · exact ⟨rfl, rfl⟩
  have hresume : s.resumeRun wake = if v.obj 0x5000 0x0A = 0 then (List.range 98).foldl (fun s c => s.wakeCluster c) v else v := by
    subst hv ht
    simp only [State.resumeRun]
  rw [hresume, ← hpwr, ← hlight, ← hpower.1, ← hpower.2]
  split
  · obtain ⟨hpwr', hlight'⟩ := foldl_wakeCluster_power (s := v) (List.range 98)
    exact ⟨hpwr', congrArg Light.compute hlight'⟩
  · exact ⟨rfl, rfl⟩

section
variable {frame : Bool}

section
variable (hdark : s.dark = false)
include hdark

theorem wake_running (h : s.pwr.state ≠ 2) : s.wake frame = s := (if_neg (by simp [hdark])).trans (if_pos h)

theorem wake_frame_unheard (hstate : s.pwr.state = 2) (hport : s.pwr.fpWasActive = false) : s.wake true = s := by
  simp only [State.wake, hdark, hstate, hport, Bool.false_eq_true, not_true_eq_false, if_false, ne_eq]

theorem wake_standby (hstate : s.pwr.state = 2) (h : frame = false ∨ s.pwr.fpWasActive = true) :
    s.wake frame = s.resumeRun (if frame then 2 else 1) := by
  simp only [State.wake, hdark, hstate, Bool.false_eq_true, if_false, ne_eq, not_true_eq_false]
  cases frame with
  | false => rfl
  | true =>
    have hport : s.pwr.fpWasActive = true := h.resolve_left (by decide)
    simp only [hport, not_true_eq_false, if_false, if_true]

end

theorem wake_dark_off (hdark : s.dark = true) (hseq : s.pwr.seqOff = false) : s.wake frame = s :=
  (if_pos hdark).trans (if_neg (by simp [hseq]))

theorem wake_deep (hdark : s.dark = true) (hseq : s.pwr.seqOff = true) : ∃ u, s.wake false = u ∧ u.pwr.seqOff = false ∧ u.pwr.lastWake = 1 ∧
    u.rst.clearAt = s.time + 1200 ∧ u = { s with pwr := u.pwr, rst := u.rst } := by
  obtain ⟨pmbus, hops⟩ := foldl_operation_frame 0x80 sequence s
  have hwake : s.wake false = s.leaveDeep 1 0x02 := (if_pos hdark).trans (if_pos ⟨hseq, by decide⟩)
  rw [hwake, State.leaveDeep, hops]
  exact ⟨_, rfl, rfl, rfl, rfl, rfl⟩

end

/-! ### Clusters that sleep and wake (15 R523 to R525) -/

section
variable {c : Nat}

theorem clusterSleep_not (h : (s.cluster c).asleep = true ∨ (s.cluster c).waking.isSome = true ∨ (s.cluster c).inReset = true ∨
    s.runs procPower = false) : s.clusterSleep c = s := by
  refine if_pos ?_
  rcases h with h | h | h | h
  · exact .inr (.inl h)
  · exact .inr (.inr (.inl h))
  · exact .inr (.inr (.inr h))
  · exact .inl (by simp [h])

section
variable (hawake : (s.cluster c).asleep = false) (hwaking : (s.cluster c).waking = none) (hin : (s.cluster c).inReset = false)
  (hpower : s.runs procPower = true)
include hawake hwaking hin hpower

theorem clusterSleep_may_not (hsleep : s.sleepOk c = false) : s.clusterSleep c = s.modCluster c (fun x => { x with goingToSleep := false }) :=
  (if_neg (by simp [hawake, hwaking, hin, hpower])).trans (if_pos (by simp [hsleep]))

theorem clusterSleep_sleeps (hsleep : s.sleepOk c = true) (hwindows : s.noWindows c = true) : s.clusterSleep c = s.sleepCluster c :=
  (if_neg (by simp [hawake, hwaking, hin, hpower])).trans ((if_neg (by simp [hsleep])).trans (if_pos hwindows))

end

/-- A cluster without calibration windows has none in any of its tiles. -/
theorem noWindows_calib {tile : Nat} (hwindows : s.noWindows c = true) (htile : tile / 256 = c) : (s.tile tile).calib = none := by
  rcases mget_or {} s.tiles tile with h | h
  · rw [State.tile, h]
  · have hentry := List.all_eq_true.mp hwindows _ h
    simp only [htile, ne_eq, not_true_eq_false, decide_false, Bool.false_or, Option.isNone_iff_eq_none] at hentry
    exact hentry

/-- A tile with no window, whose spare the carousel does not use, has nothing to give back. -/
theorem carouselBack_idle {tile : Nat} (hcalib : (s.tile tile).calib = none) (hwhy : (s.tile tile).why ≠ .carousel) : s.carouselBack tile = s := by
  have habandon : s.abandonCalib tile = s := by simp only [State.abandonCalib, hcalib]
  simp only [State.carouselBack, habandon]
  split
  next hcarousel _ => exact absurd hcarousel hwhy
  · rfl

theorem foldl_carouselBack_idle (hwindows : s.noWindows c = true) (hwhy : ∀ t, t / 256 = c → (s.tile t).why ≠ .carousel) :
    (List.range 256).foldl (fun s i => s.carouselBack (256 * c + i)) s = s := by
  refine foldl_fixed fun i hi => ?_
  have hi := List.mem_range.mp hi
  have htile : (256 * c + i) / 256 = c := by omega
  exact carouselBack_idle (noWindows_calib hwindows htile) (hwhy _ htile)

/-- A cluster that sleeps: its loops are stopped, it is to be rewritten, and its rings are empty. -/
theorem sleepCluster_spec : ((s.sleepCluster c).cluster c).asleep = true ∧ ((s.sleepCluster c).cluster c).loopsOn = false ∧
    ((s.sleepCluster c).cluster c).needRewrite = true ∧ (∀ k, k / 64 / 33 / 256 = c → mget 0 (s.sleepCluster c).rings k = 0) := by
  generalize hf : (fun x : ClusterSt => ({ x with
    asleep := true, goingToSleep := false, waking := none, loopsOn := false, base := .opened, needRewrite := true, rewriting := false
    lowFrom := none, lowTo := none, queued := [], injected := [], capture := none, announced := false } : ClusterSt)) = f
  generalize hv : ((List.range 256).foldl (fun s i => s.carouselBack (256 * c + i)) s).dropWrites c = v
  have hclusters : (s.sleepCluster c).clusters = (v.modCluster c f).clusters := by
    subst hf hv
    simp only [State.sleepCluster]
  have hrings : (s.sleepCluster c).rings = v.rings.filter (fun e => decide (e.1 / 64 / 33 / 256 ≠ c)) := by
    subst hv
    simp only [State.sleepCluster, State.modCluster_rings]
  have hasleep : f (v.cluster c) ≠ {} := by
    subst hf
    exact fun h => Bool.noConfusion (congrArg ClusterSt.asleep h)
  have hself : (s.sleepCluster c).cluster c = f (v.cluster c) := by
    rw [State.cluster, hclusters]
    exact cluster_modCluster_self hasleep
  rw [hself, hrings, ← hf]
  refine ⟨rfl, rfl, rfl, fun k hk => (mget_or 0 _ k).resolve_right fun h => ?_⟩
  rw [List.mem_filter, decide_eq_true_eq] at h
  exact h.2 hk

theorem sleepCluster_frame (hwindows : s.noWindows c = true) (hwhy : ∀ t, t / 256 = c → (s.tile t).why ≠ .carousel) :
    s.sleepCluster c = { s with
      tiles := (s.sleepCluster c).tiles, clusters := (s.sleepCluster c).clusters, cols := (s.sleepCluster c).cols
      heaters := (s.sleepCluster c).heaters, rings := (s.sleepCluster c).rings, codes := (s.sleepCluster c).codes
      ringAt := (s.sleepCluster c).ringAt, writes := (s.sleepCluster c).writes, mirrorReads := (s.sleepCluster c).mirrorReads
      cal := (s.sleepCluster c).cal } := by
  generalize hu : s.sleepCluster c = u
  simp only [State.sleepCluster, foldl_carouselBack_idle hwindows hwhy] at hu
  subst hu
  rfl

theorem clusterWake_not (h : s.wanted c = false ∨ (s.cluster c).asleep = false) : s.clusterWake c = s := by
  by_cases hwanted : s.wanted c = true
  · have hawake := h.resolve_left (by simp [hwanted])
    exact (if_pos hwanted).trans (if_pos (by simp [hawake]))
  · exact if_neg hwanted

theorem clusterWake_wanted (hwanted : s.wanted c = true) (hasleep : (s.cluster c).asleep = true) (hloops : s.loopsRun c = false) :
    s.clusterWake c = (s.modCluster c (fun x => { x with asleep := false, waking := some s.time, needRewrite := true })).count 0x34 := by
  have hstopped : ¬ (((s.modCluster c (fun x => { x with asleep := false, waking := some s.time, needRewrite := true })).count 0x34).loopsRun c = true ∧
      ((s.modCluster c (fun x => { x with asleep := false, waking := some s.time, needRewrite := true })).count 0x34).loopsAble c = true) :=
    fun h => Bool.false_ne_true (hloops.symm.trans h.1)
  exact (if_pos hwanted).trans ((if_neg (by simp [hasleep])).trans (if_neg hstopped))

theorem clusterAwake_not (h : (s.cluster c).waking = none ∨ s.loopsLocked c = false ∨ (s.cluster c).rewriting = true) : s.clusterAwake c = s := by
  refine if_pos ?_
  rcases h with h | h | h
  · exact .inl (by simp [h])
  · exact .inr (.inl (by simp [h]))
  · exact .inr (.inr h)

section
variable (hwaking : (s.cluster c).waking.isSome = true) (hlocked : s.loopsLocked c = true) (hdone : (s.cluster c).rewriting = false)
include hwaking hlocked hdone

theorem clusterAwake_rewrites (hneed : (s.cluster c).needRewrite = true) : s.clusterAwake c =
    if ((s.rewriteCluster c).cluster c).needRewrite then s.rewriteCluster c else (s.rewriteCluster c).modCluster c (fun x => { x with waking := none }) := by
  refine (if_neg ?_).trans ?_
  · simp [hlocked, hdone, Option.ne_none_iff_isSome.mpr hwaking]
  · simp only [hneed, if_true]

theorem clusterAwake_awake (hneed : (s.cluster c).needRewrite = false) : s.clusterAwake c = s.modCluster c (fun x => { x with waking := none }) := by
  refine (if_neg ?_).trans ?_
  · simp [hlocked, hdone, Option.ne_none_iff_isSome.mpr hwaking]
  · simp only [hneed, Bool.false_eq_true, if_false]

end

end

section
variable {tile p : Nat}

theorem wakeLockTimeout_none (h : (s.cluster (tile / 256)).waking = none) : s.wakeLockTimeout tile p = s := by
  simp only [State.wakeLockTimeout, h]

theorem wakeLockTimeout_early {t : Nat} (hwaking : (s.cluster (tile / 256)).waking = some t) (h : s.time < t + 1200000 ∨ s.loopOf tile p = .locked) :
    s.wakeLockTimeout tile p = s := by
  simp only [State.wakeLockTimeout, hwaking]
  exact if_pos (h.imp_right .inl)

theorem wakeLockTimeout_fails {t : Nat} (hwaking : (s.cluster (tile / 256)).waking = some t) (hdue : t + 1200000 ≤ s.time)
    (hloop : s.loopOf tile p ≠ .locked) (hcol : (s.col tile p).retired = false) (hrec : p ∉ (s.tile tile).recovs) :
    s.wakeLockTimeout tile p = (s.enterRecovery tile p 3).attemptFailed tile p := by
  simp only [State.wakeLockTimeout, hwaking]
  exact if_neg (by simp [hloop, hcol, hrec, hdue])

end

/-! ### Polls of the rails (15 R533, R535) -/

section
variable {n : Nat}

/-- A rail whose regulators were sent CLEAR_FAULTS is not waited for any more. -/
def State.polled (s : State) (n : Nat) : State :=
  { s with pwr := { s.pwr with clearing := BitVec.ofNat 8 (setBits s.pwr.clearing.toNat (n - 1) 1 0) } }

theorem pmbusPoll_not {a : Option VrAnswer} (h : s.runs procPower = false ∨ s.rst.step < 4) : s.pmbusPoll n a = s :=
  if_pos (h.imp_left (by simp [·]))

theorem pmbusPoll_runs {a : Option VrAnswer} (hpower : s.runs procPower = true) (hstep : 4 ≤ s.rst.step) : s.pmbusPoll n a =
    match (s.polled n).pollRail n a with
    | (s, some false) => s.latchRail n
    | (t, some true) =>
      if bit s.pwr.clearing.toNat (n - 1) then { t with pwr := { t.pwr with vrFault := BitVec.ofNat 8 (setBits t.pwr.vrFault.toNat (n - 1) 1 0) } } else t
    | (s, none) => s := by
  refine (if_neg ?_).trans ?_
  · simp [hpower, Nat.not_lt.mpr hstep]
  · rfl

/-- A rail that is latched reads so. -/
theorem latchRail_latched {t : State} (rail : Fin 8) (h : t.vrLatched (rail.val + 1) = false) : (t.latchRail (rail.val + 1)).vrLatched (rail.val + 1) = true := by
  have hbit : (t.pwr.vrFault ||| BitVec.ofNat 8 (2 ^ rail.val)).toNat.testBit rail.val = true := by
    rw [BitVec.toNat_or, Nat.testBit_or, BitVec.toNat_ofNat, Nat.testBit_mod_two_pow, Nat.testBit_two_pow_self]
    simp
  have hlatch : (t.latchRail (rail.val + 1)).pwr.vrFault = t.pwr.vrFault ||| BitVec.ofNat 8 (2 ^ rail.val) := by
    rw [State.latchRail, if_neg (by simp [h]), condition_frame]
    rfl
  rw [State.vrLatched, hlatch]
  exact hbit

section
variable (hpower : s.runs procPower = true) (hstep : 4 ≤ s.rst.step)
include hpower hstep

theorem pmbusPoll_missed (hfew : mget 0 s.pwr.misses n < 2) : ∃ clearing, s.pmbusPoll n none = { s with
    pwr := { s.pwr with clearing := clearing, misses := mset 0 s.pwr.misses n (mget 0 s.pwr.misses n + 1) } } := by
  have hthird : ¬ 3 ≤ mget 0 (s.polled n).pwr.misses n + 1 := fun h => by
    have hmisses : mget 0 (s.polled n).pwr.misses n = mget 0 s.pwr.misses n := rfl
    omega
  rw [pmbusPoll_runs hpower hstep]
  simp only [State.pollRail, if_neg hthird]
  exact ⟨_, rfl⟩

theorem pmbusPoll_third {rail : Fin 8} (hmany : 2 ≤ mget 0 s.pwr.misses (rail.val + 1)) (hlatched : s.vrLatched (rail.val + 1) = false) :
    (s.pmbusPoll (rail.val + 1) none).vrLatched (rail.val + 1) = true := by
  have hthird : 3 ≤ mget 0 (s.polled (rail.val + 1)).pwr.misses (rail.val + 1) + 1 := by
    have hmisses : mget 0 (s.polled (rail.val + 1)).pwr.misses (rail.val + 1) = mget 0 s.pwr.misses (rail.val + 1) := rfl
    omega
  rw [pmbusPoll_runs hpower hstep]
  simp only [State.pollRail, if_pos hthird]
  exact latchRail_latched rail hlatched

/-- An answer whose voltage has the linear format, is within a twentieth of the rail's and shows no fault. -/
theorem pmbusPoll_clean {a : VrAnswer} (hmode : bits a.mode.toNat 5 3 = 0) (hstatus : statusFault a.status = false)
    (hclearing : bit s.pwr.clearing.toNat (n - 1) = false)
    (hlow : 95 / 100 * railVolts n ≤ (a.vout.toNat : ℚ) * pow2 (sint 5 (bits a.mode.toNat 0 5)))
    (hhigh : (a.vout.toNat : ℚ) * pow2 (sint 5 (bits a.mode.toNat 0 5)) ≤ 105 / 100 * railVolts n) :
    ∃ clearing, s.pmbusPoll n (some a) = { s with pwr := { s.pwr with
      clearing := clearing
      misses := mdel s.pwr.misses n
      telemetry := mset [] s.pwr.telemetry n [f32Code (linear11 a.vin), f32Code ((a.vout.toNat : ℚ) * pow2 (sint 5 (bits a.mode.toNat 0 5))),
        f32Code (linear11 a.iout), f32Code (linear11 a.temp), a.status.toNat] } } := by
  have hvout (t : State) : t.vout a = ((a.vout.toNat : ℚ) * pow2 (sint 5 (bits a.mode.toNat 0 5)), t) := by
    simp only [State.vout, hmode]
  have hin : ¬ ((a.vout.toNat : ℚ) * pow2 (sint 5 (bits a.mode.toNat 0 5)) < 95 / 100 * railVolts n ∨
      105 / 100 * railVolts n < (a.vout.toNat : ℚ) * pow2 (sint 5 (bits a.mode.toNat 0 5))) :=
    not_or.mpr ⟨not_lt.mpr hlow, not_lt.mpr hhigh⟩
  rw [pmbusPoll_runs hpower hstep]
  simp only [State.pollRail, hvout, hstatus, hin, not_false_eq_true, decide_true, Bool.not_false, Bool.and_true, hclearing, Bool.false_eq_true, if_false]
  exact ⟨_, rfl⟩

end

end

end

/-! ### O58 -/

section
variable {s : State}

theorem exec_ladder (hrun : Running s) (w : BitVec 32) :
    (f32Bad w.toNat = true → exec (.powerEstimate w) s = .next s ∧ ∀ dram, exec (.ladderRise dram w) s = .next s) ∧
    (f32Bad w.toNat = false →
      (∃ (u : State) (l : Nat), exec (.powerEstimate w) s = .next u ∧ u.pwr.levelPower = max s.pwr.levelPower l ∧ u.pwr.estimate = w.toNat ∧ l ≤ 5 ∧
        (0 < l → s.powerEntry l ≤ f32Val w.toNat ∧ s.powerEntry l ≤ f32Val s.pwr.estimate) ∧
        (∀ k, l < k → k ≤ 5 → f32Val w.toNat < s.powerEntry k ∨ f32Val s.pwr.estimate < s.powerEntry k) ∧
        u = { s with pwr := u.pwr, flt := u.flt }) ∧
      (∃ (u : State) (l : Nat), exec (.ladderRise false w) s = .next u ∧ u.pwr.levelThermal = max s.pwr.levelThermal l ∧ l ≤ 5 ∧
        (0 < l → s.thermalEntry l ≤ f32Val w.toNat) ∧ (∀ k, l < k → k ≤ 5 → f32Val w.toNat < s.thermalEntry k) ∧
        u = { s with pwr := u.pwr, flt := u.flt })) := by
  refine ⟨fun hbad => ⟨live_next hrun (if_pos hbad), fun dram => live_next hrun (if_pos hbad)⟩, fun hgood => ⟨?_, ?_⟩⟩
  · obtain ⟨u, l, hu, hspec⟩ := powerEstimate_good hgood
    exact ⟨u, l, live_next hrun hu, hspec⟩
  · obtain ⟨u, l, hu, hspec⟩ := ladderRise_good hgood
    exact ⟨u, l, live_next hrun hu, hspec⟩

theorem exec_wake (frame : Bool) : (s.dark = false → s.pwr.state ≠ 2 → exec (.wake frame) s = .next s) ∧
    (s.dark = false → s.pwr.state = 2 → frame = true → s.pwr.fpWasActive = false → exec (.wake frame) s = .next s) ∧
    (s.dark = false → s.pwr.state = 2 → frame = false ∨ s.pwr.fpWasActive = true → ∃ u : State, exec (.wake frame) s = .next u ∧
      u.pwr = { s.pwr with state := 3, lastWake := if frame then 2 else 1 } ∧ u.light.compute = (if s.light.computeDead then .lost else .locked)) ∧
    (s.dark = true → s.pwr.seqOff = false → exec (.wake frame) s = .next s) ∧
    (s.dark = true → s.pwr.seqOff = true → frame = false → ∃ u : State, exec (.wake frame) s = .next u ∧ u.pwr.seqOff = false ∧ u.pwr.lastWake = 1 ∧
      u.rst.clearAt = s.time + 1200 ∧ u = { s with pwr := u.pwr, rst := u.rst }) := by
  refine ⟨fun hdark h => congrArg Host.Outcome.next (wake_running hdark h), ?unheard, fun hdark hstate h => ⟨_, rfl, ?resumes⟩,
    fun hdark hseq => congrArg Host.Outcome.next (wake_dark_off hdark hseq), ?deep⟩
  case unheard =>
    rintro hdark hstate rfl hport
    exact congrArg Host.Outcome.next (wake_frame_unheard hdark hstate hport)
  case resumes =>
    rw [wake_standby hdark hstate h]
    exact resumeRun_power _
  case deep =>
    rintro hdark hseq rfl
    obtain ⟨u, hu, hspec⟩ := wake_deep hdark hseq
    exact ⟨u, congrArg Host.Outcome.next hu, hspec⟩

section
variable (hrun : Running s)
include hrun

theorem exec_clusterSleep (c : Fin 98) (hawake : (s.cluster c).asleep = false) (hwaking : (s.cluster c).waking = none)
    (hin : (s.cluster c).inReset = false) (hpower : s.runs procPower = true) :
    (s.sleepOk c = false → exec (.clusterSleep c) s = .next { s with clusters := mset {} s.clusters c { s.cluster c with goingToSleep := false } }) ∧
    (s.sleepOk c = true → s.noWindows c = true → ∃ u : State, exec (.clusterSleep c) s = .next u ∧ (u.cluster c).asleep = true ∧
      (u.cluster c).loopsOn = false ∧ (u.cluster c).needRewrite = true ∧ (∀ k, k / 64 / 33 / 256 = c.val → mwf 0 s.rings = true → mget 0 u.rings k = 0) ∧
      ((∀ t, t / 256 = c.val → (s.tile t).why ≠ .carousel) → u = { s with
        tiles := u.tiles, clusters := u.clusters, cols := u.cols, heaters := u.heaters, rings := u.rings, codes := u.codes, ringAt := u.ringAt
        writes := u.writes, mirrorReads := u.mirrorReads, cal := u.cal })) := by
  refine ⟨fun hsleep => live_next hrun (clusterSleep_may_not hawake hwaking hin hpower hsleep), fun hsleep hwindows =>
    ⟨_, live_next hrun (clusterSleep_sleeps hawake hwaking hin hpower hsleep hwindows), ?_⟩⟩
  obtain ⟨hasleep, hloops, hneed, hrings⟩ := sleepCluster_spec (s := s) (c := c)
  exact ⟨hasleep, hloops, hneed, fun k hk _ => hrings k hk, sleepCluster_frame hwindows⟩

theorem exec_pmbusPoll (rail : Fin 8) : (s.runs procPower = false ∨ s.rst.step < 4 → ∀ a, exec (.pmbusPoll rail a) s = .next s) ∧
    (s.runs procPower = true → 4 ≤ s.rst.step →
      (mget 0 s.pwr.misses (rail.val + 1) < 2 → ∃ u : State, exec (.pmbusPoll rail none) s = .next u ∧ u = { s with
        pwr := { s.pwr with clearing := u.pwr.clearing, misses := mset 0 s.pwr.misses (rail.val + 1) (mget 0 s.pwr.misses (rail.val + 1) + 1) } }) ∧
      (2 ≤ mget 0 s.pwr.misses (rail.val + 1) → s.vrLatched (rail.val + 1) = false → ∃ u : State, exec (.pmbusPoll rail none) s = .next u ∧ u.vrLatched (rail.val + 1) = true) ∧
      (∀ a : VrAnswer, bits a.mode.toNat 5 3 = 0 → statusFault a.status = false → bit s.pwr.clearing.toNat rail = false →
        95 / 100 * railVolts (rail.val + 1) ≤ (a.vout.toNat : ℚ) * pow2 (sint 5 (bits a.mode.toNat 0 5)) →
        (a.vout.toNat : ℚ) * pow2 (sint 5 (bits a.mode.toNat 0 5)) ≤ 105 / 100 * railVolts (rail.val + 1) →
        ∃ u : State, exec (.pmbusPoll rail (some a)) s = .next u ∧ u.pwr.vrFault = s.pwr.vrFault ∧ u.pwr.misses = mdel s.pwr.misses (rail.val + 1) ∧
          mget [] u.pwr.telemetry (rail.val + 1) = [f32Code (linear11 a.vin), f32Code ((a.vout.toNat : ℚ) * pow2 (sint 5 (bits a.mode.toNat 0 5))),
            f32Code (linear11 a.iout), f32Code (linear11 a.temp), a.status.toNat] ∧
          u = { s with pwr := u.pwr })) := by
  refine ⟨fun h a => live_next hrun (pmbusPoll_not h), fun hpower hstep => ⟨fun hfew => ?missed,
    fun hmany hlatched => ⟨_, live_next hrun rfl, pmbusPoll_third hpower hstep hmany hlatched⟩, fun a hmode hstatus hclearing hlow hhigh => ?clean⟩⟩
  case missed =>
    obtain ⟨clearing, h⟩ := pmbusPoll_missed (n := rail.val + 1) hpower hstep hfew
    exact ⟨_, live_next hrun h, rfl⟩
  case clean =>
    obtain ⟨clearing, h⟩ := pmbusPoll_clean (n := rail.val + 1) hpower hstep hmode hstatus hclearing hlow hhigh
    exact ⟨_, live_next hrun h, rfl, rfl, mget_mset_ne _ _ _ _ (List.cons_ne_nil _ _), rfl⟩

end

end

/-- Settles O58, by subject: the ladder, alerts and trips, wakes, the sleep of clusters, and polls. -/
theorem powerLevelsTripsAndSleep : Obligations.PowerLevelsTripsAndSleep := by
  unfold Obligations.PowerLevelsTripsAndSleep
  intro s
  refine ⟨exec_ladder, fun hrun => ⟨_, live_next hrun rfl, ladderFall_spec⟩, ⟨_, rfl, vrAlertLow_spec⟩, fun h => congrArg Host.Outcome.next ?noAlert,
    fun h => ⟨_, rfl, vrAlertHigh_spec h⟩, fun hrun => ⟨fun h => live_next hrun (emergencyNormal_not h), fun t hquiet =>
      ⟨fun h => live_next hrun (emergencyNormal_early hquiet h), fun hemergency hdue hpower hcalm =>
        live_next hrun (emergencyNormal_ends hquiet hemergency hdue hpower hcalm)⟩⟩,
    fun h => congrArg Host.Outcome.next (thermalTrip_not h), fun hdark htrip hseq hrail => ⟨_, rfl, thermalTrip_spec hdark htrip hseq hrail⟩,
    fun h => congrArg Host.Outcome.next (thermalTripRelease_not h), fun htrip hdue hrails hgood hseq =>
      congrArg Host.Outcome.next (thermalTripRelease_frees htrip hdue hrails hgood hseq),
    exec_wake, fun hrun c => ⟨fun h => live_next hrun (clusterSleep_not h), exec_clusterSleep hrun c, fun h => live_next hrun (clusterWake_not h),
      fun hwanted hasleep hloops => live_next hrun (clusterWake_wanted hwanted hasleep hloops), fun hwaking hlocked hdone hneed =>
        live_next hrun (clusterAwake_rewrites hwaking hlocked hdone hneed), fun hwaking hlocked hdone hneed =>
        live_next hrun (clusterAwake_awake hwaking hlocked hdone hneed), fun h => live_next hrun (clusterAwake_not h)⟩,
    fun hrun tile p => ⟨fun h => live_next hrun (wakeLockTimeout_none h), fun t hwaking => ⟨fun h => live_next hrun (wakeLockTimeout_early hwaking h),
      fun hdue hloop hcol hrec => live_next hrun (wakeLockTimeout_fails hwaking hdue hloop hcol hrec)⟩⟩,
    exec_pmbusPoll⟩
  case noAlert => exact if_pos (by simp [h])

end Sys2Proof.Machine

end
